-- ==== Sys2Proof/Syntax.lean ====
section
/-! DEFINITION. The commands of the block: one constructor per row of the spec's command table, in its order, with the row's
operands. What comes from outside the device (bytes on the SPI port, samples, stamps, voltages) is an operand. -/

namespace Sys2Proof

/-- An OP_SUBMIT request (R290, R302): the frame's tag and address, the header fields after TYPE (which the row fixes), the
parameter block and the CRC that came with it. LEN is 8 plus the length of the block. A value of `opcode` is an OPCODE that names none of
the six and stands in place of OP_SUBMIT's, in a frame without payload (R294). A value of `type` is a TYPE of no operation that stands in
place of the row's (R304). -/
structure OpReq where
  tag : Byte
  opcode : Option Byte := none
  type : Option Byte := none
  addr : BitVec 24 := 0
  flags : Byte := 0
  epoch : Byte := 0
  rsvd : Byte := 0
  deadline : Word := 0
  params : List Byte
  crc : BitVec 16
  deriving DecidableEq, Repr

/-- The blocks that have a COMMIT register (R92). -/
inductive CommitBlock where
  | afe | ech | flw | tmu | ldg | rad | msh
  deriving DecidableEq, Repr


/-- A frame as the receiver decoded it (R243, R245, R255): its octets with the check fields, RSSI in dBm, whether the check fields
pass, coded, 2-octet FCS or format B, mode C1, and whether it needs a feature the device lacks. -/
structure RxFrame where
  psdu : List Byte
  rssi : Byte
  ok : Bool := true
  fec : Bool := false
  fmtB : Bool := false
  modeC : Bool := false
  unsup : Bool := false
  deriving DecidableEq, Repr

/-- The pieces of work that have an abort point (R70); for echo the slots whose steps are in progress. -/
inductive AbortWork where
  | capture | markSeq | wake | slink | echo (slots : BitVec 16) | conversion | nvm | transmission | reception | background
  deriving DecidableEq, Repr

/-- A device fault detected during the mark sequence (R58): its cause less 1 (R37), the step before which it is detected less 2, so 0
stands for before S2 and 4 for before S6, and the mask of further causes detected in the same cycle (R40). Where the step is 3 it is
detected within S4: `blocks` of the sampled blocks are applied by then and the others stay pending. With `reload` the fault before S6
falls in the cycle in which S5 applies an image, and is taken with it. -/
structure MarkFault where
  cause : Fin 5
  step : Fin 5
  also : BitVec 5 := 0
  blocks : Fin 8 := 7
  reload : Bool := false
  deriving DecidableEq, Repr

/-- A crossing at a comparator input: its direction, and the swing of the signal before it in µV (R111). -/
structure Crossing where
  rising : Bool
  swing : Nat := 50000
  deriving DecidableEq, Repr

/-- How an attempt on the supply link ends: with these two acknowledgement bytes or with none (R349), and the mask of further causes
detected in the cycle in which it does, which counts where the transaction fails with it (R40). -/
structure LinkEnd where
  ack : Option (Byte × Byte)
  also : BitVec 5 := 0
  deriving DecidableEq, Repr

/-- The commands, one constructor per row of the command table. -/
inductive Instr where
  /-- READ, R295 -/
  | read (tag : Byte) (addr : BitVec 24) (len : BitVec 16) (crc : BitVec 16)
  /-- WRITE, R295 -/
  | write (tag : Byte) (addr : BitVec 24) (data : List Byte) (crc : BitVec 16)
  /-- OP_STATUS, R308 -/
  | opStatus (tag : Byte) (addr : BitVec 24) (len : BitVec 16) (crc : BitVec 16)
  /-- STREAM_READ, R297 -/
  | streamRead (tag : Byte) (addr : BitVec 24) (len : BitVec 16) (crc : BitVec 16)
  /-- UPDATE_BLOCK, R381 -/
  | updateBlock (tag : Byte) (addr : BitVec 24) (data : List Byte) (crc : BitVec 16)
  /-- REQUEST_ABORT, R291 -/
  | requestAbort
  /-- SHOT, R189 -/
  | shot (r : OpReq)
  /-- CONVERT, R211 -/
  | convert (r : OpReq)
  /-- NVM_WRITE, R331 -/
  | nvmWrite (r : OpReq)
  /-- SCRUB, R325 -/
  | scrub (r : OpReq)
  /-- RADIO_TX, R282 -/
  | radioTx (r : OpReq)
  /-- RADIO_SCAN, R254 -/
  | radioScan (r : OpReq)
  /-- LEDGER_COMMIT, R237 -/
  | ledgerCommit (r : OpReq)
  /-- SLINK_SET, R351 -/
  | slinkSet (r : OpReq)
  /-- STI_LOAD, R78 -/
  | stiLoad (r : OpReq)
  /-- OPERATION_DEADLINE, R306 -/
  | operationDeadline (n : Fin 16)
  /-- REGISTER_WRITE, R19 -/
  | registerWrite (addr : BitVec 24) (v : Word)
  /-- PENDING_WRITE, R92 -/
  | pendingWrite (addr : BitVec 24) (v : Word)
  /-- COMMIT_REQ, R92 -/
  | commitReq (b : CommitBlock)
  /-- COMMIT_DISCARD, R92 -/
  | commitDiscard (b : CommitBlock)
  /-- ACCUMULATOR_SNAPSHOT, R217 -/
  | accumulatorSnapshot (a : Fin 17)
  /-- FLW_STATUS_SNAPSHOT, R183 -/
  | flwStatusSnapshot
  /-- TMU_STATUS_SNAPSHOT, R203 -/
  | tmuStatusSnapshot
  /-- EVENT_CHANNEL_ARM, R134 -/
  | eventChannelArm (e : Fin 6)
  /-- EVENT_CHANNEL_DISARM, R136 -/
  | eventChannelDisarm (e : Fin 6)
  /-- RESULT_QUEUE_READ, R132 -/
  | resultQueueRead (e : Fin 6)
  /-- STATISTICS_GO, R138 -/
  | statisticsGo (c : Fin 22) (v : Word)
  /-- STATISTICS_STOP, R138 -/
  | statisticsStop (c : Fin 22) (v : Word)
  /-- STATISTICS_SNAPSHOT, R140 -/
  | statisticsSnapshot (c : Fin 22)
  /-- SLOT_RELEASE, R121 -/
  | slotRelease (mask : BitVec 16)
  /-- RESEED, R159 -/
  | reseed (mask : Byte)
  /-- AMP_RESET, R160 -/
  | ampReset (mask : Byte)
  /-- HOST_EMPTY, R169 -/
  | hostEmpty
  /-- HOST_REFILL, R169 -/
  | hostRefill
  /-- UNFAIL, R182 -/
  | unfail (mask : Byte)
  /-- RATIO_RESET, R181 -/
  | ratioReset (mask : Byte)
  /-- CLEAR, R219 -/
  | clearLedger (v : Word)
  /-- HOSTINC_GO, R230 -/
  | hostincGo
  /-- RXREL, R255 -/
  | rxrel (mask : BitVec 4)
  /-- JOIN, R276 -/
  | join
  /-- LEAVE, R276 -/
  | leave
  /-- REPORT, R280 -/
  | report
  /-- FOG_GO, R279 -/
  | fogGo
  /-- PROVISION_WRITE, R275 -/
  | provisionWrite
  /-- PROVISION_DELETE, R275 -/
  | provisionDelete
  /-- PROVISION_LOAD, R275 -/
  | provisionLoad
  /-- KEEPER_EVENT_READ, R288 -/
  | keeperEventRead
  /-- ROW_RETIRE, R329 -/
  | rowRetire (bank : Fin 16) (row : Fin 32)
  /-- PAGE_RETIRE, R330 -/
  | pageRetire (page : Fin 512)
  /-- FLIP_ARM, R324 -/
  | flipArm (region : Fin 32)
  /-- FLIP_DISARM, R324 -/
  | flipDisarm (region : Fin 32)
  /-- LOG_SNAPSHOT, R327 -/
  | logSnapshot
  /-- LOG_CLEAR, R327 -/
  | logClear
  /-- POLICY_WRITE, R317 -/
  | policyWrite (v : Word)
  /-- HOLD, R344 -/
  | hold (v : Word)
  /-- SLEEP_SET, R345 -/
  | sleepSet (v : Word)
  /-- SLEEP_SET_START, R345 -/
  | sleepSetStart (stop : Option Nat)
  /-- RTC_FIELD_WRITE, R360 -/
  | rtcFieldWrite (f : Fin 9) (v : Word)
  /-- RTC_COMMIT, R360 -/
  | rtcCommit
  /-- RTC_DISCARD, R360 -/
  | rtcDiscard
  /-- RTC_UNFREEZE, R359 -/
  | rtcUnfreeze
  /-- TIME_READ, R359 -/
  | timeRead (f : Fin 9)
  /-- TRIM_WRITE, R364 -/
  | trimWrite (v : Word)
  /-- BEGIN, R379 -/
  | updBegin
  /-- VERIFY, R382 -/
  | updVerify
  /-- ACTIVATE, R383 -/
  | updActivate
  /-- ABORT, R379 -/
  | updAbort
  /-- CONFIRM, R386 -/
  | updConfirm
  /-- TRANSITION_REQUEST, R369 -/
  | transitionRequest (v : Word)
  /-- TRANSITION_CANCEL, R369 -/
  | transitionCancel (v : Word)
  /-- KEY_WRITE, R375 -/
  | keyWrite
  /-- TRNG_READ, R390 -/
  | trngRead
  /-- TRIG_EDGE, R69 -/
  | trigEdge (t : Nat)
  /-- RSTN_RESET, R44 -/
  | rstnReset (temp : BitVec 16)
  /-- POWER_ON, R44 -/
  | powerOn (temp : BitVec 16)
  /-- WDOG, R37 -/
  | wdog (also : BitVec 5)
  /-- POISON_EXEC, R322 -/
  | poisonExec (also : BitVec 5)
  /-- CLK_LOSS, R37 -/
  | clkLoss (also : BitVec 5)
  /-- BROWNOUT, R353 -/
  | brownout (also : BitVec 5)
  /-- RECOVERY_COMPLETE, R40 -/
  | recoveryComplete
  /-- BKP_POWER_LOSS, R356 -/
  | bkpPowerLoss
  /-- POWER_FAIL_WARNING, R352 -/
  | powerFailWarning (t : Nat)
  /-- SUPPLY_RECOVERED, R352 -/
  | supplyRecovered
  /-- RETENTION_MONITOR_TRIP, R342 -/
  | retentionMonitorTrip (b : Fin 17)
  /-- LOCK_LOSS, R126 -/
  | lockLoss
  /-- RELOCK, R126 -/
  | relock
  /-- EVENT_ORIGIN, R134 -/
  | eventOrigin (e : Fin 6)
  /-- EVENT_EDGE, R130 -/
  | eventEdge (e : Fin 6) (stamp : Word) (rising : Bool)
  /-- COARSE_OVERFLOW, R133 -/
  | coarseOverflow (e : Fin 6)
  /-- ZERO_CROSSING, R127 -/
  | zeroCrossing (port : Fin 16) (stamp : Word) (x : Crossing)
  /-- LF_TICK, R362 -/
  | lfTick
  /-- FREEZE_TIMEOUT, R359 -/
  | freezeTimeout
  /-- RATE_RECOMPUTE, R363 -/
  | rateRecompute (temp : BitVec 16)
  /-- HOUR_ADVANCE, R141 -/
  | hourAdvance (temp : BitVec 16)
  /-- MARK, R55 -/
  | mark (temp : BitVec 16) (fault : Option MarkFault)
  /-- SWAP_RESET, R383 -/
  | swapReset (temp : BitVec 16)
  /-- MARK_LEAD, R54 -/
  | markLead
  /-- FACET_START, R63 -/
  | facetStart (f : Fin 64)
  /-- FACET_END, R63 -/
  | facetEnd (vbat : BitVec 16)
  /-- APPLY1_WORK, R89 -/
  | apply1Work (rises : List (Option Nat))
  /-- APPLY2_WORK, R89 -/
  | apply2Work
  /-- STI_VALIDATION_DONE, R79 -/
  | stiValidationDone
  /-- HW_SHOT_FIRE, R113 -/
  | hwShotFire (t : Nat)
  /-- HOST_SHOT_FIRE, R68 -/
  | hostShotFire (t : Nat)
  /-- CAPTURE_COMPLETE, R120 -/
  | captureComplete (x : List (List (BitVec 12) × List (BitVec 12)))
  /-- ECHO_STEP, R153 -/
  | echoStep (k : Fin 16) (t : Nat)
  /-- CONVERSION_START, R209 -/
  | conversionStart (t : Nat)
  /-- DISCHARGE_TIMEOUT, R195 -/
  | dischargeTimeout
  /-- CONVERSION_COMPLETE, R196 -/
  | conversionComplete
  /-- PERIODIC_COMMIT, R234 -/
  | periodicCommit
  /-- LEDGER_RECORD_PROGRAM, R234 -/
  | ledgerRecordProgram (bad : Option (Fin 4)) (us : Nat)
  /-- LEDGER_PAGE_ERASE, R234 -/
  | ledgerPageErase
  /-- NVM_PAGE_ATTEMPT, R332 -/
  | nvmPageAttempt (bad : Option (Fin 128))
  /-- SCRUB_WORD, R326 -/
  | scrubWord
  /-- ROW_COPY_DONE, R329 -/
  | rowCopyDone
  /-- PULSE_START, R239 -/
  | pulseStart (p : Fin 2)
  /-- PULSE_END, R239 -/
  | pulseEnd (p : Fin 2)
  /-- GOVERNOR_MINUTE, R251 -/
  | governorMinute
  /-- LBT_LISTEN_END, R248 -/
  | lbtListenEnd (rssi : Byte) (t : Nat)
  /-- TRANSMISSION_END, R253 -/
  | transmissionEnd (t : Nat)
  /-- FRAME_RECEIVED, R272 -/
  | frameReceived (f : RxFrame)
  /-- ANSWER_WINDOW_END, R274 -/
  | answerWindowEnd
  /-- ACK_SEND, R274 -/
  | ackSend
  /-- DOWNLINK_SEND, R283 -/
  | downlinkSend
  /-- RETRY_WAIT_END, R281 -/
  | retryWaitEnd
  /-- FLASH_SEND, R263 -/
  | flashSend
  /-- FLASH_WINDOW_OPEN, R264 -/
  | flashWindowOpen
  /-- FLASH_WINDOW_CLOSE, R264 -/
  | flashWindowClose
  /-- FLOOD_RELAY, R268 -/
  | floodRelay
  /-- FLOOD_ORIGINATE, R269 -/
  | floodOriginate
  /-- JOIN_REQ, R276 -/
  | joinReq
  /-- SCAN_DWELL_END, R254 -/
  | scanDwellEnd
  /-- FOG_EVENT, R70 -/
  | fogEvent (t : Nat)
  /-- ABORT_POINT, R70 -/
  | abortPoint (w : AbortWork)
  /-- FOG_FRAME_SEND, R73 -/
  | fogFrameSend (t : Nat)
  /-- WAKE_STAGE, R338 -/
  | wakeStage (k : Fin 27) (us : Nat)
  /-- SUPPLY_LINK_ATTEMPT, R349 -/
  | supplyLinkAttempt (x : LinkEnd)
  /-- DOMAIN_TRANSITION_TIMEOUT, R350 -/
  | domainTransitionTimeout
  /-- VDRV_SETTLE, R348 -/
  | vdrvSettle
  /-- ERASE_DONE, R380 -/
  | eraseDone
  /-- BLOCK_PROGRAM, R381 -/
  | blockProgram (bad : List (Fin 16))
  /-- VERIFICATION_DONE, R382 -/
  | verificationDone
  /-- SELF_TEST, R384 -/
  | selfTest (test : Fin 6) (pass : Bool) (temp : BitVec 16)
  /-- TRIAL_WINDOW_EXPIRY, R385 -/
  | trialWindowExpiry (temp : BitVec 16)
  /-- TRNG_HEALTH_FAIL, R390 -/
  | trngHealthFail
  /-- TRNG_RETEST, R390 -/
  | trngRetest (pass : Bool)
  /-- SYNC_PULSE_END, R311 -/
  | syncPulseEnd
  /-- SFD_END, R254 -/
  | sfdEnd (t : Nat)
  /-- AON_POWER_LOSS, R353 -/
  | aonPowerLoss
  deriving DecidableEq, Repr

end Sys2Proof
end

