-- ==== Sys2Proof/Decode.lean ====
section
/-! DEFINITION. The command a word spells by the bits of the spec's command table. No row of that table gives bits (the commands are
host frames, pins and instants), so no word spells a command. -/

namespace Sys2Proof

/-- The command that `nbits` bits `w` spell: none. -/
def decodeTableWord (_nbits _w : Nat) : Option Instr := none

end Sys2Proof
end

