-- ==== Sys2Proof/Machine/Bits.lean ====
section
/-! DEFINITION. Bit fields, signed values, rounding, byte order (R12, R13), the checksums the spec names and integer
roots. Everything is exact integer arithmetic; the rounding rule is part of the name. -/

namespace Sys2Proof.Machine

/-- Bits `lo` to `lo + w - 1` of `v`. -/
def bitsOf (v lo w : Nat) : Nat := v / 2 ^ lo % 2 ^ w

/-- `v` with bits `lo` to `lo + w - 1` replaced by the low bits of `x`. -/
def putBits (v lo w x : Nat) : Nat :=
  v / 2 ^ (lo + w) * 2 ^ (lo + w) + x % 2 ^ w * 2 ^ lo + v % 2 ^ lo

/-- Bit `i` of `v`. -/
def bitAt (v i : Nat) : Bool := v.testBit i

/-- 1 for true, 0 for false. -/
def b2n (b : Bool) : Nat := if b then 1 else 0

/-- The two's-complement value of the low `w` bits (R13). -/
def signed (w v : Nat) : Int :=
  let x := v % 2 ^ w
  if x < 2 ^ (w - 1) then (x : Int) else (x : Int) - (2 : Int) ^ w

/-- The `w`-bit two's-complement pattern of an integer (R13). -/
def unsigned (w : Nat) (i : Int) : Nat := (i % (2 : Int) ^ w).toNat

/-- Saturation to at most `m`. -/
def satMax (m v : Nat) : Nat := min m v

/-- Clamp of an integer into `lo` to `hi`. -/
def clampInt (lo hi x : Int) : Int := max lo (min hi x)

/-- Clamp to a signed `w`-bit range. -/
def satSigned (w : Nat) (x : Int) : Int := clampInt (-((2 : Int) ^ (w - 1))) ((2 : Int) ^ (w - 1) - 1) x

/-- a / b rounded to nearest, halves up (towards plus infinity); b > 0. -/
def roundHalfUp (a : Int) (b : Nat) : Int := (2 * a + b).fdiv (2 * b)

/-- a / b rounded to nearest, halves away from zero; b > 0. -/
def roundHalfAway (a : Int) (b : Nat) : Int :=
  if a < 0 then - (((2 * (-a).toNat + b) / (2 * b) : Nat) : Int) else (((2 * a.toNat + b) / (2 * b) : Nat) : Int)

/-- Natural a / b to nearest, halves up. -/
def roundNat (a b : Nat) : Nat := (2 * a + b) / (2 * b)

/-- a / b rounded up. -/
def ceilDiv (a b : Nat) : Nat := (a + b - 1) / b

/-- a / b rounded to nearest, halves up, for an integer divisor of either sign (0 when b = 0). -/
def roundHalfUpInt (a b : Int) : Int :=
  if b = 0 then 0 else if b < 0 then roundHalfUp (-a) b.natAbs else roundHalfUp a b.natAbs

/-- a / b rounded to nearest, halves away from zero, for an integer divisor of either sign (0 when b = 0). -/
def roundHalfAwayInt (a b : Int) : Int :=
  if b = 0 then 0 else if b < 0 then roundHalfAway (-a) b.natAbs else roundHalfAway a b.natAbs

/-- One bit of the restoring square root: keep the trial bit when its square still fits. -/
def isqrtFrom (n : Nat) : Nat → Nat → Nat
  | 0, r => r
  | k + 1, r =>
    let t := r + 2 ^ k
    isqrtFrom n k (if t * t ≤ n then t else r)

/-- The integer square root of `n`, rounded down, for `n < 2^(2 * bits)`. -/
def isqrt (bits n : Nat) : Nat := isqrtFrom n bits 0

/-- The low `n` bytes of `v`, lowest first (R12). -/
def leBytes : Nat → Nat → List Byte
  | 0, _ => []
  | n + 1, v => BitVec.ofNat 8 v :: leBytes n (v / 256)

/-- The value of bytes in little-endian order (R12). -/
def ofLe : List Byte → Nat
  | [] => 0
  | b :: t => b.toNat + 256 * ofLe t

/-- The value of bytes in big-endian order. -/
def ofBe (l : List Byte) : Nat := l.foldl (fun acc b => acc * 256 + b.toNat) 0

/-- `n` bytes of a list from offset `k`, zeros where it is too short. -/
def sliceBytes (l : List Byte) (k n : Nat) : List Byte :=
  let t := (l.drop k).take n
  t ++ List.replicate (n - t.length) 0

/-- The little-endian value of `n` bytes at offset `k`. -/
def leAt (l : List Byte) (k n : Nat) : Nat := ofLe (sliceBytes l k n)

/-- Shift one CRC step by `n` bits, most significant bit first. -/
def crcShift (width poly : Nat) : Nat → Nat → Nat
  | 0, c => c
  | n + 1, c =>
    let c' := if c.testBit (width - 1) then (2 * c).xor poly else 2 * c
    crcShift width poly n (c' % 2 ^ width)

/-- CRC-16/CCITT-FALSE of R290: polynomial 0x1021, not reflected, initial value 0xFFFF, no final XOR. -/
def crc16 (l : List Byte) : Nat :=
  l.foldl (fun c b => crcShift 16 0x1021 8 (c.xor (b.toNat * 256))) 0xFFFF

/-- A CRC-8, not reflected, polynomial 0x07, initial value 0 (the supply link's frames). -/
def crc8 (l : List Byte) : Nat :=
  l.foldl (fun c b => crcShift 8 0x07 8 (c.xor b.toNat)) 0

/-- Shift one reflected CRC step by `n` bits. -/
def crcShiftR (poly : Nat) : Nat → Nat → Nat
  | 0, c => c
  | n + 1, c => crcShiftR poly n (if c.testBit 0 then (c / 2).xor poly else c / 2)

/-- CRC-32 (IEEE 802.3): reflected polynomial 0xEDB88320, initial value and final XOR all ones. -/
def crc32 (l : List Byte) : Nat :=
  (l.foldl (fun c b => crcShiftR 0xEDB88320 8 (c.xor b.toNat)) 0xFFFFFFFF).xor 0xFFFFFFFF

/-- Replace the element at index `i`; no change where there is none. -/
def setAt {α : Type} : List α → Nat → α → List α
  | [], _, _ => []
  | _ :: t, 0, v => v :: t
  | h :: t, i + 1, v => h :: setAt t i v

/-- Bits 0 to `n - 1` of a mask as the list of the set positions. -/
def maskList (n m : Nat) : List Nat := (List.range n).filter (fun i => m.testBit i)

/-- The mask with the given positions set. -/
def maskOf (l : List Nat) : Nat := l.foldl (fun m i => m.lor (2 ^ i)) 0

/-- `v` with bit `i` set. -/
def setBit (v i : Nat) : Nat := v.lor (2 ^ i)

/-- `v` with bit `i` clear. -/
def clrBit (v i : Nat) : Nat := if v.testBit i then v - 2 ^ i else v

/-- Number of set bits among the low `n`. -/
def popCount (n m : Nat) : Nat := (maskList n m).length

/-- Fold a state over a list of work items, left to right. -/
def foldS {σ α : Type} (f : σ → α → σ) (s : σ) (l : List α) : σ := l.foldl f s

/-- One LFT in 1/64 ns. -/
abbrev lftUnits : Nat := 1953125

end Sys2Proof.Machine
end

