-- ==== Sys2Proof/Machine/Ecc.lean ====
section
/-! DEFINITION. The Reed-Solomon code of the memories (R314 to R316, R320): RS(20,16) over GF(2^8) with polynomial 0x11D and
α = 2, its encoder and the two decoder policies. A word is its list of 20 symbols d0 to d15, p0 to p3, as numbers. -/

namespace Sys2Proof.Machine.Ecc

/-- Multiply by α. -/
def xtime (a : Nat) : Nat :=
  if a < 128 then 2 * a else (2 * a).xor 0x11D

/-- Product in GF(2^8), taking the bits of `b` from the top down; call with `n = 8`. -/
def mulBits (a b : Nat) : Nat → Nat → Nat
  | 0, acc => acc
  | n + 1, acc => mulBits a b n (if b.testBit n then (xtime acc).xor a else xtime acc)

/-- Product in GF(2^8). -/
def mul (a b : Nat) : Nat := mulBits a b 8 0

/-- a · α^n. -/
def mulAlpha (a : Nat) : Nat → Nat
  | 0 => a
  | n + 1 => mulAlpha (xtime a) n

/-- The inverse a^254 by square and multiply (0 for 0). -/
def inv (a : Nat) : Nat :=
  let a2 := mul a a
  let a4 := mul a2 a2
  let a8 := mul a4 a4
  let a16 := mul a8 a8
  let a32 := mul a16 a16
  let a64 := mul a32 a32
  let a128 := mul a64 a64
  mul a128 (mul a64 (mul a32 (mul a16 (mul a8 (mul a4 a2)))))

/-- g(x) = x^4 + 15x^3 + 54x^2 + 120x + 64, the product of (x + α^k), k = 0 to 3 (R314). One division step: the remainder
r3, r2, r1, r0 takes in the next data symbol. -/
def encStep (r : Nat × Nat × Nat × Nat) (d : Nat) : Nat × Nat × Nat × Nat :=
  let q := d.xor r.1
  (r.2.1.xor (mul 15 q), r.2.2.1.xor (mul 54 q), r.2.2.2.xor (mul 120 q), mul 64 q)

/-- The four check symbols p0 to p3 of 16 data symbols (R314). -/
def check (d : List Nat) : List Nat :=
  let r := d.foldl encStep (0, 0, 0, 0)
  [r.1, r.2.1, r.2.2.1, r.2.2.2]

/-- The stored codeword of 16 data symbols. -/
def encode (d : List Nat) : List Nat := d ++ check d

/-- Syndrome s_k = c'(α^k) by Horner's rule. -/
def syndrome (c : List Nat) (k : Nat) : Nat :=
  c.foldl (fun acc x => (mulAlpha acc k).xor x) 0

/-- The poison pattern P in p0 to p3 (R320). -/
def poisonCheck : List Nat := [0xC3, 0x3C, 0xA5, 0x5A]

/-- A poisoned word: the data as it stands, its check symbols XOR P (R320). -/
def encodePoison (d : List Nat) : List Nat :=
  d ++ (check d).zipWith Nat.xor poisonCheck

/-- What the decoder finds (R315, R316). -/
inductive Result where
  | clean | erased
  | ce1 (sym : Nat) | ce2 (sym0 sym1 : Nat)
  | ue | poisoned
  deriving DecidableEq, Repr

/-- The four syndromes of a word. -/
def syndromes (c : List Nat) : List Nat := (List.range 4).map (syndrome c)

/-- A single error: its symbol index and value, when the syndromes are those of one. Symbol i stands at x^(19 - i). -/
def single (s0 s1 s2 s3 : Nat) : Option (Nat × Nat) :=
  ((List.range 20).find? fun i =>
    mulAlpha s0 (19 - i) == s1 && mulAlpha s1 (19 - i) == s2 && mulAlpha s2 (19 - i) == s3).map fun i => (i, s0)

/-- A double error: two symbol indices and values, from the locator x² + σ1 x + σ2 the syndromes give. -/
def double (s0 s1 s2 s3 : Nat) : Option ((Nat × Nat) × (Nat × Nat)) :=
  let det := (mul s1 s1).xor (mul s0 s2)
  if det = 0 then none else
  let di := inv det
  let σ1 := mul di ((mul s1 s2).xor (mul s0 s3))
  let σ2 := mul di ((mul s1 s3).xor (mul s2 s2))
  let roots := (List.range 20).filter fun i =>
    let x := mulAlpha 1 (19 - i)
    ((mul x x).xor (mul σ1 x)).xor σ2 == 0
  match roots with
  | [i, j] =>
    let xi := mulAlpha 1 (19 - i)
    let xj := mulAlpha 1 (19 - j)
    let vj := mul ((mul s0 xi).xor s1) (inv (xi.xor xj))
    let vi := s0.xor vj
    if vi = 0 ∨ vj = 0 then none else some ((i, vi), (j, vj))
  | _ => none

/-- Add an error value to one symbol. -/
def fix (c : List Nat) (i v : Nat) : List Nat := setAt c i ((c.getD i 0).xor v)

/-- Decode a word of 20 symbols under C1D3 (`strict`) or C2: what was found, and the 20 symbols as corrected (R315, R316). -/
def decode (strict : Bool) (c : List Nat) : Result × List Nat :=
  if c.all (· == 0xFF) then (.erased, c) else
  let s := syndromes c
  if s = [0, 0, 0, 0] then (.clean, c) else
  if s = syndromes (List.replicate 16 0 ++ poisonCheck) then (.poisoned, c) else
  match s with
  | [s0, s1, s2, s3] =>
    match (if s0 = 0 then none else single s0 s1 s2 s3) with
    | some (i, v) => (.ce1 i, fix c i v)
    | none =>
      if strict then (.ue, c) else
      match double s0 s1 s2 s3 with
      | some ((i, vi), (j, vj)) => (.ce2 i j, fix (fix c i vi) j vj)
      | none => (.ue, c)
  | _ => (.ue, c)

end Sys2Proof.Machine.Ecc
end

