-- ==== Sys2Proof/Config.lean ====
section
/-! DEFINITION. What an implementation fixes and the spec leaves open: free values and functions with no body. Nothing in
Lean can evaluate them, so a claim that mentions one holds whatever it is. Each is named in the assumption log. -/

namespace Sys2Proof.Config

/-- A fresh free value: the `n`-th the machine draws. -/
opaque freeValue : Nat → Nat

/-- 32 fresh random bits, the `n`-th draw of the true random number generator (R390). -/
opaque trng : Nat → BitVec 32

/-- The vendor root key, which Edhild writes into key slot 0 at manufacture and does not publish (R374). -/
opaque vendorRoot : BitVec 256

/-- The gain-delay ROM of the silicon step (R149): entry 0 to 120, whose values are not published. -/
opaque gainDelay : Nat → BitVec 32

/-- Which of several temperatures of one resistance ratio is taken, where the Callendar-Van Dusen polynomial of the coefficients has more
than one root from -200 °C to 0 °C (R201): a number that the model reduces to an index among them. -/
opaque cvdRoot : Rat → Rat → Rat → Rat → Nat

end Sys2Proof.Config
end

