-- ==== Sys2Proof/Machine/Assoc.lean ====
section
/-! DEFINITION. Sparse maps with a default: a list of (key, value) pairs in one canonical form, keys strictly rising and
no entry equal to the default of its key. The register file and the memory are such maps, so equal contents are equal data. -/

namespace Sys2Proof.Machine.Assoc

variable {α : Type} [DecidableEq α]

/-- The value at a key: the entry's, or the default where the key is not listed. -/
def get (d : Nat → α) : List (Nat × α) → Nat → α
  | [], a => d a
  | (k, v) :: t, a => if a = k then v else get d t a

/-- Store a value: insert or replace in order, and drop the entry when the value is the default. -/
def set (d : Nat → α) : List (Nat × α) → Nat → α → List (Nat × α)
  | [], a, x => if x = d a then [] else [(a, x)]
  | (k, v) :: t, a, x =>
    if a < k then (if x = d a then (k, v) :: t else (a, x) :: (k, v) :: t)
    else if a = k then (if x = d a then t else (k, x) :: t)
    else (k, v) :: set d t a x

/-- The canonical form: every key at least `lo`, keys strictly rising, no entry equal to its default. -/
def wfFrom (d : Nat → α) : Nat → List (Nat × α) → Bool
  | _, [] => true
  | lo, (k, v) :: t => lo ≤ k && v ≠ d k && wfFrom d (k + 1) t

/-- The canonical form of a whole map. -/
def wf (d : Nat → α) (m : List (Nat × α)) : Bool := wfFrom d 0 m

end Sys2Proof.Machine.Assoc
end

