-- ==== Sys2Proof/Machine/Regs.lean ====
section
/-! DEFINITION. The registers by name (R16): one constant per register heading of the spec's chapters, and one
`Fld` per field of its table (register address, lowest bit, width). An indexed register is a function of its index. -/

namespace Sys2Proof.Machine

/-- A field of a register: the register's address, the lowest bit and the width. -/
structure Fld where
  reg : Nat
  lo : Nat
  w : Nat
  deriving DecidableEq, Repr

namespace Reg
abbrev SYS_ID : Nat := 0x000000
abbrev SYS_CAPS : Nat := 0x000004
abbrev SYS_DUTY : Nat := 0x000008
abbrev SYS_EPOCH : Nat := 0x000010
abbrev SYS_FAULT_CAUSE : Nat := 0x000014
abbrev SYS_IRQ : Nat := 0x000020
abbrev SYS_IRQ_EN : Nat := 0x000024
abbrev SYS_GPIO_FN : Nat := 0x000040
abbrev SYS_GPIO_IO : Nat := 0x000044
abbrev HIF_CFG : Nat := 0x010000
abbrev HIF_STATUS : Nat := 0x010004
abbrev HIF_OPFULL_CNT : Nat := 0x010008
abbrev HIF_CNT : Nat := 0x01000C
abbrev HIF_DUP_CNT : Nat := 0x010010
abbrev HIF_OPMAP : Nat := 0x010014
abbrev ROT_CFG : Nat := 0x020000
abbrev ROT_NUM : Nat := 0x020004
abbrev ROT_NOW : Nat := 0x020008
abbrev ROT_MARK_RPT : Nat := 0x02000C
abbrev ROT_LAST_DUR : Nat := 0x020010
abbrev ROT_IRQ_DIV : Nat := 0x020014
abbrev ROT_TRIG_CNT : Nat := 0x020018
abbrev ROT_LATE_CNT : Nat := 0x02001C
abbrev ROT_PREEMPT_CNT : Nat := 0x020020
abbrev ROT_FOG_LAT : Nat := 0x020024
abbrev ROT_FOG_MAX : Nat := 0x020028
abbrev ROT_LAST_DUR_HI : Nat := 0x02002C
abbrev ROT_FACET (i : Nat) : Nat := 0x020100 + 0x4 * i
abbrev ROT_FNEED (i : Nat) : Nat := 0x020200 + 0x4 * i
abbrev STI_STATUS : Nat := 0x030000
abbrev STI_ERR_AT : Nat := 0x030004
abbrev STI_ARM_ROT : Nat := 0x030008
abbrev STI_ACTIVE_ID : Nat := 0x03000C
abbrev STI_ACTIVE_VER : Nat := 0x030010
abbrev STI_ACTIVE_CRC : Nat := 0x030014
abbrev STI_ACTIVE_MCRC : Nat := 0x030018
abbrev STI_ACTIVE_LEN : Nat := 0x03001C
abbrev STI_LOADS : Nat := 0x030020
abbrev AFE_VDRV : Nat := 0x040000
abbrev AFE_BURST : Nat := 0x040004
abbrev AFE_CENSUS_CFG : Nat := 0x040008
abbrev AFE_TX (i : Nat) : Nat := 0x040100 + 0x10 * i
abbrev AFE_RX (i : Nat) : Nat := 0x040104 + 0x10 * i
abbrev AFE_WIN (i : Nat) : Nat := 0x040108 + 0x10 * i
abbrev AFE_WIN2 (i : Nat) : Nat := 0x04010C + 0x10 * i
abbrev AFE_COMMIT : Nat := 0x0407FC
abbrev AFE_STATUS : Nat := 0x041000
abbrev AFE_SLOT_MAP : Nat := 0x041004
abbrev AFE_SLOT_REL : Nat := 0x041008
abbrev AFE_OVR_CNT : Nat := 0x04100C
abbrev AFE_CENSUS (i : Nat) : Nat := 0x041100 + 0x4 * i
abbrev AFE_TEXP (i : Nat) : Nat := 0x041200 + 0x4 * i
abbrev AFE_GAIN (i : Nat) : Nat := 0x041220 + 0x4 * i
abbrev AFE_SPAN (i : Nat) : Nat := 0x041240 + 0x4 * i
abbrev AFE_FW (i : Nat) : Nat := 0x041260 + 0x4 * i
abbrev AFE_SLOT_CTL (i : Nat) : Nat := 0x041400 + 0x20 * i
abbrev AFE_SLOT_ROT (i : Nat) : Nat := 0x041404 + 0x20 * i
abbrev AFE_SLOT_WIN (i : Nat) : Nat := 0x041408 + 0x20 * i
abbrev AFE_SLOT_RXA (i : Nat) : Nat := 0x04140C + 0x20 * i
abbrev AFE_SLOT_RXB (i : Nat) : Nat := 0x041410 + 0x20 * i
abbrev TIU_STATUS : Nat := 0x050000
abbrev TIU_UNLOCK_CNT : Nat := 0x050004
abbrev TIU_OVF_SRC : Nat := 0x050008
abbrev TIU_HOURS : Nat := 0x050010
abbrev TIU_AGE_A : Nat := 0x050014
abbrev TIU_AGE_B : Nat := 0x050018
abbrev TIU_AGE_PPB : Nat := 0x05001C
abbrev TIU_SCALE : Nat := 0x050020
abbrev TIU_STRM (i : Nat) : Nat := 0x050040 + 0x4 * i
abbrev TIU_EV_CFG (i : Nat) : Nat := 0x050100 + 0x20 * i
abbrev TIU_EV_ARM (i : Nat) : Nat := 0x050104 + 0x20 * i
abbrev TIU_EV_FLG (i : Nat) : Nat := 0x050108 + 0x20 * i
abbrev TIU_EV_VAL (i : Nat) : Nat := 0x05010C + 0x20 * i
abbrev TIU_EV_DROP (i : Nat) : Nat := 0x050110 + 0x20 * i
abbrev TIU_ST_CFG (i : Nat) : Nat := 0x050400 + 0x20 * i
abbrev TIU_ST_COUNT (i : Nat) : Nat := 0x050404 + 0x20 * i
abbrev TIU_ST_MEAN_LO (i : Nat) : Nat := 0x050408 + 0x20 * i
abbrev TIU_ST_MEAN_HI (i : Nat) : Nat := 0x05040C + 0x20 * i
abbrev TIU_ST_SDEV (i : Nat) : Nat := 0x050410 + 0x20 * i
abbrev TIU_ST_MIN (i : Nat) : Nat := 0x050414 + 0x20 * i
abbrev TIU_ST_MAX (i : Nat) : Nat := 0x050418 + 0x20 * i
abbrev ECH_CFG : Nat := 0x060000
abbrev ECH_CFG2 : Nat := 0x060004
abbrev ECH_AMP : Nat := 0x060008
abbrev ECH_GAS_C0 : Nat := 0x06000C
abbrev ECH_CH (i : Nat) : Nat := 0x060100 + 0x10 * i
abbrev ECH_PICK (i : Nat) : Nat := 0x060104 + 0x10 * i
abbrev ECH_PTX (i : Nat) : Nat := 0x060200 + 0x8 * i
abbrev ECH_PRX (i : Nat) : Nat := 0x060204 + 0x8 * i
abbrev ECH_COMMIT : Nat := 0x0607FC
abbrev ECH_STATUS : Nat := 0x061000
abbrev ECH_EVT : Nat := 0x061004
abbrev ECH_SLIP_SRC : Nat := 0x061008
abbrev ECH_RING : Nat := 0x06100C
abbrev ECH_RING_BASE : Nat := 0x061010
abbrev ECH_RING_LEN : Nat := 0x061014
abbrev ECH_LAST_ROT : Nat := 0x061018
abbrev ECH_CTL : Nat := 0x06101C
abbrev ECH_HOSTEVT : Nat := 0x061020
abbrev ECH_GDLY_IDX : Nat := 0x061024
abbrev ECH_GDLY_VAL : Nat := 0x061028
abbrev ECH_CHST (i : Nat) : Nat := 0x061100 + 0x8 * i
abbrev ECH_AVG (i : Nat) : Nat := 0x061104 + 0x8 * i
abbrev FLW_SUB : Nat := 0x070000
abbrev FLW_RVMIN : Nat := 0x070004
abbrev FLW_CUT : Nat := 0x070008
abbrev FLW_H2_CFG : Nat := 0x07000C
abbrev FLW_H2_C0 : Nat := 0x070010
abbrev FLW_H2_MNG : Nat := 0x070014
abbrev FLW_H2_PK : Nat := 0x070018
abbrev FLW_H2_CVH : Nat := 0x07001C
abbrev FLW_GAS_NU0 : Nat := 0x070020
abbrev FLW_ZERO (i : Nat) : Nat := 0x070100 + 0x4 * i
abbrev FLW_COMMIT : Nat := 0x0707FC
abbrev FLW_STATUS : Nat := 0x071000
abbrev FLW_ROT : Nat := 0x071004
abbrev FLW_Q_LO : Nat := 0x071008
abbrev FLW_Q_HI : Nat := 0x07100C
abbrev FLW_VM : Nat := 0x071010
abbrev FLW_RE : Nat := 0x071014
abbrev FLW_K : Nat := 0x071018
abbrev FLW_SOS : Nat := 0x07101C
abbrev FLW_H2 : Nat := 0x071020
abbrev FLW_EVT : Nat := 0x071024
abbrev FLW_CTL : Nat := 0x071028
abbrev FLW_SHOT_CNT : Nat := 0x07102C
abbrev FLW_QSTART : Nat := 0x071030
abbrev FLW_COEF_IDX : Nat := 0x071034
abbrev FLW_COEF_VAL : Nat := 0x071038
abbrev FLW_CHST (i : Nat) : Nat := 0x071100 + 0x8 * i
abbrev FLW_RATIO (i : Nat) : Nat := 0x071104 + 0x8 * i
abbrev TMU_CFG : Nat := 0x080000
abbrev TMU_RREF : Nat := 0x080004
abbrev TMU_LIMIT : Nat := 0x080008
abbrev TMU_LEAD (i : Nat) : Nat := 0x080010 + 0x4 * i
abbrev TMU_COMMIT : Nat := 0x0807FC
abbrev TMU_STATUS : Nat := 0x081000
abbrev TMU_EVT : Nat := 0x081004
abbrev TMU_STATE : Nat := 0x081008
abbrev TMU_VALID : Nat := 0x08100C
abbrev TMU_T (i : Nat) : Nat := 0x081010 + 0x4 * i
abbrev TMU_R (i : Nat) : Nat := 0x081020 + 0x4 * i
abbrev TMU_DT : Nat := 0x081030
abbrev TMU_DT_AT : Nat := 0x081034
abbrev TMU_P : Nat := 0x081038
abbrev TMU_U : Nat := 0x08103C
abbrev TMU_ROT : Nat := 0x081040
abbrev TMU_CNT : Nat := 0x081044
abbrev TMU_TRIM : Nat := 0x081048
abbrev TMU_COEF_IDX : Nat := 0x08104C
abbrev TMU_COEF_VAL : Nat := 0x081050
abbrev LDG_HC : Nat := 0x090000
abbrev LDG_COMMIT_INT : Nat := 0x090004
abbrev LDG_PULSE_CFG (i : Nat) : Nat := 0x090010 + 0x8 * i
abbrev LDG_PULSE_WT (i : Nat) : Nat := 0x090014 + 0x8 * i
abbrev LDG_GAS_PB : Nat := 0x090020
abbrev LDG_GAS_TB : Nat := 0x090024
abbrev LDG_GAS_ZC : Nat := 0x090028
abbrev LDG_GAS_ZB : Nat := 0x09002C
abbrev LDG_GAS_PAX (i : Nat) : Nat := 0x090100 + 0x4 * i
abbrev LDG_GAS_TAX (i : Nat) : Nat := 0x090140 + 0x4 * i
abbrev LDG_GAS_Z (i : Nat) : Nat := 0x090200 + 0x4 * i
abbrev LDG_CV (i : Nat) : Nat := 0x090400 + 0x4 * i
abbrev LDG_TARIFF_SEL : Nat := 0x090410
abbrev LDG_COMMIT : Nat := 0x0907FC
abbrev LDG_STATUS : Nat := 0x091000
abbrev LDG_EVT : Nat := 0x091004
abbrev LDG_ROT : Nat := 0x091008
abbrev LDG_LASTSTEP : Nat := 0x09100C
abbrev LDG_K : Nat := 0x091010
abbrev LDG_CORR : Nat := 0x091014
abbrev LDG_CVUSED : Nat := 0x091018
abbrev LDG_TARIFF : Nat := 0x09101C
abbrev LDG_PULSE_ST (i : Nat) : Nat := 0x091020 + 0x8 * i
abbrev LDG_PULSE_PER (i : Nat) : Nat := 0x091024 + 0x8 * i
abbrev LDG_PULSE_LOST : Nat := 0x091030
abbrev LDG_CTL : Nat := 0x091034
abbrev LDG_SEQ : Nat := 0x091038
abbrev LDG_NVMPOS : Nat := 0x09103C
abbrev LDG_HOSTINC_W (i : Nat) : Nat := 0x091040 + 0x4 * i
abbrev LDG_HOSTINC_FLAGS : Nat := 0x091078
abbrev LDG_HOSTINC_GO : Nat := 0x09107C
abbrev LDG_KTAB_IDX : Nat := 0x091080
abbrev LDG_KTAB_VAL : Nat := 0x091084
abbrev LDG_ACC_W0 (i : Nat) : Nat := 0x091100 + 0x10 * i
abbrev LDG_ACC_W1 (i : Nat) : Nat := 0x091104 + 0x10 * i
abbrev LDG_ACC_W2 (i : Nat) : Nat := 0x091108 + 0x10 * i
abbrev LDG_ACC_W3 (i : Nat) : Nat := 0x09110C + 0x10 * i
abbrev RAD_LBT : Nat := 0x0A0000
abbrev RAD_ANT : Nat := 0x0A0004
abbrev RAD_PRE : Nat := 0x0A0008
abbrev RAD_COMMIT : Nat := 0x0A07FC
abbrev RAD_STATUS : Nat := 0x0A1000
abbrev RAD_EVT : Nat := 0x0A1004
abbrev RAD_GOV_SEL : Nat := 0x0A1008
abbrev RAD_GOV_USED : Nat := 0x0A100C
abbrev RAD_GOV_BUDGET : Nat := 0x0A1010
abbrev RAD_GOV_CNT : Nat := 0x0A1014
abbrev RAD_RSSI : Nat := 0x0A1018
abbrev RAD_CNT : Nat := 0x0A101C
abbrev RAD_TXCNT : Nat := 0x0A1020
abbrev RAD_RXREL : Nat := 0x0A1024
abbrev RAD_RXD (i : Nat) : Nat := 0x0A1100 + 0x8 * i
abbrev RAD_RXT (i : Nat) : Nat := 0x0A1104 + 0x8 * i
abbrev RAD_RXBUF (i : Nat) : Nat := 0x0A2000 + 0x4 * i
abbrev MSH_WIN : Nat := 0x0B0000
abbrev MSH_RETRY : Nat := 0x0B0004
abbrev MSH_CFG : Nat := 0x0B0008
abbrev MSH_REPORT : Nat := 0x0B000C
abbrev MSH_REPORT_MASK : Nat := 0x0B0010
abbrev MSH_WMBUS_M : Nat := 0x0B0014
abbrev MSH_COMMIT : Nat := 0x0B07FC
abbrev MSH_STATUS : Nat := 0x0B1000
abbrev MSH_ADDR : Nat := 0x0B1004
abbrev MSH_SHORT : Nat := 0x0B1008
abbrev MSH_CELL : Nat := 0x0B100C
abbrev MSH_TIME : Nat := 0x0B1010
abbrev MSH_CROT : Nat := 0x0B1014
abbrev MSH_LASTFLASH : Nat := 0x0B1018
abbrev MSH_EVT : Nat := 0x0B101C
abbrev MSH_KEVT : Nat := 0x0B1020
abbrev MSH_CNT : Nat := 0x0B1024
abbrev MSH_CNT2 : Nat := 0x0B1028
abbrev MSH_FCNT : Nat := 0x0B102C
abbrev MSH_CTL : Nat := 0x0B1030
abbrev MSH_FOG_D0 : Nat := 0x0B1034
abbrev MSH_FOG_D1 : Nat := 0x0B1038
abbrev MSH_FOG_GO : Nat := 0x0B103C
abbrev MSH_PROV_IDX : Nat := 0x0B1040
abbrev MSH_PROV_LONG : Nat := 0x0B1044
abbrev MSH_PROV_WRAP (i : Nat) : Nat := 0x0B1048 + 0x4 * i
abbrev MSH_PROV_CTL : Nat := 0x0B1060
abbrev MSH_SCAN : Nat := 0x0B1064
abbrev MSH_SCAN_RSSI : Nat := 0x0B1068
abbrev MEM_POLICY : Nat := 0x0C0000
abbrev MEM_EVT : Nat := 0x0C0004
abbrev MEM_ECC_CNT : Nat := 0x0C0008
abbrev MEM_LOG_CTL : Nat := 0x0C000C
abbrev MEM_FLIP_CTL : Nat := 0x0C0010
abbrev MEM_FLIP (i : Nat) : Nat := 0x0C0014 + 0x4 * i
abbrev MEM_SCR_READ : Nat := 0x0C0030
abbrev MEM_SCR_CORR : Nat := 0x0C0034
abbrev MEM_SCR_WB : Nat := 0x0C0038
abbrev MEM_SCR_UE : Nat := 0x0C003C
abbrev MEM_SCR_FIRST : Nat := 0x0C0040
abbrev MEM_SCR_LAST : Nat := 0x0C0044
abbrev MEM_RETIRE : Nat := 0x0C0050
abbrev MEM_RETIRE_ST : Nat := 0x0C0054
abbrev MEM_REMAP (i : Nat) : Nat := 0x0C0080 + 0x4 * i
abbrev MEM_LOG_ADDR (i : Nat) : Nat := 0x0C0100 + 0x10 * i
abbrev MEM_LOG_INFO (i : Nat) : Nat := 0x0C0104 + 0x10 * i
abbrev MEM_LOG_ROT (i : Nat) : Nat := 0x0C0108 + 0x10 * i
abbrev MEM_NVLIST (i : Nat) : Nat := 0x0C0400 + 0x4 * i
abbrev PWR_STATE0 : Nat := 0x0D0000
abbrev PWR_STATE1 : Nat := 0x0D0004
abbrev PWR_REST : Nat := 0x0D0008
abbrev PWR_HOLD : Nat := 0x0D000C
abbrev PWR_SLEEPSET : Nat := 0x0D0010
abbrev PWR_SLEEP_ST : Nat := 0x0D0014
abbrev PWR_SLEEP_COST : Nat := 0x0D0018
abbrev PWR_WAKE_TRACE : Nat := 0x0D001C
abbrev PWR_WAKE_T0 : Nat := 0x0D0020
abbrev PWR_WAKE_T1 : Nat := 0x0D0024
abbrev PWR_RETLOST : Nat := 0x0D0028
abbrev PWR_VCORE : Nat := 0x0D002C
abbrev PWR_SLINK_CFG : Nat := 0x0D0030
abbrev PWR_SLINK_ST : Nat := 0x0D0034
abbrev PWR_SLINK_CNT : Nat := 0x0D0038
abbrev PWR_PFW : Nat := 0x0D003C
abbrev PWR_VBAT : Nat := 0x0D0040
abbrev PWR_EVT : Nat := 0x0D0044
abbrev RTC_SUBSEC : Nat := 0x0E0000
abbrev RTC_SEC : Nat := 0x0E0004
abbrev RTC_MIN : Nat := 0x0E0008
abbrev RTC_HOUR : Nat := 0x0E000C
abbrev RTC_DAY : Nat := 0x0E0010
abbrev RTC_MONTH : Nat := 0x0E0014
abbrev RTC_CENT : Nat := 0x0E0018
abbrev RTC_WDAY : Nat := 0x0E001C
abbrev RTC_YEAR : Nat := 0x0E0020
abbrev RTC_UNFREEZE : Nat := 0x0E0024
abbrev RTC_COMMIT : Nat := 0x0E0028
abbrev RTC_PEND : Nat := 0x0E002C
abbrev RTC_STATUS : Nat := 0x0E0030
abbrev RTC_CORR : Nat := 0x0E0034
abbrev RTC_TRIM : Nat := 0x0E0038
abbrev RTC_TEMP : Nat := 0x0E003C
abbrev RTC_ALM_T (i : Nat) : Nat := 0x0E0040 + 0x10 * i
abbrev RTC_ALM_D (i : Nat) : Nat := 0x0E0044 + 0x10 * i
abbrev RTC_ALM_CFG (i : Nat) : Nat := 0x0E0048 + 0x10 * i
abbrev RTC_ALM_EVT : Nat := 0x0E0060
abbrev RTC_COEF_IDX : Nat := 0x0E0064
abbrev RTC_COEF_VAL : Nat := 0x0E0068
abbrev UPD_LIFE : Nat := 0x0F0000
abbrev UPD_LIFE_REQ : Nat := 0x0F0004
abbrev UPD_STATUS : Nat := 0x0F0008
abbrev UPD_CTL : Nat := 0x0F000C
abbrev UPD_CONFIRM : Nat := 0x0F0010
abbrev UPD_WINDOW : Nat := 0x0F0014
abbrev UPD_TRIAL_LEFT : Nat := 0x0F0018
abbrev UPD_SELFTEST : Nat := 0x0F001C
abbrev UPD_EVT : Nat := 0x0F0020
abbrev UPD_LEGAL_VER : Nat := 0x0F0024
abbrev UPD_COMP_VER (i : Nat) : Nat := 0x0F0040 + 0x4 * i
abbrev UPD_CNT (i : Nat) : Nat := 0x0F0060 + 0x4 * i
abbrev UPD_LEGAL_SUM (i : Nat) : Nat := 0x0F0080 + 0x4 * i
abbrev UPD_MAP (i : Nat) : Nat := 0x0F0100 + 0x4 * i
abbrev UPD_MAP_CNT : Nat := 0x0F0200
abbrev UPD_KEY_SEL : Nat := 0x0F0300
abbrev UPD_KEY_D (i : Nat) : Nat := 0x0F0304 + 0x4 * i
abbrev UPD_KEY_CTL : Nat := 0x0F0324
abbrev UPD_KEY_ST : Nat := 0x0F0328
abbrev UPD_KEY_KCV (i : Nat) : Nat := 0x0F0340 + 0x4 * i
abbrev UPD_RET_SEQ : Nat := 0x0F0400
abbrev UPD_RET_DIG (i : Nat) : Nat := 0x0F0404 + 0x4 * i
abbrev UPD_TRNG : Nat := 0x0F0500
end Reg

namespace F
abbrev SYS_ID_PART : Fld := ⟨0x000000, 0, 16⟩
abbrev SYS_ID_STEP : Fld := ⟨0x000000, 16, 8⟩
abbrev SYS_CAPS_PORTS : Fld := ⟨0x000004, 0, 5⟩
abbrev SYS_CAPS_CHORDS : Fld := ⟨0x000004, 8, 4⟩
abbrev SYS_CAPS_RADIO : Fld := ⟨0x000004, 12, 1⟩
abbrev SYS_CAPS_KEEPER : Fld := ⟨0x000004, 13, 1⟩
abbrev SYS_CAPS_PRESSURE : Fld := ⟨0x000004, 14, 1⟩
abbrev SYS_CAPS_GAS_LDG : Fld := ⟨0x000004, 15, 1⟩
abbrev SYS_CAPS_SRAM_BANKS : Fld := ⟨0x000004, 16, 5⟩
abbrev SYS_CAPS_ASSOC_LOG2 : Fld := ⟨0x000004, 24, 4⟩
abbrev SYS_DUTY_SHOT : Fld := ⟨0x000008, 0, 1⟩
abbrev SYS_DUTY_ECHO : Fld := ⟨0x000008, 1, 1⟩
abbrev SYS_DUTY_FLOW : Fld := ⟨0x000008, 2, 1⟩
abbrev SYS_DUTY_THERM : Fld := ⟨0x000008, 3, 1⟩
abbrev SYS_DUTY_MAC : Fld := ⟨0x000008, 4, 2⟩
abbrev SYS_DUTY_RTCC : Fld := ⟨0x000008, 6, 1⟩
abbrev SYS_EPOCH_EPOCH : Fld := ⟨0x000010, 0, 8⟩
abbrev SYS_EPOCH_FAULTS : Fld := ⟨0x000010, 8, 16⟩
abbrev SYS_EPOCH_RECOVERING : Fld := ⟨0x000010, 24, 1⟩
abbrev SYS_FAULT_CAUSE_CAUSE : Fld := ⟨0x000014, 0, 4⟩
abbrev SYS_FAULT_CAUSE_EPOCH : Fld := ⟨0x000014, 8, 8⟩
abbrev SYS_FAULT_CAUSE_HIST : Fld := ⟨0x000014, 16, 6⟩
abbrev SYS_IRQ_ROT_MARK : Fld := ⟨0x000020, 0, 1⟩
abbrev SYS_IRQ_OP_DONE : Fld := ⟨0x000020, 1, 1⟩
abbrev SYS_IRQ_FOG : Fld := ⟨0x000020, 2, 1⟩
abbrev SYS_IRQ_EMPTY : Fld := ⟨0x000020, 3, 1⟩
abbrev SYS_IRQ_CHORD_FAIL : Fld := ⟨0x000020, 4, 1⟩
abbrev SYS_IRQ_SLIP : Fld := ⟨0x000020, 5, 1⟩
abbrev SYS_IRQ_RET_LOST : Fld := ⟨0x000020, 6, 1⟩
abbrev SYS_IRQ_ECC_CE : Fld := ⟨0x000020, 7, 1⟩
abbrev SYS_IRQ_ECC_UE : Fld := ⟨0x000020, 8, 1⟩
abbrev SYS_IRQ_MESH_EVT : Fld := ⟨0x000020, 9, 1⟩
abbrev SYS_IRQ_RX_FRAME : Fld := ⟨0x000020, 10, 1⟩
abbrev SYS_IRQ_TX_DONE : Fld := ⟨0x000020, 11, 1⟩
abbrev SYS_IRQ_SUPPLY : Fld := ⟨0x000020, 12, 1⟩
abbrev SYS_IRQ_PFAIL : Fld := ⟨0x000020, 13, 1⟩
abbrev SYS_IRQ_RTC_ALARM : Fld := ⟨0x000020, 14, 1⟩
abbrev SYS_IRQ_UPD : Fld := ⟨0x000020, 15, 1⟩
abbrev SYS_IRQ_FAULT : Fld := ⟨0x000020, 16, 1⟩
abbrev SYS_IRQ_PULSE_OVF : Fld := ⟨0x000020, 17, 1⟩
abbrev SYS_IRQ_TIU_OVF : Fld := ⟨0x000020, 18, 1⟩
abbrev SYS_IRQ_EN_EN : Fld := ⟨0x000024, 0, 19⟩
abbrev SYS_GPIO_FN_FN0 : Fld := ⟨0x000040, 0, 2⟩
abbrev SYS_GPIO_FN_FN1 : Fld := ⟨0x000040, 2, 2⟩
abbrev SYS_GPIO_FN_FN2 : Fld := ⟨0x000040, 4, 2⟩
abbrev SYS_GPIO_FN_FN3 : Fld := ⟨0x000040, 6, 2⟩
abbrev SYS_GPIO_FN_PD : Fld := ⟨0x000040, 8, 4⟩
abbrev SYS_GPIO_IO_IN : Fld := ⟨0x000044, 0, 4⟩
abbrev SYS_GPIO_IO_OUT : Fld := ⟨0x000044, 8, 4⟩
abbrev HIF_CFG_SYNC_MODE : Fld := ⟨0x010000, 0, 2⟩
abbrev HIF_CFG_HIRQ_POL : Fld := ⟨0x010000, 2, 1⟩
abbrev HIF_STATUS_ACTIVE : Fld := ⟨0x010004, 0, 5⟩
abbrev HIF_STATUS_COMPLETE : Fld := ⟨0x010004, 8, 5⟩
abbrev HIF_STATUS_WINDOW : Fld := ⟨0x010004, 16, 5⟩
abbrev HIF_OPFULL_CNT_COUNT : Fld := ⟨0x010008, 0, 16⟩
abbrev HIF_CNT_BAD_CRC : Fld := ⟨0x01000C, 0, 16⟩
abbrev HIF_CNT_ABORT : Fld := ⟨0x01000C, 16, 16⟩
abbrev HIF_DUP_CNT_DUP : Fld := ⟨0x010010, 0, 16⟩
abbrev HIF_OPMAP_ACTIVE : Fld := ⟨0x010014, 0, 16⟩
abbrev HIF_OPMAP_COMPLETE : Fld := ⟨0x010014, 16, 16⟩
abbrev ROT_CFG_K : Fld := ⟨0x020000, 0, 3⟩
abbrev ROT_CFG_CEILING : Fld := ⟨0x020000, 8, 8⟩
abbrev ROT_CFG_STATE : Fld := ⟨0x020000, 16, 3⟩
abbrev ROT_NUM_NUM : Fld := ⟨0x020004, 0, 32⟩
abbrev ROT_NOW_FACET : Fld := ⟨0x020008, 0, 6⟩
abbrev ROT_NOW_OFFSET : Fld := ⟨0x020008, 8, 18⟩
abbrev ROT_NOW_MARKSEQ : Fld := ⟨0x020008, 31, 1⟩
abbrev ROT_MARK_RPT_COMMITTED : Fld := ⟨0x02000C, 0, 16⟩
abbrev ROT_MARK_RPT_LSTEP : Fld := ⟨0x02000C, 16, 1⟩
abbrev ROT_MARK_RPT_LSKIP : Fld := ⟨0x02000C, 17, 1⟩
abbrev ROT_MARK_RPT_APPLY : Fld := ⟨0x02000C, 18, 1⟩
abbrev ROT_MARK_RPT_EPOCH : Fld := ⟨0x02000C, 19, 1⟩
abbrev ROT_MARK_RPT_ROT : Fld := ⟨0x02000C, 24, 8⟩
abbrev ROT_LAST_DUR_NS : Fld := ⟨0x020010, 0, 32⟩
abbrev ROT_IRQ_DIV_DIV : Fld := ⟨0x020014, 0, 8⟩
abbrev ROT_IRQ_DIV_OFF : Fld := ⟨0x020014, 8, 1⟩
abbrev ROT_TRIG_CNT_FIRED : Fld := ⟨0x020018, 0, 16⟩
abbrev ROT_TRIG_CNT_IGNORED : Fld := ⟨0x020018, 16, 16⟩
abbrev ROT_LATE_CNT_LATE : Fld := ⟨0x02001C, 0, 16⟩
abbrev ROT_PREEMPT_CNT_PREEMPT : Fld := ⟨0x020020, 0, 16⟩
abbrev ROT_PREEMPT_CNT_ABANDONED : Fld := ⟨0x020020, 16, 16⟩
abbrev ROT_FOG_LAT_LAST : Fld := ⟨0x020024, 0, 16⟩
abbrev ROT_FOG_MAX_MAX : Fld := ⟨0x020028, 0, 16⟩
abbrev ROT_LAST_DUR_HI_NS : Fld := ⟨0x02002C, 0, 8⟩
abbrev ROT_FACET_KIND (i : Nat) : Fld := ⟨0x020100 + 0x4 * i, 0, 4⟩
abbrev ROT_FACET_SPAN (i : Nat) : Fld := ⟨0x020100 + 0x4 * i, 4, 4⟩
abbrev ROT_FACET_ARG (i : Nat) : Fld := ⟨0x020100 + 0x4 * i, 8, 8⟩
abbrev ROT_FACET_EVERY (i : Nat) : Fld := ⟨0x020100 + 0x4 * i, 16, 6⟩
abbrev ROT_FACET_PHASE (i : Nat) : Fld := ⟨0x020100 + 0x4 * i, 22, 6⟩
abbrev ROT_FNEED_CURRENT (i : Nat) : Fld := ⟨0x020200 + 0x4 * i, 0, 12⟩
abbrev ROT_FNEED_NEED (i : Nat) : Fld := ⟨0x020200 + 0x4 * i, 12, 20⟩
abbrev STI_STATUS_LOAD : Fld := ⟨0x030000, 0, 3⟩
abbrev STI_STATUS_ACTIVE : Fld := ⟨0x030000, 3, 1⟩
abbrev STI_STATUS_BOOT : Fld := ⟨0x030000, 4, 1⟩
abbrev STI_STATUS_DISARMED : Fld := ⟨0x030000, 5, 1⟩
abbrev STI_STATUS_ERROR : Fld := ⟨0x030000, 8, 5⟩
abbrev STI_ERR_AT_OFFSET : Fld := ⟨0x030004, 0, 16⟩
abbrev STI_ERR_AT_ENTRY : Fld := ⟨0x030004, 16, 8⟩
abbrev STI_ARM_ROT_ROT : Fld := ⟨0x030008, 0, 32⟩
abbrev STI_ACTIVE_ID_ID : Fld := ⟨0x03000C, 0, 32⟩
abbrev STI_ACTIVE_VER_VER : Fld := ⟨0x030010, 0, 32⟩
abbrev STI_ACTIVE_CRC_CRC : Fld := ⟨0x030014, 0, 32⟩
abbrev STI_ACTIVE_MCRC_MCRC : Fld := ⟨0x030018, 0, 32⟩
abbrev STI_ACTIVE_LEN_LEN : Fld := ⟨0x03001C, 0, 15⟩
abbrev STI_LOADS_APPLIED : Fld := ⟨0x030020, 0, 16⟩
abbrev STI_LOADS_REJECTED : Fld := ⟨0x030020, 16, 16⟩
abbrev AFE_VDRV_LEVEL : Fld := ⟨0x040000, 0, 8⟩
abbrev AFE_BURST_CHIP_CYC : Fld := ⟨0x040004, 0, 3⟩
abbrev AFE_BURST_DAMP : Fld := ⟨0x040004, 4, 4⟩
abbrev AFE_CENSUS_CFG_CMIN : Fld := ⟨0x040008, 0, 16⟩
abbrev AFE_CENSUS_CFG_CMAX : Fld := ⟨0x040008, 16, 16⟩
abbrev AFE_TX_CHIRP_SPAN (i : Nat) : Fld := ⟨0x040100 + 0x10 * i, 0, 7⟩
abbrev AFE_TX_CHIRP_DOWN (i : Nat) : Fld := ⟨0x040100 + 0x10 * i, 7, 1⟩
abbrev AFE_RX_GAIN (i : Nat) : Fld := ⟨0x040104 + 0x10 * i, 0, 7⟩
abbrev AFE_RX_AGC (i : Nat) : Fld := ⟨0x040104 + 0x10 * i, 7, 1⟩
abbrev AFE_RX_GMIN (i : Nat) : Fld := ⟨0x040104 + 0x10 * i, 8, 7⟩
abbrev AFE_RX_GMAX (i : Nat) : Fld := ⟨0x040104 + 0x10 * i, 16, 7⟩
abbrev AFE_RX_HYST (i : Nat) : Fld := ⟨0x040104 + 0x10 * i, 24, 6⟩
abbrev AFE_RX_POL (i : Nat) : Fld := ⟨0x040104 + 0x10 * i, 30, 2⟩
abbrev AFE_WIN_TMIN (i : Nat) : Fld := ⟨0x040108 + 0x10 * i, 0, 14⟩
abbrev AFE_WIN_TMAX (i : Nat) : Fld := ⟨0x040108 + 0x10 * i, 16, 14⟩
abbrev AFE_WIN2_PRE (i : Nat) : Fld := ⟨0x04010C + 0x10 * i, 0, 12⟩
abbrev AFE_WIN2_TINIT (i : Nat) : Fld := ⟨0x04010C + 0x10 * i, 12, 14⟩
abbrev AFE_COMMIT_REQ : Fld := ⟨0x0407FC, 0, 1⟩
abbrev AFE_COMMIT_DISCARD : Fld := ⟨0x0407FC, 1, 1⟩
abbrev AFE_COMMIT_SEQ : Fld := ⟨0x0407FC, 8, 8⟩
abbrev AFE_STATUS_VDRV_OK : Fld := ⟨0x041000, 0, 1⟩
abbrev AFE_STATUS_NODRV : Fld := ⟨0x041000, 1, 1⟩
abbrev AFE_STATUS_SPAN_CLIP : Fld := ⟨0x041000, 2, 1⟩
abbrev AFE_STATUS_CENSUS : Fld := ⟨0x041000, 3, 1⟩
abbrev AFE_STATUS_VDRV_ACT : Fld := ⟨0x041000, 8, 8⟩
abbrev AFE_SLOT_MAP_BUSY : Fld := ⟨0x041004, 0, 16⟩
abbrev AFE_SLOT_REL_REL : Fld := ⟨0x041008, 0, 16⟩
abbrev AFE_OVR_CNT_OVERRUN : Fld := ⟨0x04100C, 0, 16⟩
abbrev AFE_CENSUS_STATE (i : Nat) : Fld := ⟨0x041100 + 0x4 * i, 0, 2⟩
abbrev AFE_CENSUS_CAP (i : Nat) : Fld := ⟨0x041100 + 0x4 * i, 8, 16⟩
abbrev AFE_TEXP_TEXP (i : Nat) : Fld := ⟨0x041200 + 0x4 * i, 0, 14⟩
abbrev AFE_GAIN_GAIN (i : Nat) : Fld := ⟨0x041220 + 0x4 * i, 0, 7⟩
abbrev AFE_SPAN_SPAN (i : Nat) : Fld := ⟨0x041240 + 0x4 * i, 0, 12⟩
abbrev AFE_SPAN_BUDGET (i : Nat) : Fld := ⟨0x041240 + 0x4 * i, 16, 12⟩
abbrev AFE_FW_FW (i : Nat) : Fld := ⟨0x041260 + 0x4 * i, 0, 32⟩
abbrev AFE_SLOT_CTL_STATE (i : Nat) : Fld := ⟨0x041400 + 0x20 * i, 0, 2⟩
abbrev AFE_SLOT_CTL_OVERRUN (i : Nat) : Fld := ⟨0x041400 + 0x20 * i, 2, 1⟩
abbrev AFE_SLOT_CTL_HOST (i : Nat) : Fld := ⟨0x041400 + 0x20 * i, 3, 1⟩
abbrev AFE_SLOT_CTL_CHORD (i : Nat) : Fld := ⟨0x041400 + 0x20 * i, 4, 3⟩
abbrev AFE_SLOT_CTL_DECIM (i : Nat) : Fld := ⟨0x041400 + 0x20 * i, 8, 3⟩
abbrev AFE_SLOT_CTL_GAIN (i : Nat) : Fld := ⟨0x041400 + 0x20 * i, 16, 7⟩
abbrev AFE_SLOT_CTL_TAG (i : Nat) : Fld := ⟨0x041400 + 0x20 * i, 24, 8⟩
abbrev AFE_SLOT_ROT_ROT (i : Nat) : Fld := ⟨0x041404 + 0x20 * i, 0, 32⟩
abbrev AFE_SLOT_WIN_OPEN (i : Nat) : Fld := ⟨0x041408 + 0x20 * i, 0, 15⟩
abbrev AFE_SLOT_RXA_PEAK (i : Nat) : Fld := ⟨0x04140C + 0x20 * i, 0, 12⟩
abbrev AFE_SLOT_RXA_NST (i : Nat) : Fld := ⟨0x04140C + 0x20 * i, 12, 7⟩
abbrev AFE_SLOT_RXA_CLIP (i : Nat) : Fld := ⟨0x04140C + 0x20 * i, 19, 1⟩
abbrev AFE_SLOT_RXA_SKIP (i : Nat) : Fld := ⟨0x04140C + 0x20 * i, 20, 1⟩
abbrev AFE_SLOT_RXB_PEAK (i : Nat) : Fld := ⟨0x041410 + 0x20 * i, 0, 12⟩
abbrev AFE_SLOT_RXB_NST (i : Nat) : Fld := ⟨0x041410 + 0x20 * i, 12, 7⟩
abbrev AFE_SLOT_RXB_CLIP (i : Nat) : Fld := ⟨0x041410 + 0x20 * i, 19, 1⟩
abbrev AFE_SLOT_RXB_SKIP (i : Nat) : Fld := ⟨0x041410 + 0x20 * i, 20, 1⟩
abbrev TIU_STATUS_LOCK : Fld := ⟨0x050000, 0, 1⟩
abbrev TIU_STATUS_UNLOCK : Fld := ⟨0x050000, 1, 1⟩
abbrev TIU_STATUS_HELD : Fld := ⟨0x050000, 2, 1⟩
abbrev TIU_UNLOCK_CNT_COUNT : Fld := ⟨0x050004, 0, 16⟩
abbrev TIU_OVF_SRC_COVF : Fld := ⟨0x050008, 0, 6⟩
abbrev TIU_OVF_SRC_FULL : Fld := ⟨0x050008, 8, 6⟩
abbrev TIU_HOURS_HOURS : Fld := ⟨0x050010, 0, 32⟩
abbrev TIU_AGE_A_A : Fld := ⟨0x050014, 0, 32⟩
abbrev TIU_AGE_B_B : Fld := ⟨0x050018, 0, 32⟩
abbrev TIU_AGE_PPB_A_PPB : Fld := ⟨0x05001C, 0, 32⟩
abbrev TIU_SCALE_SCALE : Fld := ⟨0x050020, 0, 32⟩
abbrev TIU_STRM_FULL (i : Nat) : Fld := ⟨0x050040 + 0x4 * i, 0, 16⟩
abbrev TIU_STRM_DEAD (i : Nat) : Fld := ⟨0x050040 + 0x4 * i, 16, 16⟩
abbrev TIU_EV_CFG_MODE (i : Nat) : Fld := ⟨0x050100 + 0x20 * i, 0, 2⟩
abbrev TIU_EV_CFG_EDGE (i : Nat) : Fld := ⟨0x050100 + 0x20 * i, 2, 2⟩
abbrev TIU_EV_CFG_ORG (i : Nat) : Fld := ⟨0x050100 + 0x20 * i, 4, 1⟩
abbrev TIU_EV_CFG_START (i : Nat) : Fld := ⟨0x050100 + 0x20 * i, 5, 3⟩
abbrev TIU_EV_CFG_HOLD (i : Nat) : Fld := ⟨0x050100 + 0x20 * i, 8, 10⟩
abbrev TIU_EV_CFG_COUNT (i : Nat) : Fld := ⟨0x050100 + 0x20 * i, 18, 14⟩
abbrev TIU_EV_ARM_GO (i : Nat) : Fld := ⟨0x050104 + 0x20 * i, 0, 1⟩
abbrev TIU_EV_ARM_DISARM (i : Nat) : Fld := ⟨0x050104 + 0x20 * i, 1, 1⟩
abbrev TIU_EV_FLG_LEVEL (i : Nat) : Fld := ⟨0x050108 + 0x20 * i, 0, 5⟩
abbrev TIU_EV_FLG_STATE (i : Nat) : Fld := ⟨0x050108 + 0x20 * i, 5, 3⟩
abbrev TIU_EV_FLG_COARSE_OVF (i : Nat) : Fld := ⟨0x050108 + 0x20 * i, 8, 1⟩
abbrev TIU_EV_FLG_UNRESOLVED (i : Nat) : Fld := ⟨0x050108 + 0x20 * i, 9, 1⟩
abbrev TIU_EV_FLG_ORDER (i : Nat) : Fld := ⟨0x050108 + 0x20 * i, 10, 1⟩
abbrev TIU_EV_FLG_RESULTS (i : Nat) : Fld := ⟨0x050108 + 0x20 * i, 16, 16⟩
abbrev TIU_EV_VAL_VALUE (i : Nat) : Fld := ⟨0x05010C + 0x20 * i, 0, 32⟩
abbrev TIU_EV_DROP_EDGE (i : Nat) : Fld := ⟨0x050110 + 0x20 * i, 0, 16⟩
abbrev TIU_EV_DROP_FULL (i : Nat) : Fld := ⟨0x050110 + 0x20 * i, 16, 16⟩
abbrev TIU_ST_CFG_SRC (i : Nat) : Fld := ⟨0x050400 + 0x20 * i, 0, 2⟩
abbrev TIU_ST_CFG_GO (i : Nat) : Fld := ⟨0x050400 + 0x20 * i, 2, 1⟩
abbrev TIU_ST_CFG_STOP (i : Nat) : Fld := ⟨0x050400 + 0x20 * i, 3, 1⟩
abbrev TIU_ST_CFG_STATE (i : Nat) : Fld := ⟨0x050400 + 0x20 * i, 4, 2⟩
abbrev TIU_ST_CFG_SAT (i : Nat) : Fld := ⟨0x050400 + 0x20 * i, 6, 1⟩
abbrev TIU_ST_CFG_ABORT (i : Nat) : Fld := ⟨0x050400 + 0x20 * i, 7, 1⟩
abbrev TIU_ST_CFG_N (i : Nat) : Fld := ⟨0x050400 + 0x20 * i, 16, 16⟩
abbrev TIU_ST_COUNT_COUNT (i : Nat) : Fld := ⟨0x050404 + 0x20 * i, 0, 16⟩
abbrev TIU_ST_COUNT_EXCL (i : Nat) : Fld := ⟨0x050404 + 0x20 * i, 16, 16⟩
abbrev TIU_ST_MEAN_LO_MEAN (i : Nat) : Fld := ⟨0x050408 + 0x20 * i, 0, 32⟩
abbrev TIU_ST_MEAN_HI_MEAN (i : Nat) : Fld := ⟨0x05040C + 0x20 * i, 0, 16⟩
abbrev TIU_ST_SDEV_SDEV (i : Nat) : Fld := ⟨0x050410 + 0x20 * i, 0, 32⟩
abbrev TIU_ST_MIN_MIN (i : Nat) : Fld := ⟨0x050414 + 0x20 * i, 0, 32⟩
abbrev TIU_ST_MAX_MAX (i : Nat) : Fld := ⟨0x050418 + 0x20 * i, 0, 32⟩
abbrev ECH_CFG_FRAC : Fld := ⟨0x060000, 0, 8⟩
abbrev ECH_CFG_CONF_MIN : Fld := ⟨0x060000, 8, 8⟩
abbrev ECH_CFG_JUMP : Fld := ⟨0x060000, 16, 8⟩
abbrev ECH_CFG_NMIN : Fld := ⟨0x060000, 24, 7⟩
abbrev ECH_CFG_SEEDCHK : Fld := ⟨0x060000, 31, 1⟩
abbrev ECH_CFG2_EMPTY_M : Fld := ⟨0x060004, 0, 8⟩
abbrev ECH_CFG2_RESEED : Fld := ⟨0x060004, 8, 8⟩
abbrev ECH_CFG2_NFIT : Fld := ⟨0x060004, 16, 7⟩
abbrev ECH_CFG2_AVG_SH : Fld := ⟨0x060004, 24, 4⟩
abbrev ECH_AMP_ATTEN_DB : Fld := ⟨0x060008, 0, 8⟩
abbrev ECH_AMP_ASYM_DB : Fld := ⟨0x060008, 8, 8⟩
abbrev ECH_AMP_EMIN : Fld := ⟨0x060008, 16, 8⟩
abbrev ECH_AMP_FITMAX : Fld := ⟨0x060008, 24, 8⟩
abbrev ECH_GAS_C0_C0 : Fld := ⟨0x06000C, 0, 32⟩
abbrev ECH_CH_A_UP (i : Nat) : Fld := ⟨0x060100 + 0x10 * i, 0, 1⟩
abbrev ECH_PICK_PICK (i : Nat) : Fld := ⟨0x060104 + 0x10 * i, 0, 32⟩
abbrev ECH_PTX_DLY (i : Nat) : Fld := ⟨0x060200 + 0x8 * i, 0, 32⟩
abbrev ECH_PRX_DLY (i : Nat) : Fld := ⟨0x060204 + 0x8 * i, 0, 32⟩
abbrev ECH_COMMIT_REQ : Fld := ⟨0x0607FC, 0, 1⟩
abbrev ECH_COMMIT_DISCARD : Fld := ⟨0x0607FC, 1, 1⟩
abbrev ECH_COMMIT_SEQ : Fld := ⟨0x0607FC, 8, 8⟩
abbrev ECH_STATUS_EMPTY : Fld := ⟨0x061000, 0, 1⟩
abbrev ECH_STATUS_REFILL : Fld := ⟨0x061000, 1, 1⟩
abbrev ECH_STATUS_LATE : Fld := ⟨0x061000, 2, 1⟩
abbrev ECH_STATUS_RUN : Fld := ⟨0x061000, 8, 8⟩
abbrev ECH_EVT_ATTEN : Fld := ⟨0x061004, 0, 8⟩
abbrev ECH_EVT_ASYM : Fld := ⟨0x061004, 8, 8⟩
abbrev ECH_EVT_HALF : Fld := ⟨0x061004, 16, 8⟩
abbrev ECH_EVT_JUMP : Fld := ⟨0x061004, 24, 8⟩
abbrev ECH_SLIP_SRC_SLIP : Fld := ⟨0x061008, 0, 8⟩
abbrev ECH_SLIP_SRC_FIXED : Fld := ⟨0x061008, 8, 8⟩
abbrev ECH_RING_PTR : Fld := ⟨0x06100C, 0, 16⟩
abbrev ECH_RING_BASE_BASE : Fld := ⟨0x061010, 0, 24⟩
abbrev ECH_RING_LEN_LEN : Fld := ⟨0x061014, 0, 16⟩
abbrev ECH_LAST_ROT_ROT : Fld := ⟨0x061018, 0, 32⟩
abbrev ECH_CTL_RESEED : Fld := ⟨0x06101C, 0, 8⟩
abbrev ECH_CTL_AMP_RESET : Fld := ⟨0x06101C, 8, 8⟩
abbrev ECH_HOSTEVT_EMPTY : Fld := ⟨0x061020, 0, 1⟩
abbrev ECH_HOSTEVT_REFILL : Fld := ⟨0x061020, 1, 1⟩
abbrev ECH_GDLY_IDX_GAIN : Fld := ⟨0x061024, 0, 7⟩
abbrev ECH_GDLY_VAL_DLY : Fld := ⟨0x061028, 0, 32⟩
abbrev ECH_CHST_SEEDED (i : Nat) : Fld := ⟨0x061100 + 0x8 * i, 0, 1⟩
abbrev ECH_CHST_AVG_UP (i : Nat) : Fld := ⟨0x061100 + 0x8 * i, 1, 1⟩
abbrev ECH_CHST_AVG_DN (i : Nat) : Fld := ⟨0x061100 + 0x8 * i, 2, 1⟩
abbrev ECH_CHST_REJ (i : Nat) : Fld := ⟨0x061100 + 0x8 * i, 8, 8⟩
abbrev ECH_AVG_UP (i : Nat) : Fld := ⟨0x061104 + 0x8 * i, 0, 16⟩
abbrev ECH_AVG_DN (i : Nat) : Fld := ⟨0x061104 + 0x8 * i, 16, 16⟩
abbrev FLW_SUB_SMAX : Fld := ⟨0x070000, 0, 8⟩
abbrev FLW_SUB_MINH : Fld := ⟨0x070000, 8, 4⟩
abbrev FLW_SUB_RNMIN : Fld := ⟨0x070000, 12, 7⟩
abbrev FLW_SUB_RECOVER : Fld := ⟨0x070000, 24, 8⟩
abbrev FLW_RVMIN_VMIN : Fld := ⟨0x070004, 0, 24⟩
abbrev FLW_CUT_VCUT : Fld := ⟨0x070008, 0, 24⟩
abbrev FLW_H2_CFG_EN : Fld := ⟨0x07000C, 0, 1⟩
abbrev FLW_H2_CFG_STEER : Fld := ⟨0x07000C, 1, 1⟩
abbrev FLW_H2_C0_C0 : Fld := ⟨0x070010, 0, 32⟩
abbrev FLW_H2_MNG_MNG : Fld := ⟨0x070014, 0, 32⟩
abbrev FLW_H2_PK_PK : Fld := ⟨0x070018, 0, 32⟩
abbrev FLW_H2_CVH_CVH : Fld := ⟨0x07001C, 0, 32⟩
abbrev FLW_GAS_NU0_NU0 : Fld := ⟨0x070020, 0, 32⟩
abbrev FLW_ZERO_ZERO (i : Nat) : Fld := ⟨0x070100 + 0x4 * i, 0, 32⟩
abbrev FLW_COMMIT_REQ : Fld := ⟨0x0707FC, 0, 1⟩
abbrev FLW_COMMIT_DISCARD : Fld := ⟨0x0707FC, 1, 1⟩
abbrev FLW_COMMIT_SEQ : Fld := ⟨0x0707FC, 8, 8⟩
abbrev FLW_STATUS_STATE : Fld := ⟨0x071000, 0, 2⟩
abbrev FLW_STATUS_SUBST : Fld := ⟨0x071000, 2, 1⟩
abbrev FLW_STATUS_FALLBACK : Fld := ⟨0x071000, 3, 1⟩
abbrev FLW_STATUS_CUT : Fld := ⟨0x071000, 4, 1⟩
abbrev FLW_STATUS_NO_TEMP : Fld := ⟨0x071000, 5, 1⟩
abbrev FLW_STATUS_COEF_BAD : Fld := ⟨0x071000, 6, 1⟩
abbrev FLW_STATUS_H2_VALID : Fld := ⟨0x071000, 7, 1⟩
abbrev FLW_STATUS_HEALTHY : Fld := ⟨0x071000, 8, 8⟩
abbrev FLW_STATUS_SUBMASK : Fld := ⟨0x071000, 16, 8⟩
abbrev FLW_STATUS_EXCL : Fld := ⟨0x071000, 24, 8⟩
abbrev FLW_ROT_ROT : Fld := ⟨0x071004, 0, 32⟩
abbrev FLW_Q_LO_Q : Fld := ⟨0x071008, 0, 32⟩
abbrev FLW_Q_HI_Q : Fld := ⟨0x07100C, 0, 32⟩
abbrev FLW_VM_VM : Fld := ⟨0x071010, 0, 32⟩
abbrev FLW_RE_RE : Fld := ⟨0x071014, 0, 32⟩
abbrev FLW_K_K : Fld := ⟨0x071018, 0, 32⟩
abbrev FLW_SOS_SOS : Fld := ⟨0x07101C, 0, 32⟩
abbrev FLW_H2_X : Fld := ⟨0x071020, 0, 16⟩
abbrev FLW_H2_XF : Fld := ⟨0x071020, 16, 16⟩
abbrev FLW_EVT_FAILED : Fld := ⟨0x071024, 0, 8⟩
abbrev FLW_EVT_RECOVERED : Fld := ⟨0x071024, 8, 8⟩
abbrev FLW_EVT_SUBST : Fld := ⟨0x071024, 16, 8⟩
abbrev FLW_CTL_UNFAIL : Fld := ⟨0x071028, 0, 8⟩
abbrev FLW_CTL_RATIO_RESET : Fld := ⟨0x071028, 8, 8⟩
abbrev FLW_SHOT_CNT_NOSLOT : Fld := ⟨0x07102C, 0, 16⟩
abbrev FLW_QSTART_QS : Fld := ⟨0x071030, 0, 32⟩
abbrev FLW_COEF_IDX_IDX : Fld := ⟨0x071034, 0, 8⟩
abbrev FLW_COEF_VAL_VAL : Fld := ⟨0x071038, 0, 32⟩
abbrev FLW_CHST_STATE (i : Nat) : Fld := ⟨0x071100 + 0x8 * i, 0, 2⟩
abbrev FLW_CHST_FCAUSE (i : Nat) : Fld := ⟨0x071100 + 0x8 * i, 2, 2⟩
abbrev FLW_CHST_RUN (i : Nat) : Fld := ⟨0x071100 + 0x8 * i, 8, 8⟩
abbrev FLW_CHST_CNT (i : Nat) : Fld := ⟨0x071100 + 0x8 * i, 16, 7⟩
abbrev FLW_CHST_OK (i : Nat) : Fld := ⟨0x071100 + 0x8 * i, 24, 8⟩
abbrev FLW_RATIO_RATIO (i : Nat) : Fld := ⟨0x071104 + 0x8 * i, 0, 32⟩
abbrev TMU_CFG_NAVG : Fld := ⟨0x080000, 0, 3⟩
abbrev TMU_CFG_TCHG : Fld := ⟨0x080000, 4, 7⟩
abbrev TMU_CFG_TDMAX : Fld := ⟨0x080000, 12, 9⟩
abbrev TMU_RREF_RREF : Fld := ⟨0x080004, 0, 32⟩
abbrev TMU_LIMIT_SHORT : Fld := ⟨0x080008, 0, 8⟩
abbrev TMU_LIMIT_LOOPMAX : Fld := ⟨0x080008, 8, 8⟩
abbrev TMU_LEAD_LEAD (i : Nat) : Fld := ⟨0x080010 + 0x4 * i, 0, 16⟩
abbrev TMU_COMMIT_REQ : Fld := ⟨0x0807FC, 0, 1⟩
abbrev TMU_COMMIT_DISCARD : Fld := ⟨0x0807FC, 1, 1⟩
abbrev TMU_COMMIT_SEQ : Fld := ⟨0x0807FC, 8, 8⟩
abbrev TMU_STATUS_BUSY : Fld := ⟨0x081000, 0, 1⟩
abbrev TMU_STATUS_LATE : Fld := ⟨0x081000, 1, 1⟩
abbrev TMU_STATUS_COEF_BAD : Fld := ⟨0x081000, 2, 1⟩
abbrev TMU_STATUS_P_NOTEMP : Fld := ⟨0x081000, 3, 1⟩
abbrev TMU_STATUS_SEQ : Fld := ⟨0x081000, 16, 16⟩
abbrev TMU_EVT_FAULT : Fld := ⟨0x081004, 0, 5⟩
abbrev TMU_EVT_BACK : Fld := ⟨0x081004, 8, 5⟩
abbrev TMU_STATE_STATE : Fld := ⟨0x081008, 0, 20⟩
abbrev TMU_VALID_HELD : Fld := ⟨0x08100C, 0, 5⟩
abbrev TMU_VALID_DT : Fld := ⟨0x08100C, 5, 1⟩
abbrev TMU_T_T (i : Nat) : Fld := ⟨0x081010 + 0x4 * i, 0, 32⟩
abbrev TMU_R_R (i : Nat) : Fld := ⟨0x081020 + 0x4 * i, 0, 32⟩
abbrev TMU_DT_DT : Fld := ⟨0x081030, 0, 32⟩
abbrev TMU_DT_AT_EPOCH : Fld := ⟨0x081034, 0, 8⟩
abbrev TMU_DT_AT_ROT : Fld := ⟨0x081034, 8, 24⟩
abbrev TMU_P_P : Fld := ⟨0x081038, 0, 32⟩
abbrev TMU_U_U : Fld := ⟨0x08103C, 0, 32⟩
abbrev TMU_ROT_ROT : Fld := ⟨0x081040, 0, 32⟩
abbrev TMU_CNT_LATE : Fld := ⟨0x081044, 0, 16⟩
abbrev TMU_CNT_ABANDONED : Fld := ⟨0x081044, 16, 16⟩
abbrev TMU_TRIM_RS : Fld := ⟨0x081048, 0, 16⟩
abbrev TMU_TRIM_TDEL : Fld := ⟨0x081048, 16, 16⟩
abbrev TMU_COEF_IDX_IDX : Fld := ⟨0x08104C, 0, 8⟩
abbrev TMU_COEF_VAL_VAL : Fld := ⟨0x081050, 0, 32⟩
abbrev LDG_HC_PRESS : Fld := ⟨0x090000, 0, 2⟩
abbrev LDG_HC_DTMIN : Fld := ⟨0x090000, 16, 16⟩
abbrev LDG_COMMIT_INT_SEC : Fld := ⟨0x090004, 0, 12⟩
abbrev LDG_PULSE_CFG_WIDTH (i : Nat) : Fld := ⟨0x090010 + 0x8 * i, 0, 8⟩
abbrev LDG_PULSE_CFG_POL (i : Nat) : Fld := ⟨0x090010 + 0x8 * i, 8, 1⟩
abbrev LDG_PULSE_WT_WT (i : Nat) : Fld := ⟨0x090014 + 0x8 * i, 0, 32⟩
abbrev LDG_GAS_PB_PB : Fld := ⟨0x090020, 0, 32⟩
abbrev LDG_GAS_TB_TB : Fld := ⟨0x090024, 0, 32⟩
abbrev LDG_GAS_ZC_ZC : Fld := ⟨0x090028, 0, 32⟩
abbrev LDG_GAS_ZB_ZB : Fld := ⟨0x09002C, 0, 32⟩
abbrev LDG_GAS_PAX_P (i : Nat) : Fld := ⟨0x090100 + 0x4 * i, 0, 32⟩
abbrev LDG_GAS_TAX_T (i : Nat) : Fld := ⟨0x090140 + 0x4 * i, 0, 32⟩
abbrev LDG_GAS_Z_ZEVEN (i : Nat) : Fld := ⟨0x090200 + 0x4 * i, 0, 16⟩
abbrev LDG_GAS_Z_ZODD (i : Nat) : Fld := ⟨0x090200 + 0x4 * i, 16, 16⟩
abbrev LDG_CV_CV (i : Nat) : Fld := ⟨0x090400 + 0x4 * i, 0, 32⟩
abbrev LDG_TARIFF_SEL_BIN : Fld := ⟨0x090410, 0, 2⟩
abbrev LDG_COMMIT_REQ : Fld := ⟨0x0907FC, 0, 1⟩
abbrev LDG_COMMIT_DISCARD : Fld := ⟨0x0907FC, 1, 1⟩
abbrev LDG_COMMIT_SEQ : Fld := ⟨0x0907FC, 8, 8⟩
abbrev LDG_STATUS_RESTORE : Fld := ⟨0x091000, 0, 2⟩
abbrev LDG_STATUS_ZTAB_BAD : Fld := ⟨0x091000, 2, 1⟩
abbrev LDG_STATUS_PF_DONE : Fld := ⟨0x091000, 3, 1⟩
abbrev LDG_STATUS_KIND : Fld := ⟨0x091000, 8, 3⟩
abbrev LDG_EVT_POVF0 : Fld := ⟨0x091004, 0, 1⟩
abbrev LDG_EVT_POVF1 : Fld := ⟨0x091004, 1, 1⟩
abbrev LDG_EVT_NOSET : Fld := ⟨0x091004, 2, 1⟩
abbrev LDG_EVT_HOSTIGN : Fld := ⟨0x091004, 3, 1⟩
abbrev LDG_EVT_ACC_UE : Fld := ⟨0x091004, 4, 1⟩
abbrev LDG_EVT_COMMIT_FAIL : Fld := ⟨0x091004, 5, 1⟩
abbrev LDG_EVT_CLEARED : Fld := ⟨0x091004, 6, 1⟩
abbrev LDG_ROT_ROT : Fld := ⟨0x091008, 0, 32⟩
abbrev LDG_LASTSTEP_INTEGRATED : Fld := ⟨0x09100C, 0, 1⟩
abbrev LDG_LASTSTEP_SPLIT : Fld := ⟨0x09100C, 1, 1⟩
abbrev LDG_LASTSTEP_SUBST : Fld := ⟨0x09100C, 2, 1⟩
abbrev LDG_LASTSTEP_ERROR : Fld := ⟨0x09100C, 3, 1⟩
abbrev LDG_LASTSTEP_E_FLOW : Fld := ⟨0x09100C, 4, 1⟩
abbrev LDG_LASTSTEP_E_TEMP : Fld := ⟨0x09100C, 5, 1⟩
abbrev LDG_LASTSTEP_E_GAS : Fld := ⟨0x09100C, 6, 1⟩
abbrev LDG_LASTSTEP_E_POISON : Fld := ⟨0x09100C, 7, 1⟩
abbrev LDG_LASTSTEP_E_HOST : Fld := ⟨0x09100C, 8, 1⟩
abbrev LDG_LASTSTEP_NO_PREV : Fld := ⟨0x09100C, 9, 1⟩
abbrev LDG_LASTSTEP_PARTIAL : Fld := ⟨0x09100C, 10, 1⟩
abbrev LDG_K_K : Fld := ⟨0x091010, 0, 32⟩
abbrev LDG_CORR_C : Fld := ⟨0x091014, 0, 32⟩
abbrev LDG_CVUSED_CV : Fld := ⟨0x091018, 0, 32⟩
abbrev LDG_TARIFF_BIN : Fld := ⟨0x09101C, 0, 2⟩
abbrev LDG_TARIFF_MATCH : Fld := ⟨0x09101C, 2, 1⟩
abbrev LDG_TARIFF_ENTRY : Fld := ⟨0x09101C, 8, 5⟩
abbrev LDG_PULSE_ST_BACKLOG (i : Nat) : Fld := ⟨0x091020 + 0x8 * i, 0, 16⟩
abbrev LDG_PULSE_PER_PER (i : Nat) : Fld := ⟨0x091024 + 0x8 * i, 0, 18⟩
abbrev LDG_PULSE_LOST_LOST0 : Fld := ⟨0x091030, 0, 16⟩
abbrev LDG_PULSE_LOST_LOST1 : Fld := ⟨0x091030, 16, 16⟩
abbrev LDG_CTL_CLEAR : Fld := ⟨0x091034, 0, 1⟩
abbrev LDG_SEQ_SEQ : Fld := ⟨0x091038, 0, 32⟩
abbrev LDG_NVMPOS_POS : Fld := ⟨0x09103C, 0, 10⟩
abbrev LDG_NVMPOS_PF_US : Fld := ⟨0x09103C, 16, 16⟩
abbrev LDG_HOSTINC_W_INC (i : Nat) : Fld := ⟨0x091040 + 0x4 * i, 0, 32⟩
abbrev LDG_HOSTINC_FLAGS_ERR : Fld := ⟨0x091078, 0, 1⟩
abbrev LDG_HOSTINC_GO_GO : Fld := ⟨0x09107C, 0, 1⟩
abbrev LDG_KTAB_IDX_J : Fld := ⟨0x091080, 0, 5⟩
abbrev LDG_KTAB_IDX_I : Fld := ⟨0x091080, 5, 5⟩
abbrev LDG_KTAB_IDX_PRESS : Fld := ⟨0x091080, 10, 2⟩
abbrev LDG_KTAB_IDX_POS : Fld := ⟨0x091080, 12, 1⟩
abbrev LDG_KTAB_VAL_K : Fld := ⟨0x091084, 0, 32⟩
abbrev LDG_ACC_W0_VAL (i : Nat) : Fld := ⟨0x091100 + 0x10 * i, 0, 32⟩
abbrev LDG_ACC_W1_VAL (i : Nat) : Fld := ⟨0x091104 + 0x10 * i, 0, 32⟩
abbrev LDG_ACC_W2_VAL (i : Nat) : Fld := ⟨0x091108 + 0x10 * i, 0, 32⟩
abbrev LDG_ACC_W3_WRAP (i : Nat) : Fld := ⟨0x09110C + 0x10 * i, 24, 8⟩
abbrev RAD_LBT_THRESH : Fld := ⟨0x0A0000, 0, 8⟩
abbrev RAD_LBT_LISTEN : Fld := ⟨0x0A0000, 8, 8⟩
abbrev RAD_LBT_TRIES : Fld := ⟨0x0A0000, 16, 4⟩
abbrev RAD_ANT_OFF : Fld := ⟨0x0A0004, 0, 2⟩
abbrev RAD_ANT_RX : Fld := ⟨0x0A0004, 2, 2⟩
abbrev RAD_ANT_TX : Fld := ⟨0x0A0004, 4, 2⟩
abbrev RAD_ANT_GAIN : Fld := ⟨0x0A0004, 8, 8⟩
abbrev RAD_PRE_LEN : Fld := ⟨0x0A0008, 0, 6⟩
abbrev RAD_COMMIT_REQ : Fld := ⟨0x0A07FC, 0, 1⟩
abbrev RAD_COMMIT_DISCARD : Fld := ⟨0x0A07FC, 1, 1⟩
abbrev RAD_COMMIT_SEQ : Fld := ⟨0x0A07FC, 8, 8⟩
abbrev RAD_STATUS_STATE : Fld := ⟨0x0A1000, 0, 3⟩
abbrev RAD_STATUS_PHY : Fld := ⟨0x0A1000, 8, 8⟩
abbrev RAD_STATUS_BAND : Fld := ⟨0x0A1000, 16, 1⟩
abbrev RAD_STATUS_GFSK : Fld := ⟨0x0A1000, 17, 1⟩
abbrev RAD_STATUS_FEC : Fld := ⟨0x0A1000, 18, 1⟩
abbrev RAD_EVT_PWR_CLAMP : Fld := ⟨0x0A1004, 0, 1⟩
abbrev RAD_EVT_GOV_REFUSED : Fld := ⟨0x0A1004, 1, 1⟩
abbrev RAD_EVT_RX_DROP : Fld := ⟨0x0A1004, 2, 1⟩
abbrev RAD_EVT_RX_CUT : Fld := ⟨0x0A1004, 3, 1⟩
abbrev RAD_EVT_NOCHAN : Fld := ⟨0x0A1004, 4, 1⟩
abbrev RAD_GOV_SEL_SUB : Fld := ⟨0x0A1008, 0, 3⟩
abbrev RAD_GOV_USED_USED : Fld := ⟨0x0A100C, 0, 32⟩
abbrev RAD_GOV_BUDGET_BUDGET : Fld := ⟨0x0A1010, 0, 32⟩
abbrev RAD_GOV_CNT_STEADY : Fld := ⟨0x0A1014, 0, 16⟩
abbrev RAD_GOV_CNT_FOG : Fld := ⟨0x0A1014, 16, 16⟩
abbrev RAD_RSSI_LAST : Fld := ⟨0x0A1018, 0, 8⟩
abbrev RAD_RSSI_CCA : Fld := ⟨0x0A1018, 8, 8⟩
abbrev RAD_CNT_RX_OK : Fld := ⟨0x0A101C, 0, 16⟩
abbrev RAD_CNT_RX_BAD : Fld := ⟨0x0A101C, 16, 16⟩
abbrev RAD_TXCNT_TX : Fld := ⟨0x0A1020, 0, 16⟩
abbrev RAD_TXCNT_BUSY : Fld := ⟨0x0A1020, 16, 16⟩
abbrev RAD_RXREL_REL : Fld := ⟨0x0A1024, 0, 4⟩
abbrev RAD_RXD_LEN (i : Nat) : Fld := ⟨0x0A1100 + 0x8 * i, 0, 10⟩
abbrev RAD_RXD_FULL (i : Nat) : Fld := ⟨0x0A1100 + 0x8 * i, 10, 1⟩
abbrev RAD_RXD_CHECK_OK (i : Nat) : Fld := ⟨0x0A1100 + 0x8 * i, 11, 1⟩
abbrev RAD_RXD_FEC (i : Nat) : Fld := ⟨0x0A1100 + 0x8 * i, 12, 1⟩
abbrev RAD_RXD_FMT (i : Nat) : Fld := ⟨0x0A1100 + 0x8 * i, 13, 1⟩
abbrev RAD_RXD_MODE (i : Nat) : Fld := ⟨0x0A1100 + 0x8 * i, 14, 1⟩
abbrev RAD_RXD_CHAN (i : Nat) : Fld := ⟨0x0A1100 + 0x8 * i, 16, 8⟩
abbrev RAD_RXD_RSSI (i : Nat) : Fld := ⟨0x0A1100 + 0x8 * i, 24, 8⟩
abbrev RAD_RXT_LFT (i : Nat) : Fld := ⟨0x0A1104 + 0x8 * i, 0, 18⟩
abbrev RAD_RXT_ROT (i : Nat) : Fld := ⟨0x0A1104 + 0x8 * i, 18, 14⟩
abbrev RAD_RXBUF_DATA (i : Nat) : Fld := ⟨0x0A2000 + 0x4 * i, 0, 32⟩
abbrev MSH_WIN_BASE : Fld := ⟨0x0B0000, 0, 12⟩
abbrev MSH_WIN_PPM : Fld := ⟨0x0B0000, 12, 8⟩
abbrev MSH_RETRY_TRIES : Fld := ⟨0x0B0004, 0, 4⟩
abbrev MSH_RETRY_FTRIES : Fld := ⟨0x0B0004, 4, 4⟩
abbrev MSH_RETRY_TTL : Fld := ⟨0x0B0004, 8, 3⟩
abbrev MSH_RETRY_RELAY : Fld := ⟨0x0B0004, 11, 1⟩
abbrev MSH_RETRY_JTRIES : Fld := ⟨0x0B0004, 12, 4⟩
abbrev MSH_CFG_AUTOJOIN : Fld := ⟨0x0B0008, 0, 1⟩
abbrev MSH_CFG_JOIN_OPEN : Fld := ⟨0x0B0008, 1, 1⟩
abbrev MSH_CFG_SCANDIV : Fld := ⟨0x0B0008, 8, 6⟩
abbrev MSH_CFG_ORPHAN : Fld := ⟨0x0B0008, 16, 8⟩
abbrev MSH_REPORT_INTERVAL : Fld := ⟨0x0B000C, 0, 17⟩
abbrev MSH_REPORT_MASK_MASK : Fld := ⟨0x0B0010, 0, 17⟩
abbrev MSH_WMBUS_M_MFIELD : Fld := ⟨0x0B0014, 0, 16⟩
abbrev MSH_WMBUS_M_VER : Fld := ⟨0x0B0014, 16, 8⟩
abbrev MSH_WMBUS_M_DEVTYPE : Fld := ⟨0x0B0014, 24, 8⟩
abbrev MSH_COMMIT_REQ : Fld := ⟨0x0B07FC, 0, 1⟩
abbrev MSH_COMMIT_DISCARD : Fld := ⟨0x0B07FC, 1, 1⟩
abbrev MSH_COMMIT_SEQ : Fld := ⟨0x0B07FC, 8, 8⟩
abbrev MSH_STATUS_ROLE : Fld := ⟨0x0B1000, 0, 2⟩
abbrev MSH_STATUS_STATE : Fld := ⟨0x0B1000, 2, 3⟩
abbrev MSH_STATUS_MISS : Fld := ⟨0x0B1000, 5, 2⟩
abbrev MSH_STATUS_FLOODED : Fld := ⟨0x0B1000, 7, 1⟩
abbrev MSH_STATUS_ASSOC : Fld := ⟨0x0B1000, 16, 16⟩
abbrev MSH_ADDR_LONG : Fld := ⟨0x0B1004, 0, 32⟩
abbrev MSH_SHORT_SHORT : Fld := ⟨0x0B1008, 0, 16⟩
abbrev MSH_CELL_CELL : Fld := ⟨0x0B100C, 0, 32⟩
abbrev MSH_TIME_EVT : Fld := ⟨0x0B1010, 0, 16⟩
abbrev MSH_TIME_CHAN : Fld := ⟨0x0B1010, 16, 8⟩
abbrev MSH_CROT_OFFSET : Fld := ⟨0x0B1014, 0, 32⟩
abbrev MSH_LASTFLASH_SINCE : Fld := ⟨0x0B1018, 0, 16⟩
abbrev MSH_LASTFLASH_CORR : Fld := ⟨0x0B1018, 16, 8⟩
abbrev MSH_LASTFLASH_RSSI : Fld := ⟨0x0B1018, 24, 8⟩
abbrev MSH_EVT_JOINED : Fld := ⟨0x0B101C, 0, 1⟩
abbrev MSH_EVT_DARK : Fld := ⟨0x0B101C, 1, 1⟩
abbrev MSH_EVT_LIGHT : Fld := ⟨0x0B101C, 2, 1⟩
abbrev MSH_EVT_LOST : Fld := ⟨0x0B101C, 3, 1⟩
abbrev MSH_EVT_LEFT : Fld := ⟨0x0B101C, 4, 1⟩
abbrev MSH_EVT_JOIN_FAIL : Fld := ⟨0x0B101C, 5, 1⟩
abbrev MSH_EVT_MISMATCH : Fld := ⟨0x0B101C, 6, 1⟩
abbrev MSH_EVT_REPLAY : Fld := ⟨0x0B101C, 7, 1⟩
abbrev MSH_EVT_FCNT_END : Fld := ⟨0x0B101C, 8, 1⟩
abbrev MSH_EVT_KEVT : Fld := ⟨0x0B101C, 9, 1⟩
abbrev MSH_EVT_KOVF : Fld := ⟨0x0B101C, 10, 1⟩
abbrev MSH_EVT_TXLOST : Fld := ⟨0x0B101C, 11, 1⟩
abbrev MSH_EVT_QFULL : Fld := ⟨0x0B101C, 12, 1⟩
abbrev MSH_KEVT_SHORT : Fld := ⟨0x0B1020, 0, 16⟩
abbrev MSH_KEVT_KIND : Fld := ⟨0x0B1020, 16, 2⟩
abbrev MSH_KEVT_VALID : Fld := ⟨0x0B1020, 31, 1⟩
abbrev MSH_CNT_MISSED : Fld := ⟨0x0B1024, 0, 16⟩
abbrev MSH_CNT_RELAYED : Fld := ⟨0x0B1024, 16, 16⟩
abbrev MSH_CNT2_DUP : Fld := ⟨0x0B1028, 0, 16⟩
abbrev MSH_CNT2_REPLAY : Fld := ⟨0x0B1028, 16, 16⟩
abbrev MSH_FCNT_FCNT : Fld := ⟨0x0B102C, 0, 32⟩
abbrev MSH_CTL_JOIN : Fld := ⟨0x0B1030, 0, 1⟩
abbrev MSH_CTL_LEAVE : Fld := ⟨0x0B1030, 1, 1⟩
abbrev MSH_CTL_REPORT : Fld := ⟨0x0B1030, 2, 1⟩
abbrev MSH_FOG_D0_D0 : Fld := ⟨0x0B1034, 0, 32⟩
abbrev MSH_FOG_D1_D1 : Fld := ⟨0x0B1038, 0, 32⟩
abbrev MSH_FOG_GO_GO : Fld := ⟨0x0B103C, 0, 1⟩
abbrev MSH_PROV_IDX_IDX : Fld := ⟨0x0B1040, 0, 11⟩
abbrev MSH_PROV_LONG_LONG : Fld := ⟨0x0B1044, 0, 32⟩
abbrev MSH_PROV_WRAP_WRAP (i : Nat) : Fld := ⟨0x0B1048 + 0x4 * i, 0, 32⟩
abbrev MSH_PROV_CTL_CMD : Fld := ⟨0x0B1060, 0, 2⟩
abbrev MSH_PROV_CTL_RES : Fld := ⟨0x0B1060, 4, 2⟩
abbrev MSH_PROV_CTL_STATE : Fld := ⟨0x0B1060, 8, 2⟩
abbrev MSH_PROV_CTL_SUPV : Fld := ⟨0x0B1060, 16, 16⟩
abbrev MSH_SCAN_CELL : Fld := ⟨0x0B1064, 0, 32⟩
abbrev MSH_SCAN_RSSI_RSSI : Fld := ⟨0x0B1068, 0, 8⟩
abbrev MEM_POLICY_BANK : Fld := ⟨0x0C0000, 0, 16⟩
abbrev MEM_POLICY_SLOTA : Fld := ⟨0x0C0000, 16, 1⟩
abbrev MEM_POLICY_SLOTB : Fld := ⟨0x0C0000, 17, 1⟩
abbrev MEM_EVT_CE : Fld := ⟨0x0C0004, 0, 1⟩
abbrev MEM_EVT_UE : Fld := ⟨0x0C0004, 1, 1⟩
abbrev MEM_EVT_CONSUMED : Fld := ⟨0x0C0004, 2, 1⟩
abbrev MEM_EVT_LOG_OVF : Fld := ⟨0x0C0004, 3, 1⟩
abbrev MEM_EVT_FLIP_DONE : Fld := ⟨0x0C0004, 4, 1⟩
abbrev MEM_ECC_CNT_CE : Fld := ⟨0x0C0008, 0, 16⟩
abbrev MEM_ECC_CNT_UE : Fld := ⟨0x0C0008, 16, 16⟩
abbrev MEM_LOG_CTL_NEXT : Fld := ⟨0x0C000C, 0, 5⟩
abbrev MEM_LOG_CTL_VALID : Fld := ⟨0x0C000C, 8, 6⟩
abbrev MEM_LOG_CTL_CLEAR : Fld := ⟨0x0C000C, 16, 1⟩
abbrev MEM_FLIP_CTL_REGION : Fld := ⟨0x0C0010, 0, 5⟩
abbrev MEM_FLIP_CTL_ARM : Fld := ⟨0x0C0010, 5, 1⟩
abbrev MEM_FLIP_CTL_DISARM : Fld := ⟨0x0C0010, 6, 1⟩
abbrev MEM_FLIP_CTL_ADDR : Fld := ⟨0x0C0010, 8, 24⟩
abbrev MEM_FLIP_MASK (i : Nat) : Fld := ⟨0x0C0014 + 0x4 * i, 0, 32⟩
abbrev MEM_SCR_READ_COUNT : Fld := ⟨0x0C0030, 0, 32⟩
abbrev MEM_SCR_CORR_COUNT : Fld := ⟨0x0C0034, 0, 32⟩
abbrev MEM_SCR_WB_COUNT : Fld := ⟨0x0C0038, 0, 32⟩
abbrev MEM_SCR_UE_COUNT : Fld := ⟨0x0C003C, 0, 32⟩
abbrev MEM_SCR_FIRST_ADDR : Fld := ⟨0x0C0040, 0, 24⟩
abbrev MEM_SCR_LAST_ADDR : Fld := ⟨0x0C0044, 0, 24⟩
abbrev MEM_RETIRE_BANK : Fld := ⟨0x0C0050, 0, 4⟩
abbrev MEM_RETIRE_ROW : Fld := ⟨0x0C0050, 4, 5⟩
abbrev MEM_RETIRE_GO : Fld := ⟨0x0C0050, 16, 1⟩
abbrev MEM_RETIRE_NVGO : Fld := ⟨0x0C0050, 17, 1⟩
abbrev MEM_RETIRE_PAGE : Fld := ⟨0x0C0050, 23, 9⟩
abbrev MEM_RETIRE_ST_ROWST : Fld := ⟨0x0C0054, 0, 2⟩
abbrev MEM_RETIRE_ST_PAGEST : Fld := ⟨0x0C0054, 2, 2⟩
abbrev MEM_RETIRE_ST_NVFREE : Fld := ⟨0x0C0054, 8, 7⟩
abbrev MEM_LOG_ADDR_ADDR (i : Nat) : Fld := ⟨0x0C0100 + 0x10 * i, 0, 24⟩
abbrev MEM_LOG_ADDR_COUNT (i : Nat) : Fld := ⟨0x0C0100 + 0x10 * i, 24, 8⟩
abbrev MEM_LOG_INFO_CLASS (i : Nat) : Fld := ⟨0x0C0104 + 0x10 * i, 0, 3⟩
abbrev MEM_LOG_INFO_POL (i : Nat) : Fld := ⟨0x0C0104 + 0x10 * i, 3, 1⟩
abbrev MEM_LOG_INFO_SRC (i : Nat) : Fld := ⟨0x0C0104 + 0x10 * i, 4, 3⟩
abbrev MEM_LOG_INFO_SYM0 (i : Nat) : Fld := ⟨0x0C0104 + 0x10 * i, 16, 5⟩
abbrev MEM_LOG_INFO_SYM1 (i : Nat) : Fld := ⟨0x0C0104 + 0x10 * i, 24, 5⟩
abbrev MEM_LOG_ROT_ROT (i : Nat) : Fld := ⟨0x0C0108 + 0x10 * i, 0, 32⟩
abbrev MEM_NVLIST_PAGE (i : Nat) : Fld := ⟨0x0C0400 + 0x4 * i, 0, 9⟩
abbrev MEM_NVLIST_VALID (i : Nat) : Fld := ⟨0x0C0400 + 0x4 * i, 15, 1⟩
abbrev PWR_REST_OFF : Fld := ⟨0x0D0008, 0, 27⟩
abbrev PWR_HOLD_HOLD : Fld := ⟨0x0D000C, 0, 27⟩
abbrev PWR_SLEEPSET_MASK : Fld := ⟨0x0D0010, 0, 27⟩
abbrev PWR_SLEEPSET_TARGET : Fld := ⟨0x0D0010, 27, 1⟩
abbrev PWR_SLEEPSET_GO : Fld := ⟨0x0D0010, 28, 1⟩
abbrev PWR_SLEEP_ST_STATE : Fld := ⟨0x0D0014, 0, 2⟩
abbrev PWR_SLEEP_ST_STATUS : Fld := ⟨0x0D0014, 8, 8⟩
abbrev PWR_SLEEP_ST_DOMAIN : Fld := ⟨0x0D0014, 16, 5⟩
abbrev PWR_SLEEP_ST_REASON : Fld := ⟨0x0D0014, 21, 3⟩
abbrev PWR_SLEEP_COST_US : Fld := ⟨0x0D0018, 0, 16⟩
abbrev PWR_WAKE_TRACE_DOMAIN : Fld := ⟨0x0D001C, 0, 5⟩
abbrev PWR_WAKE_TRACE_ABORT : Fld := ⟨0x0D001C, 5, 3⟩
abbrev PWR_WAKE_TRACE_REG : Fld := ⟨0x0D001C, 8, 1⟩
abbrev PWR_WAKE_TRACE_OSC : Fld := ⟨0x0D001C, 9, 1⟩
abbrev PWR_WAKE_TRACE_LOST : Fld := ⟨0x0D001C, 10, 1⟩
abbrev PWR_WAKE_TRACE_WAITED : Fld := ⟨0x0D001C, 11, 1⟩
abbrev PWR_WAKE_TRACE_ATTEMPTS : Fld := ⟨0x0D001C, 12, 3⟩
abbrev PWR_WAKE_T0_REG : Fld := ⟨0x0D0020, 0, 10⟩
abbrev PWR_WAKE_T0_OSC : Fld := ⟨0x0D0020, 16, 10⟩
abbrev PWR_WAKE_T1_MEM : Fld := ⟨0x0D0024, 0, 10⟩
abbrev PWR_WAKE_T1_LOGIC : Fld := ⟨0x0D0024, 16, 10⟩
abbrev PWR_RETLOST_BANK : Fld := ⟨0x0D0028, 0, 16⟩
abbrev PWR_RETLOST_CAPT : Fld := ⟨0x0D0028, 16, 1⟩
abbrev PWR_VCORE_RUN : Fld := ⟨0x0D002C, 0, 8⟩
abbrev PWR_VCORE_REST : Fld := ⟨0x0D002C, 8, 8⟩
abbrev PWR_VCORE_ACT : Fld := ⟨0x0D002C, 16, 8⟩
abbrev PWR_SLINK_CFG_VDRV_SETTLE : Fld := ⟨0x0D0030, 0, 8⟩
abbrev PWR_SLINK_ST_SEQ : Fld := ⟨0x0D0034, 0, 4⟩
abbrev PWR_SLINK_ST_BUSY : Fld := ⟨0x0D0034, 4, 1⟩
abbrev PWR_SLINK_ST_ATTEMPTS : Fld := ⟨0x0D0034, 5, 3⟩
abbrev PWR_SLINK_ST_CMD : Fld := ⟨0x0D0034, 8, 4⟩
abbrev PWR_SLINK_ST_UPPER : Fld := ⟨0x0D0034, 12, 4⟩
abbrev PWR_SLINK_ST_LOWER : Fld := ⟨0x0D0034, 16, 4⟩
abbrev PWR_SLINK_CNT_RETRY : Fld := ⟨0x0D0038, 0, 16⟩
abbrev PWR_SLINK_CNT_FAIL : Fld := ⟨0x0D0038, 16, 16⟩
abbrev PWR_PFW_LEVEL : Fld := ⟨0x0D003C, 0, 9⟩
abbrev PWR_PFW_LATCHED : Fld := ⟨0x0D003C, 9, 1⟩
abbrev PWR_VBAT_LOADED : Fld := ⟨0x0D0040, 0, 13⟩
abbrev PWR_VBAT_LOW : Fld := ⟨0x0D0040, 16, 13⟩
abbrev PWR_EVT_PFW : Fld := ⟨0x0D0044, 0, 1⟩
abbrev PWR_EVT_RECOVERED : Fld := ⟨0x0D0044, 1, 1⟩
abbrev PWR_EVT_RETRY : Fld := ⟨0x0D0044, 2, 1⟩
abbrev PWR_EVT_VBAT_LOW : Fld := ⟨0x0D0044, 3, 1⟩
abbrev RTC_SUBSEC_SUBSEC : Fld := ⟨0x0E0000, 0, 15⟩
abbrev RTC_SEC_VAL : Fld := ⟨0x0E0004, 0, 8⟩
abbrev RTC_MIN_VAL : Fld := ⟨0x0E0008, 0, 8⟩
abbrev RTC_HOUR_VAL : Fld := ⟨0x0E000C, 0, 8⟩
abbrev RTC_DAY_VAL : Fld := ⟨0x0E0010, 0, 8⟩
abbrev RTC_MONTH_VAL : Fld := ⟨0x0E0014, 0, 8⟩
abbrev RTC_CENT_VAL : Fld := ⟨0x0E0018, 0, 8⟩
abbrev RTC_WDAY_VAL : Fld := ⟨0x0E001C, 0, 8⟩
abbrev RTC_YEAR_VAL : Fld := ⟨0x0E0020, 0, 8⟩
abbrev RTC_UNFREEZE_GO : Fld := ⟨0x0E0024, 0, 1⟩
abbrev RTC_COMMIT_GO : Fld := ⟨0x0E0028, 0, 1⟩
abbrev RTC_COMMIT_DISCARD : Fld := ⟨0x0E0028, 1, 1⟩
abbrev RTC_PEND_PEND : Fld := ⟨0x0E002C, 0, 8⟩
abbrev RTC_STATUS_FROZEN : Fld := ⟨0x0E0030, 0, 1⟩
abbrev RTC_STATUS_FREEZE_TO : Fld := ⟨0x0E0030, 1, 1⟩
abbrev RTC_STATUS_VALID : Fld := ⟨0x0E0030, 2, 1⟩
abbrev RTC_STATUS_BADSET : Fld := ⟨0x0E0030, 3, 1⟩
abbrev RTC_STATUS_COEF_BAD : Fld := ⟨0x0E0030, 4, 1⟩
abbrev RTC_STATUS_WRAPPED : Fld := ⟨0x0E0030, 5, 1⟩
abbrev RTC_CORR_C : Fld := ⟨0x0E0034, 0, 32⟩
abbrev RTC_TRIM_TRIM : Fld := ⟨0x0E0038, 0, 32⟩
abbrev RTC_TEMP_T : Fld := ⟨0x0E003C, 0, 16⟩
abbrev RTC_ALM_T_SEC (i : Nat) : Fld := ⟨0x0E0040 + 0x10 * i, 0, 7⟩
abbrev RTC_ALM_T_MIN (i : Nat) : Fld := ⟨0x0E0040 + 0x10 * i, 8, 7⟩
abbrev RTC_ALM_T_HOUR (i : Nat) : Fld := ⟨0x0E0040 + 0x10 * i, 16, 6⟩
abbrev RTC_ALM_D_DAY (i : Nat) : Fld := ⟨0x0E0044 + 0x10 * i, 0, 6⟩
abbrev RTC_ALM_D_MONTH (i : Nat) : Fld := ⟨0x0E0044 + 0x10 * i, 8, 5⟩
abbrev RTC_ALM_D_WDAY (i : Nat) : Fld := ⟨0x0E0044 + 0x10 * i, 16, 3⟩
abbrev RTC_ALM_CFG_EN (i : Nat) : Fld := ⟨0x0E0048 + 0x10 * i, 0, 1⟩
abbrev RTC_ALM_CFG_MSEC (i : Nat) : Fld := ⟨0x0E0048 + 0x10 * i, 1, 1⟩
abbrev RTC_ALM_CFG_MMIN (i : Nat) : Fld := ⟨0x0E0048 + 0x10 * i, 2, 1⟩
abbrev RTC_ALM_CFG_MHOUR (i : Nat) : Fld := ⟨0x0E0048 + 0x10 * i, 3, 1⟩
abbrev RTC_ALM_CFG_MDAY (i : Nat) : Fld := ⟨0x0E0048 + 0x10 * i, 4, 1⟩
abbrev RTC_ALM_CFG_MMONTH (i : Nat) : Fld := ⟨0x0E0048 + 0x10 * i, 5, 1⟩
abbrev RTC_ALM_CFG_MWDAY (i : Nat) : Fld := ⟨0x0E0048 + 0x10 * i, 6, 1⟩
abbrev RTC_ALM_EVT_FIRED : Fld := ⟨0x0E0060, 0, 2⟩
abbrev RTC_ALM_EVT_SKIPPED : Fld := ⟨0x0E0060, 8, 2⟩
abbrev RTC_COEF_IDX_IDX : Fld := ⟨0x0E0064, 0, 8⟩
abbrev RTC_COEF_VAL_VAL : Fld := ⟨0x0E0068, 0, 32⟩
abbrev UPD_LIFE_STATE : Fld := ⟨0x0F0000, 0, 3⟩
abbrev UPD_LIFE_DEBUG : Fld := ⟨0x0F0000, 3, 1⟩
abbrev UPD_LIFE_ARMED : Fld := ⟨0x0F0000, 4, 3⟩
abbrev UPD_LIFE_REQ_ST : Fld := ⟨0x0F0000, 8, 2⟩
abbrev UPD_LIFE_REASON : Fld := ⟨0x0F0000, 12, 4⟩
abbrev UPD_LIFE_REQ_TARGET : Fld := ⟨0x0F0004, 0, 3⟩
abbrev UPD_LIFE_REQ_CHECK : Fld := ⟨0x0F0004, 8, 8⟩
abbrev UPD_LIFE_REQ_CODE : Fld := ⟨0x0F0004, 16, 16⟩
abbrev UPD_STATUS_STATE : Fld := ⟨0x0F0008, 0, 3⟩
abbrev UPD_STATUS_SLOT : Fld := ⟨0x0F0008, 3, 1⟩
abbrev UPD_STATUS_LAST : Fld := ⟨0x0F0008, 4, 3⟩
abbrev UPD_STATUS_ERROR : Fld := ⟨0x0F0008, 8, 4⟩
abbrev UPD_STATUS_ERR_COMP : Fld := ⟨0x0F0008, 12, 3⟩
abbrev UPD_STATUS_BOOT_FAIL : Fld := ⟨0x0F0008, 15, 1⟩
abbrev UPD_STATUS_STI_ERR : Fld := ⟨0x0F0008, 16, 5⟩
abbrev UPD_CTL_BEGIN : Fld := ⟨0x0F000C, 0, 1⟩
abbrev UPD_CTL_VERIFY : Fld := ⟨0x0F000C, 1, 1⟩
abbrev UPD_CTL_ACTIVATE : Fld := ⟨0x0F000C, 2, 1⟩
abbrev UPD_CTL_ABORT : Fld := ⟨0x0F000C, 3, 1⟩
abbrev UPD_CONFIRM_GO : Fld := ⟨0x0F0010, 0, 1⟩
abbrev UPD_WINDOW_SEC : Fld := ⟨0x0F0014, 0, 17⟩
abbrev UPD_TRIAL_LEFT_SEC : Fld := ⟨0x0F0018, 0, 17⟩
abbrev UPD_SELFTEST_PASS : Fld := ⟨0x0F001C, 0, 6⟩
abbrev UPD_SELFTEST_FAIL : Fld := ⟨0x0F001C, 8, 6⟩
abbrev UPD_EVT_CONFIRMED : Fld := ⟨0x0F0020, 0, 1⟩
abbrev UPD_EVT_REVERTED : Fld := ⟨0x0F0020, 1, 1⟩
abbrev UPD_EVT_VERIFY_DONE : Fld := ⟨0x0F0020, 2, 1⟩
abbrev UPD_EVT_PROG_FAIL : Fld := ⟨0x0F0020, 3, 1⟩
abbrev UPD_EVT_ABORTED : Fld := ⟨0x0F0020, 4, 1⟩
abbrev UPD_EVT_TRNG_FAIL : Fld := ⟨0x0F0020, 5, 1⟩
abbrev UPD_EVT_LIFE_DROPPED : Fld := ⟨0x0F0020, 6, 1⟩
abbrev UPD_LEGAL_VER_VER : Fld := ⟨0x0F0024, 0, 32⟩
abbrev UPD_COMP_VER_VER (i : Nat) : Fld := ⟨0x0F0040 + 0x4 * i, 0, 32⟩
abbrev UPD_CNT_CNT (i : Nat) : Fld := ⟨0x0F0060 + 0x4 * i, 0, 32⟩
abbrev UPD_LEGAL_SUM_SUM (i : Nat) : Fld := ⟨0x0F0080 + 0x4 * i, 0, 32⟩
abbrev UPD_MAP_MAP (i : Nat) : Fld := ⟨0x0F0100 + 0x4 * i, 0, 32⟩
abbrev UPD_MAP_CNT_COUNT : Fld := ⟨0x0F0200, 0, 12⟩
abbrev UPD_KEY_SEL_SLOT : Fld := ⟨0x0F0300, 0, 3⟩
abbrev UPD_KEY_D_DATA (i : Nat) : Fld := ⟨0x0F0304 + 0x4 * i, 0, 32⟩
abbrev UPD_KEY_CTL_GO : Fld := ⟨0x0F0324, 0, 1⟩
abbrev UPD_KEY_ST_PRESENT : Fld := ⟨0x0F0328, 0, 6⟩
abbrev UPD_KEY_ST_RES : Fld := ⟨0x0F0328, 8, 2⟩
abbrev UPD_KEY_KCV_KCV (i : Nat) : Fld := ⟨0x0F0340 + 0x4 * i, 0, 32⟩
abbrev UPD_RET_SEQ_SEQ : Fld := ⟨0x0F0400, 0, 32⟩
abbrev UPD_RET_DIG_DIG (i : Nat) : Fld := ⟨0x0F0404 + 0x4 * i, 0, 32⟩
abbrev UPD_TRNG_RND : Fld := ⟨0x0F0500, 0, 32⟩
end F

end Sys2Proof.Machine
end

