-- ==== Sys2Proof/Machine/Image.lean ====
section
/-! DEFINITION. The structure image (R81 to R84): its bytes cut into sections, and its sections read into fields. -/

namespace Sys2Proof.Machine

/-- A section of the image (R83): its type, the byte offset at which it stands and its value. -/
structure Sect where
  type : Nat
  off : Nat
  val : List Byte
  deriving DecidableEq, Repr

/-- An entry of CHORDS (R84). -/
structure ChordCfg where
  chord : Nat
  portA : Nat
  portB : Nat
  path : Nat
  codeA : Nat
  codeB : Nat
  geom : Nat
  burst : Nat
  freq : Nat
  decim : Nat
  ret : Nat
  host : Nat
  deriving DecidableEq, Repr

/-- A sub-band of RADIO (R84). -/
structure SubBand where
  low : Nat
  high : Nat
  limit : Nat
  lbt : Nat
  deriving DecidableEq, Repr

/-- The RADIO section. -/
structure RadioCfg where
  role : Nat
  phy : Nat
  opts : Nat
  band : Nat
  txPwr : Int
  fogPwr : Int
  fogShare : Nat
  subs : List SubBand
  deriving DecidableEq, Repr

/-- The LIGHTLINE section. -/
structure LightCfg where
  f : Nat
  n : Nat
  hop : Nat
  start : Nat
  cell : Nat
  maxAssoc : Nat
  superv : Nat
  map : List Nat
  deriving DecidableEq, Repr

/-- An entry of TARIFF. -/
structure TariffEntry where
  months : Nat
  wdays : Nat
  fromHour : Nat
  toHour : Nat
  bin : Nat
  deriving DecidableEq, Repr

/-- The image read into fields. -/
structure Image where
  id : Nat := 0
  ver : Nat := 0
  crc : Nat := 0
  mcrc : Nat := 0
  len : Nat := 0
  k : Nat := 4
  ceiling : Nat := 0
  facets : List Nat := []
  ringBank : Nat := 2
  ringBanks : Nat := 1
  ringRots : Nat := 1
  keeperBank : Nat := 0
  keeperBanks : Nat := 0
  retain : Nat := 3
  duty : Nat := 0
  radio : Option RadioCfg := none
  light : Option LightCfg := none
  tune : List (Nat × Nat) := []
  mtune : List (Nat × Nat) := []
  chords : List ChordCfg := []
  codes : List Nat := []
  codesAt : Nat := 0                      -- byte offset of the first chip word in the image
  sensTypes : List Nat := [0, 0, 0, 0]
  sensWires : List Nat := [0, 0, 0, 0]
  press : Nat := 0
  kind : Nat := 1
  flowPos : Nat := 0
  tariffSrc : Nat := 0
  gasZ : Nat := 0
  pulsSrc : List Nat := [0, 0]
  tariff : List TariffEntry := []
  deriving DecidableEq, Repr

/-- Cut the bytes from `off` up to `stop` into sections; none where a header or a value runs past the end (R83). -/
def cutSections (b : List Byte) (stop : Nat) : Nat → Nat → List Sect × Option Nat
  | 0, _ => ([], none)
  | fuel + 1, off =>
    if off = stop then ([], none)
    else if off + 4 > stop then ([], some off)
    else
      let len := leAt b (off + 2) 2
      let nxt := off + 4 + (len + 3) / 4 * 4
      if nxt > stop then ([], some off)
      else
        let rest := cutSections b stop fuel nxt
        (⟨leAt b off 2, off, sliceBytes b (off + 4) len⟩ :: rest.1, rest.2)

/-- The sections of an image of `len` bytes, and the offset of the first that does not fit, if one does not. -/
def sectionsOf (b : List Byte) (len : Nat) : List Sect × Option Nat :=
  cutSections b (len - 4) (len / 4 + 1) 32

/-- The section of a type. -/
def findSect (l : List Sect) (t : Nat) : Option Sect := l.find? (fun x => x.type == t)

/-- The value of a section of a type, empty where it is absent. -/
def sectVal (l : List Sect) (t : Nat) : List Byte :=
  match findSect l t with
  | some x => x.val
  | none => []

/-- Is this type metrological (R83)? -/
def metroType (t : Nat) : Bool := 0x0101 ≤ t && t ≤ 0x0107

/-- The complete bytes of a section: type, length, value and padding (R82). -/
def sectBytes (x : Sect) : List Byte :=
  let n := x.val.length
  leBytes 2 x.type ++ leBytes 2 n ++ x.val ++ List.replicate ((n + 3) / 4 * 4 - n) 0

/-- The complete bytes of every metrological section in image order (R82, R389). -/
def metroBytes (l : List Sect) : List Byte := ((l.filter fun x => metroType x.type).map sectBytes).flatten

/-- METRO_CRC as the device computes it (R82). -/
def metroCrc (l : List Sect) : Nat :=
  if (l.filter fun x => metroType x.type).isEmpty then 0 else crc32 (metroBytes l)

/-- Entry i of CHORDS. -/
def readChord (v : List Byte) (i : Nat) : ChordCfg :=
  let g := fun k n => leAt v (4 + 16 * i + k) n
  ⟨g 0 1, g 1 1, g 2 1, g 3 1, g 4 1, g 5 1, g 6 1, g 7 1, g 8 4, g 12 1, g 13 1, g 14 1⟩

/-- The RADIO section's fields. -/
def readRadio (v : List Byte) : RadioCfg :=
  { role := leAt v 0 1, phy := leAt v 1 1, opts := leAt v 2 1, band := leAt v 3 1,
    txPwr := signed 8 (leAt v 4 1), fogPwr := signed 8 (leAt v 5 1), fogShare := leAt v 7 1,
    subs := (List.range (leAt v 6 1)).map fun i =>
      ⟨leAt v (12 + 12 * i) 4, leAt v (16 + 12 * i) 4, leAt v (20 + 12 * i) 2, leAt v (22 + 12 * i) 1⟩ }

/-- The LIGHTLINE section's fields. -/
def readLight (v : List Byte) : LightCfg :=
  { f := leAt v 0 1, n := leAt v 1 1, hop := leAt v 2 1, start := leAt v 3 1, cell := leAt v 4 4,
    maxAssoc := leAt v 8 2, superv := leAt v 10 2,
    map := (List.range (leAt v 1 1)).map fun j => leAt v (16 + j) 1 }

/-- The entries of TUNE or MTUNE: address and value. -/
def readTune (v : List Byte) : List (Nat × Nat) :=
  (List.range (leAt v 0 2)).map fun p => (leAt v (4 + 8 * p) 4, leAt v (8 + 8 * p) 4)

/-- Entry e of TARIFF. -/
def readTariff (v : List Byte) (e : Nat) : TariffEntry :=
  ⟨leAt v (4 + 8 * e) 2, leAt v (6 + 8 * e) 1, leAt v (7 + 8 * e) 1, leAt v (8 + 8 * e) 1, leAt v (9 + 8 * e) 1⟩

/-- The whole image read into fields (R84). -/
def readImage (b : List Byte) : Image :=
  let len := leAt b 8 4
  let l := (sectionsOf b len).1
  let rot := sectVal l 0x0001
  let sch := sectVal l 0x0002
  let mem := sectVal l 0x0003
  let cho := sectVal l 0x0102
  let cod := sectVal l 0x0103
  let sen := sectVal l 0x0104
  let led := sectVal l 0x0105
  let tar := sectVal l 0x0106
  { id := leAt b 0x10 4, ver := leAt b 0x14 4, crc := leAt b (len - 4) 4, mcrc := metroCrc l, len := len,
    k := leAt rot 0 1, ceiling := leAt rot 1 1,
    facets := (List.range 64).map fun n => leAt sch (4 * n) 4,
    ringBank := leAt mem 0 1, ringBanks := leAt mem 1 1, ringRots := leAt mem 2 2,
    keeperBank := leAt mem 4 1, keeperBanks := leAt mem 5 1, retain := leAt mem 8 2,
    duty := leAt (sectVal l 0x0101) 0 4,
    radio := (findSect l 0x0004).map fun x => readRadio x.val,
    light := (findSect l 0x0005).map fun x => readLight x.val,
    tune := readTune (sectVal l 0x0006), mtune := readTune (sectVal l 0x0107),
    chords := (List.range (leAt cho 0 1)).map (readChord cho),
    codes := (List.range (leAt cod 0 1)).map fun j => leAt cod (4 + 2 * j) 2,
    codesAt := ((findSect l 0x0103).map fun x => x.off + 8).getD 0,
    sensTypes := (List.range 4).map fun t => leAt sen (2 * t) 1,
    sensWires := (List.range 4).map fun t => leAt sen (2 * t + 1) 1,
    press := leAt sen 8 1,
    kind := leAt led 0 1, flowPos := leAt led 1 1, tariffSrc := leAt led 2 1, gasZ := leAt led 3 1,
    pulsSrc := [leAt led 4 1, leAt led 5 1],
    tariff := (List.range (leAt tar 0 1)).map (readTariff tar) }

/-! Fields of a schedule word, in the layout of ROT_FACETn (R60). -/

def facetKind (w : Nat) : Nat := bitsOf w 0 4
def facetSpan (w : Nat) : Nat := bitsOf w 4 4 + 1
def facetArg (w : Nat) : Nat := bitsOf w 8 8
def facetEvery (w : Nat) : Nat := bitsOf w 16 6
def facetPhase (w : Nat) : Nat := bitsOf w 22 6

/-- Is an entry active in rotation n (R61)? -/
def facetActive (w n : Nat) : Bool := n % (facetEvery w + 1) == facetPhase w

end Sys2Proof.Machine
end

