-- ==== Sys2Proof/Machine/RegTable.lean ====
section
/-! DEFINITION. The register table: for every register of the spec its address, its reset value and the bits of each
access type of R19 (a bit in none of the masks is RO or reserved). One list per region of R16. -/

namespace Sys2Proof.Machine

/-- One register heading of the spec: `count` registers from `base`, `stride` apart; the reset value; the masks of the
writable bits by access type (R19), where `rw` also holds the bits of an RWP register, which `rwp` marks. -/
structure RegRow where
  base : Nat
  stride : Nat
  count : Nat
  reset : Nat
  rw : Nat := 0
  w1c : Nat := 0
  w1s : Nat := 0
  wo : Nat := 0
  rc : Nat := 0
  rwp : Bool := false
  deriving DecidableEq, Repr

/-- The SYS region, 0x00_0000 (R16). -/
def rowsSys : List RegRow :=
  [ { base := 0x000000, stride := 0, count := 1, reset := 0x0 },  -- SYS_ID
    { base := 0x000004, stride := 0, count := 1, reset := 0x0 },  -- SYS_CAPS
    { base := 0x000008, stride := 0, count := 1, reset := 0x0 },  -- SYS_DUTY
    { base := 0x000010, stride := 0, count := 1, reset := 0x0 },  -- SYS_EPOCH
    { base := 0x000014, stride := 0, count := 1, reset := 0x0, w1c := 0x3F0000 },  -- SYS_FAULT_CAUSE
    { base := 0x000020, stride := 0, count := 1, reset := 0x0, w1c := 0x7FFFF },  -- SYS_IRQ
    { base := 0x000024, stride := 0, count := 1, reset := 0x7FFFE, rw := 0x7FFFF },  -- SYS_IRQ_EN
    { base := 0x000040, stride := 0, count := 1, reset := 0xF00, rw := 0xFFF },  -- SYS_GPIO_FN
    { base := 0x000044, stride := 0, count := 1, reset := 0x0, rw := 0xF00 } ]  -- SYS_GPIO_IO

/-- The HIF region, 0x01_0000 (R16). -/
def rowsHif : List RegRow :=
  [ { base := 0x010000, stride := 0, count := 1, reset := 0x0, rw := 0x7 },  -- HIF_CFG
    { base := 0x010004, stride := 0, count := 1, reset := 0x0 },  -- HIF_STATUS
    { base := 0x010008, stride := 0, count := 1, reset := 0x0, rc := 0xFFFF },  -- HIF_OPFULL_CNT
    { base := 0x01000C, stride := 0, count := 1, reset := 0x0, rc := 0xFFFFFFFF },  -- HIF_CNT
    { base := 0x010010, stride := 0, count := 1, reset := 0x0, rc := 0xFFFF },  -- HIF_DUP_CNT
    { base := 0x010014, stride := 0, count := 1, reset := 0x0 } ]  -- HIF_OPMAP

/-- The ROT region, 0x02_0000 (R16). -/
def rowsRot : List RegRow :=
  [ { base := 0x020000, stride := 0, count := 1, reset := 0x4 },  -- ROT_CFG
    { base := 0x020004, stride := 0, count := 1, reset := 0x0 },  -- ROT_NUM
    { base := 0x020008, stride := 0, count := 1, reset := 0x0 },  -- ROT_NOW
    { base := 0x02000C, stride := 0, count := 1, reset := 0x0 },  -- ROT_MARK_RPT
    { base := 0x020010, stride := 0, count := 1, reset := 0x1DCD6500 },  -- ROT_LAST_DUR
    { base := 0x020014, stride := 0, count := 1, reset := 0x0, rw := 0x1FF },  -- ROT_IRQ_DIV
    { base := 0x020018, stride := 0, count := 1, reset := 0x0, rc := 0xFFFFFFFF },  -- ROT_TRIG_CNT
    { base := 0x02001C, stride := 0, count := 1, reset := 0x0, rc := 0xFFFF },  -- ROT_LATE_CNT
    { base := 0x020020, stride := 0, count := 1, reset := 0x0, rc := 0xFFFFFFFF },  -- ROT_PREEMPT_CNT
    { base := 0x020024, stride := 0, count := 1, reset := 0x0 },  -- ROT_FOG_LAT
    { base := 0x020028, stride := 0, count := 1, reset := 0x0, rc := 0xFFFF },  -- ROT_FOG_MAX
    { base := 0x02002C, stride := 0, count := 1, reset := 0x0 },  -- ROT_LAST_DUR_HI
    { base := 0x020100, stride := 4, count := 64, reset := 0x0 },  -- ROT_FACET
    { base := 0x020200, stride := 4, count := 64, reset := 0x0 } ]  -- ROT_FNEED

/-- The STI region, 0x03_0000 (R16). -/
def rowsSti : List RegRow :=
  [ { base := 0x030000, stride := 0, count := 1, reset := 0x0, w1c := 0x20 },  -- STI_STATUS
    { base := 0x030004, stride := 0, count := 1, reset := 0x0 },  -- STI_ERR_AT
    { base := 0x030008, stride := 0, count := 1, reset := 0x0 },  -- STI_ARM_ROT
    { base := 0x03000C, stride := 0, count := 1, reset := 0x0 },  -- STI_ACTIVE_ID
    { base := 0x030010, stride := 0, count := 1, reset := 0x0 },  -- STI_ACTIVE_VER
    { base := 0x030014, stride := 0, count := 1, reset := 0x0 },  -- STI_ACTIVE_CRC
    { base := 0x030018, stride := 0, count := 1, reset := 0x0 },  -- STI_ACTIVE_MCRC
    { base := 0x03001C, stride := 0, count := 1, reset := 0x0 },  -- STI_ACTIVE_LEN
    { base := 0x030020, stride := 0, count := 1, reset := 0x0, rc := 0xFFFFFFFF } ]  -- STI_LOADS

/-- The AFE region, 0x04_0000 (R16). -/
def rowsAfe : List RegRow :=
  [ { base := 0x040000, stride := 0, count := 1, reset := 0x0, rw := 0xFF, rwp := true },  -- AFE_VDRV
    { base := 0x040004, stride := 0, count := 1, reset := 0x40, rw := 0xF7, rwp := true },  -- AFE_BURST
    { base := 0x040008, stride := 0, count := 1, reset := 0x4E200032, rw := 0xFFFFFFFF, rwp := true },  -- AFE_CENSUS_CFG
    { base := 0x040100, stride := 16, count := 8, reset := 0xA, rw := 0xFF, rwp := true },  -- AFE_TX
    { base := 0x040104, stride := 16, count := 8, reset := 0x57800A8, rw := 0xFF7F7FFF, rwp := true },  -- AFE_RX
    { base := 0x040108, stride := 16, count := 8, reset := 0x3E80000, rw := 0x3FFF3FFF, rwp := true },  -- AFE_WIN
    { base := 0x04010C, stride := 16, count := 8, reset := 0x3E8032, rw := 0x3FFFFFF, rwp := true },  -- AFE_WIN2
    { base := 0x0407FC, stride := 0, count := 1, reset := 0x0, w1s := 0x1, wo := 0x2 },  -- AFE_COMMIT
    { base := 0x041000, stride := 0, count := 1, reset := 0x0, w1c := 0x6 },  -- AFE_STATUS
    { base := 0x041004, stride := 0, count := 1, reset := 0x0 },  -- AFE_SLOT_MAP
    { base := 0x041008, stride := 0, count := 1, reset := 0x0, wo := 0xFFFF },  -- AFE_SLOT_REL
    { base := 0x04100C, stride := 0, count := 1, reset := 0x0, rc := 0xFFFF },  -- AFE_OVR_CNT
    { base := 0x041100, stride := 4, count := 16, reset := 0x0 },  -- AFE_CENSUS
    { base := 0x041200, stride := 4, count := 8, reset := 0x0, rw := 0x3FFF },  -- AFE_TEXP
    { base := 0x041220, stride := 4, count := 8, reset := 0x0 },  -- AFE_GAIN
    { base := 0x041240, stride := 4, count := 8, reset := 0x0 },  -- AFE_SPAN
    { base := 0x041260, stride := 4, count := 8, reset := 0x0 },  -- AFE_FW
    { base := 0x041400, stride := 32, count := 16, reset := 0x0 },  -- AFE_SLOT_CTL
    { base := 0x041404, stride := 32, count := 16, reset := 0x0 },  -- AFE_SLOT_ROT
    { base := 0x041408, stride := 32, count := 16, reset := 0x0 },  -- AFE_SLOT_WIN
    { base := 0x04140C, stride := 32, count := 16, reset := 0x0 },  -- AFE_SLOT_RXA
    { base := 0x041410, stride := 32, count := 16, reset := 0x0 } ]  -- AFE_SLOT_RXB

/-- The TIU region, 0x05_0000 (R16). -/
def rowsTiu : List RegRow :=
  [ { base := 0x050000, stride := 0, count := 1, reset := 0x0, w1c := 0x2 },  -- TIU_STATUS
    { base := 0x050004, stride := 0, count := 1, reset := 0x0, rc := 0xFFFF },  -- TIU_UNLOCK_CNT
    { base := 0x050008, stride := 0, count := 1, reset := 0x0, w1c := 0x3F3F },  -- TIU_OVF_SRC
    { base := 0x050010, stride := 0, count := 1, reset := 0x0 },  -- TIU_HOURS
    { base := 0x050014, stride := 0, count := 1, reset := 0x0 },  -- TIU_AGE_A
    { base := 0x050018, stride := 0, count := 1, reset := 0x0 },  -- TIU_AGE_B
    { base := 0x05001C, stride := 0, count := 1, reset := 0x0 },  -- TIU_AGE_PPB
    { base := 0x050020, stride := 0, count := 1, reset := 0x40000000 },  -- TIU_SCALE
    { base := 0x050040, stride := 4, count := 16, reset := 0x0, rc := 0xFFFFFFFF },  -- TIU_STRM
    { base := 0x050100, stride := 32, count := 6, reset := 0x0, rw := 0xFFFFFFFF },  -- TIU_EV_CFG
    { base := 0x050104, stride := 32, count := 6, reset := 0x0, wo := 0x3 },  -- TIU_EV_ARM
    { base := 0x050108, stride := 32, count := 6, reset := 0x0 },  -- TIU_EV_FLG
    { base := 0x05010C, stride := 32, count := 6, reset := 0x0, rc := 0xFFFFFFFF },  -- TIU_EV_VAL
    { base := 0x050110, stride := 32, count := 6, reset := 0x0, rc := 0xFFFFFFFF },  -- TIU_EV_DROP
    { base := 0x050400, stride := 32, count := 22, reset := 0x0, rw := 0xFFFF0003, wo := 0xC },  -- TIU_ST_CFG
    { base := 0x050404, stride := 32, count := 22, reset := 0x0 },  -- TIU_ST_COUNT
    { base := 0x050408, stride := 32, count := 22, reset := 0x0 },  -- TIU_ST_MEAN_LO
    { base := 0x05040C, stride := 32, count := 22, reset := 0x0 },  -- TIU_ST_MEAN_HI
    { base := 0x050410, stride := 32, count := 22, reset := 0x0 },  -- TIU_ST_SDEV
    { base := 0x050414, stride := 32, count := 22, reset := 0x0 },  -- TIU_ST_MIN
    { base := 0x050418, stride := 32, count := 22, reset := 0x0 } ]  -- TIU_ST_MAX

/-- The ECH region, 0x06_0000 (R16). -/
def rowsEch : List RegRow :=
  [ { base := 0x060000, stride := 0, count := 1, reset := 0x90404060, rw := 0xFFFFFFFF, rwp := true },  -- ECH_CFG
    { base := 0x060004, stride := 0, count := 1, reset := 0x6400803, rw := 0xF7FFFFF, rwp := true },  -- ECH_CFG2
    { base := 0x060008, stride := 0, count := 1, reset := 0x10083C3C, rw := 0xFFFFFFFF, rwp := true },  -- ECH_AMP
    { base := 0x06000C, stride := 0, count := 1, reset := 0x68FB0, rw := 0xFFFFFFFF, rwp := true },  -- ECH_GAS_C0
    { base := 0x060100, stride := 16, count := 8, reset := 0x1, rw := 0x1, rwp := true },  -- ECH_CH
    { base := 0x060104, stride := 16, count := 8, reset := 0x0, rw := 0xFFFFFFFF, rwp := true },  -- ECH_PICK
    { base := 0x060200, stride := 8, count := 16, reset := 0x0, rw := 0xFFFFFFFF, rwp := true },  -- ECH_PTX
    { base := 0x060204, stride := 8, count := 16, reset := 0x0, rw := 0xFFFFFFFF, rwp := true },  -- ECH_PRX
    { base := 0x0607FC, stride := 0, count := 1, reset := 0x0, w1s := 0x1, wo := 0x2 },  -- ECH_COMMIT
    { base := 0x061000, stride := 0, count := 1, reset := 0x0, w1c := 0x6 },  -- ECH_STATUS
    { base := 0x061004, stride := 0, count := 1, reset := 0x0, w1c := 0xFFFFFFFF },  -- ECH_EVT
    { base := 0x061008, stride := 0, count := 1, reset := 0x0, w1c := 0xFFFF },  -- ECH_SLIP_SRC
    { base := 0x06100C, stride := 0, count := 1, reset := 0x0 },  -- ECH_RING
    { base := 0x061010, stride := 0, count := 1, reset := 0x0 },  -- ECH_RING_BASE
    { base := 0x061014, stride := 0, count := 1, reset := 0x0 },  -- ECH_RING_LEN
    { base := 0x061018, stride := 0, count := 1, reset := 0x0 },  -- ECH_LAST_ROT
    { base := 0x06101C, stride := 0, count := 1, reset := 0x0, wo := 0xFFFF },  -- ECH_CTL
    { base := 0x061020, stride := 0, count := 1, reset := 0x0, wo := 0x3 },  -- ECH_HOSTEVT
    { base := 0x061024, stride := 0, count := 1, reset := 0x0, rw := 0x7F },  -- ECH_GDLY_IDX
    { base := 0x061028, stride := 0, count := 1, reset := 0x0 },  -- ECH_GDLY_VAL
    { base := 0x061100, stride := 8, count := 8, reset := 0x0 },  -- ECH_CHST
    { base := 0x061104, stride := 8, count := 8, reset := 0x80008000 } ]  -- ECH_AVG

/-- The FLW region, 0x07_0000 (R16). -/
def rowsFlw : List RegRow :=
  [ { base := 0x070000, stride := 0, count := 1, reset := 0x40010208, rw := 0xFF07FFFF, rwp := true },  -- FLW_SUB
    { base := 0x070004, stride := 0, count := 1, reset := 0x1388, rw := 0xFFFFFF, rwp := true },  -- FLW_RVMIN
    { base := 0x070008, stride := 0, count := 1, reset := 0x1F4, rw := 0xFFFFFF, rwp := true },  -- FLW_CUT
    { base := 0x07000C, stride := 0, count := 1, reset := 0x0, rw := 0x3, rwp := true },  -- FLW_H2_CFG
    { base := 0x070010, stride := 0, count := 1, reset := 0x68FB0, rw := 0xFFFFFFFF, rwp := true },  -- FLW_H2_C0
    { base := 0x070014, stride := 0, count := 1, reset := 0x43F8, rw := 0xFFFFFFFF, rwp := true },  -- FLW_H2_MNG
    { base := 0x070018, stride := 0, count := 1, reset := 0x0, rw := 0xFFFFFFFF, rwp := true },  -- FLW_H2_PK
    { base := 0x07001C, stride := 0, count := 1, reset := 0x31C9, rw := 0xFFFFFFFF, rwp := true },  -- FLW_H2_CVH
    { base := 0x070020, stride := 0, count := 1, reset := 0xC65D40, rw := 0xFFFFFFFF, rwp := true },  -- FLW_GAS_NU0
    { base := 0x070100, stride := 4, count := 8, reset := 0x0, rw := 0xFFFFFFFF, rwp := true },  -- FLW_ZERO
    { base := 0x0707FC, stride := 0, count := 1, reset := 0x0, w1s := 0x1, wo := 0x2 },  -- FLW_COMMIT
    { base := 0x071000, stride := 0, count := 1, reset := 0x2 },  -- FLW_STATUS
    { base := 0x071004, stride := 0, count := 1, reset := 0x0 },  -- FLW_ROT
    { base := 0x071008, stride := 0, count := 1, reset := 0x0 },  -- FLW_Q_LO
    { base := 0x07100C, stride := 0, count := 1, reset := 0x0 },  -- FLW_Q_HI
    { base := 0x071010, stride := 0, count := 1, reset := 0x0 },  -- FLW_VM
    { base := 0x071014, stride := 0, count := 1, reset := 0x0 },  -- FLW_RE
    { base := 0x071018, stride := 0, count := 1, reset := 0x0 },  -- FLW_K
    { base := 0x07101C, stride := 0, count := 1, reset := 0x0 },  -- FLW_SOS
    { base := 0x071020, stride := 0, count := 1, reset := 0x0 },  -- FLW_H2
    { base := 0x071024, stride := 0, count := 1, reset := 0x0, w1c := 0xFFFFFF },  -- FLW_EVT
    { base := 0x071028, stride := 0, count := 1, reset := 0x0, wo := 0xFFFF },  -- FLW_CTL
    { base := 0x07102C, stride := 0, count := 1, reset := 0x0, rc := 0xFFFF },  -- FLW_SHOT_CNT
    { base := 0x071030, stride := 0, count := 1, reset := 0x0 },  -- FLW_QSTART
    { base := 0x071034, stride := 0, count := 1, reset := 0x0, rw := 0xFF },  -- FLW_COEF_IDX
    { base := 0x071038, stride := 0, count := 1, reset := 0x0 },  -- FLW_COEF_VAL
    { base := 0x071100, stride := 8, count := 8, reset := 0x0 },  -- FLW_CHST
    { base := 0x071104, stride := 8, count := 8, reset := 0x0 } ]  -- FLW_RATIO

/-- The TMU region, 0x08_0000 (R16). -/
def rowsTmu : List RegRow :=
  [ { base := 0x080000, stride := 0, count := 1, reset := 0xFA140, rw := 0x1FF7F7, rwp := true },  -- TMU_CFG
    { base := 0x080004, stride := 0, count := 1, reset := 0x3B9ACA00, rw := 0xFFFFFFFF, rwp := true },  -- TMU_RREF
    { base := 0x080008, stride := 0, count := 1, reset := 0x149A, rw := 0xFFFF, rwp := true },  -- TMU_LIMIT
    { base := 0x080010, stride := 4, count := 4, reset := 0x0, rw := 0xFFFF, rwp := true },  -- TMU_LEAD
    { base := 0x0807FC, stride := 0, count := 1, reset := 0x0, w1s := 0x1, wo := 0x2 },  -- TMU_COMMIT
    { base := 0x081000, stride := 0, count := 1, reset := 0x0, w1c := 0x2 },  -- TMU_STATUS
    { base := 0x081004, stride := 0, count := 1, reset := 0x0, w1c := 0x1F1F },  -- TMU_EVT
    { base := 0x081008, stride := 0, count := 1, reset := 0x0 },  -- TMU_STATE
    { base := 0x08100C, stride := 0, count := 1, reset := 0x0 },  -- TMU_VALID
    { base := 0x081010, stride := 4, count := 4, reset := 0x0 },  -- TMU_T
    { base := 0x081020, stride := 4, count := 4, reset := 0x0 },  -- TMU_R
    { base := 0x081030, stride := 0, count := 1, reset := 0x0 },  -- TMU_DT
    { base := 0x081034, stride := 0, count := 1, reset := 0x0 },  -- TMU_DT_AT
    { base := 0x081038, stride := 0, count := 1, reset := 0x0 },  -- TMU_P
    { base := 0x08103C, stride := 0, count := 1, reset := 0x0 },  -- TMU_U
    { base := 0x081040, stride := 0, count := 1, reset := 0x0 },  -- TMU_ROT
    { base := 0x081044, stride := 0, count := 1, reset := 0x0, rc := 0xFFFFFFFF },  -- TMU_CNT
    { base := 0x081048, stride := 0, count := 1, reset := 0x0 },  -- TMU_TRIM
    { base := 0x08104C, stride := 0, count := 1, reset := 0x0, rw := 0xFF },  -- TMU_COEF_IDX
    { base := 0x081050, stride := 0, count := 1, reset := 0x0 } ]  -- TMU_COEF_VAL

/-- The LDG region, 0x09_0000 (R16). -/
def rowsLdg : List RegRow :=
  [ { base := 0x090000, stride := 0, count := 1, reset := 0x2, rw := 0xFFFF0003, rwp := true },  -- LDG_HC
    { base := 0x090004, stride := 0, count := 1, reset := 0x3C, rw := 0xFFF, rwp := true },  -- LDG_COMMIT_INT
    { base := 0x090010, stride := 8, count := 2, reset := 0x14, rw := 0x1FF, rwp := true },  -- LDG_PULSE_CFG
    { base := 0x090014, stride := 8, count := 2, reset := 0x3B9ACA00, rw := 0xFFFFFFFF, rwp := true },  -- LDG_PULSE_WT
    { base := 0x090020, stride := 0, count := 1, reset := 0x9A9C14, rw := 0xFFFFFFFF, rwp := true },  -- LDG_GAS_PB
    { base := 0x090024, stride := 0, count := 1, reset := 0x249F0, rw := 0xFFFFFFFF, rwp := true },  -- LDG_GAS_TB
    { base := 0x090028, stride := 0, count := 1, reset := 0x40000000, rw := 0xFFFFFFFF, rwp := true },  -- LDG_GAS_ZC
    { base := 0x09002C, stride := 0, count := 1, reset := 0x40000000, rw := 0xFFFFFFFF, rwp := true },  -- LDG_GAS_ZB
    { base := 0x090100, stride := 4, count := 16, reset := 0x0, rw := 0xFFFFFFFF, rwp := true },  -- LDG_GAS_PAX
    { base := 0x090140, stride := 4, count := 16, reset := 0x0, rw := 0xFFFFFFFF, rwp := true },  -- LDG_GAS_TAX
    { base := 0x090200, stride := 4, count := 128, reset := 0x80008000, rw := 0xFFFFFFFF, rwp := true },  -- LDG_GAS_Z
    { base := 0x090400, stride := 4, count := 4, reset := 0x0, rw := 0xFFFFFFFF, rwp := true },  -- LDG_CV
    { base := 0x090410, stride := 0, count := 1, reset := 0x0, rw := 0x3, rwp := true },  -- LDG_TARIFF_SEL
    { base := 0x0907FC, stride := 0, count := 1, reset := 0x0, w1s := 0x1, wo := 0x2 },  -- LDG_COMMIT
    { base := 0x091000, stride := 0, count := 1, reset := 0x0 },  -- LDG_STATUS
    { base := 0x091004, stride := 0, count := 1, reset := 0x0, w1c := 0x7F },  -- LDG_EVT
    { base := 0x091008, stride := 0, count := 1, reset := 0x0 },  -- LDG_ROT
    { base := 0x09100C, stride := 0, count := 1, reset := 0x0 },  -- LDG_LASTSTEP
    { base := 0x091010, stride := 0, count := 1, reset := 0x0 },  -- LDG_K
    { base := 0x091014, stride := 0, count := 1, reset := 0x0 },  -- LDG_CORR
    { base := 0x091018, stride := 0, count := 1, reset := 0x0 },  -- LDG_CVUSED
    { base := 0x09101C, stride := 0, count := 1, reset := 0x0 },  -- LDG_TARIFF
    { base := 0x091020, stride := 8, count := 2, reset := 0x0 },  -- LDG_PULSE_ST
    { base := 0x091024, stride := 8, count := 2, reset := 0x0 },  -- LDG_PULSE_PER
    { base := 0x091030, stride := 0, count := 1, reset := 0x0, rc := 0xFFFFFFFF },  -- LDG_PULSE_LOST
    { base := 0x091034, stride := 0, count := 1, reset := 0x0, wo := 0x1 },  -- LDG_CTL
    { base := 0x091038, stride := 0, count := 1, reset := 0x0 },  -- LDG_SEQ
    { base := 0x09103C, stride := 0, count := 1, reset := 0x0 },  -- LDG_NVMPOS
    { base := 0x091040, stride := 4, count := 14, reset := 0x0, wo := 0xFFFFFFFF },  -- LDG_HOSTINC_W
    { base := 0x091078, stride := 0, count := 1, reset := 0x0, wo := 0x1 },  -- LDG_HOSTINC_FLAGS
    { base := 0x09107C, stride := 0, count := 1, reset := 0x0, w1s := 0x1 },  -- LDG_HOSTINC_GO
    { base := 0x091080, stride := 0, count := 1, reset := 0x0, rw := 0x1FFF },  -- LDG_KTAB_IDX
    { base := 0x091084, stride := 0, count := 1, reset := 0x0 },  -- LDG_KTAB_VAL
    { base := 0x091100, stride := 16, count := 17, reset := 0x0 },  -- LDG_ACC_W0
    { base := 0x091104, stride := 16, count := 17, reset := 0x0 },  -- LDG_ACC_W1
    { base := 0x091108, stride := 16, count := 17, reset := 0x0 },  -- LDG_ACC_W2
    { base := 0x09110C, stride := 16, count := 17, reset := 0x0 } ]  -- LDG_ACC_W3

/-- The RAD region, 0x0A_0000 (R16). -/
def rowsRad : List RegRow :=
  [ { base := 0x0A0000, stride := 0, count := 1, reset := 0x305AB, rw := 0xFFFFF, rwp := true },  -- RAD_LBT
    { base := 0x0A0004, stride := 0, count := 1, reset := 0x18, rw := 0xFF3F, rwp := true },  -- RAD_ANT
    { base := 0x0A0008, stride := 0, count := 1, reset := 0x8, rw := 0x3F, rwp := true },  -- RAD_PRE
    { base := 0x0A07FC, stride := 0, count := 1, reset := 0x0, w1s := 0x1, wo := 0x2 },  -- RAD_COMMIT
    { base := 0x0A1000, stride := 0, count := 1, reset := 0x0 },  -- RAD_STATUS
    { base := 0x0A1004, stride := 0, count := 1, reset := 0x0, w1c := 0x1F },  -- RAD_EVT
    { base := 0x0A1008, stride := 0, count := 1, reset := 0x0, rw := 0x7 },  -- RAD_GOV_SEL
    { base := 0x0A100C, stride := 0, count := 1, reset := 0x0 },  -- RAD_GOV_USED
    { base := 0x0A1010, stride := 0, count := 1, reset := 0x0 },  -- RAD_GOV_BUDGET
    { base := 0x0A1014, stride := 0, count := 1, reset := 0x0, rc := 0xFFFFFFFF },  -- RAD_GOV_CNT
    { base := 0x0A1018, stride := 0, count := 1, reset := 0x8080 },  -- RAD_RSSI
    { base := 0x0A101C, stride := 0, count := 1, reset := 0x0, rc := 0xFFFFFFFF },  -- RAD_CNT
    { base := 0x0A1020, stride := 0, count := 1, reset := 0x0, rc := 0xFFFFFFFF },  -- RAD_TXCNT
    { base := 0x0A1024, stride := 0, count := 1, reset := 0x0, wo := 0xF },  -- RAD_RXREL
    { base := 0x0A1100, stride := 8, count := 4, reset := 0x0 },  -- RAD_RXD
    { base := 0x0A1104, stride := 8, count := 4, reset := 0x0 },  -- RAD_RXT
    { base := 0x0A2000, stride := 4, count := 512, reset := 0x0 } ]  -- RAD_RXBUF

/-- The MSH region, 0x0B_0000 (R16). -/
def rowsMsh : List RegRow :=
  [ { base := 0x0B0000, stride := 0, count := 1, reset := 0x3010, rw := 0xFFFFF, rwp := true },  -- MSH_WIN
    { base := 0x0B0004, stride := 0, count := 1, reset := 0x8B34, rw := 0xFFFF, rwp := true },  -- MSH_RETRY
    { base := 0x0B0008, stride := 0, count := 1, reset := 0x80003, rw := 0xFF3F03, rwp := true },  -- MSH_CFG
    { base := 0x0B000C, stride := 0, count := 1, reset := 0x384, rw := 0x1FFFF, rwp := true },  -- MSH_REPORT
    { base := 0x0B0010, stride := 0, count := 1, reset := 0x9, rw := 0x1FFFF, rwp := true },  -- MSH_REPORT_MASK
    { base := 0x0B0014, stride := 0, count := 1, reset := 0x0, rw := 0xFFFFFFFF, rwp := true },  -- MSH_WMBUS_M
    { base := 0x0B07FC, stride := 0, count := 1, reset := 0x0, w1s := 0x1, wo := 0x2 },  -- MSH_COMMIT
    { base := 0x0B1000, stride := 0, count := 1, reset := 0x0 },  -- MSH_STATUS
    { base := 0x0B1004, stride := 0, count := 1, reset := 0x0 },  -- MSH_ADDR
    { base := 0x0B1008, stride := 0, count := 1, reset := 0xFFFE },  -- MSH_SHORT
    { base := 0x0B100C, stride := 0, count := 1, reset := 0x0 },  -- MSH_CELL
    { base := 0x0B1010, stride := 0, count := 1, reset := 0x0 },  -- MSH_TIME
    { base := 0x0B1014, stride := 0, count := 1, reset := 0x0 },  -- MSH_CROT
    { base := 0x0B1018, stride := 0, count := 1, reset := 0x0 },  -- MSH_LASTFLASH
    { base := 0x0B101C, stride := 0, count := 1, reset := 0x0, w1c := 0x1FFF },  -- MSH_EVT
    { base := 0x0B1020, stride := 0, count := 1, reset := 0x0, rc := 0x8003FFFF },  -- MSH_KEVT
    { base := 0x0B1024, stride := 0, count := 1, reset := 0x0, rc := 0xFFFFFFFF },  -- MSH_CNT
    { base := 0x0B1028, stride := 0, count := 1, reset := 0x0, rc := 0xFFFFFFFF },  -- MSH_CNT2
    { base := 0x0B102C, stride := 0, count := 1, reset := 0x0 },  -- MSH_FCNT
    { base := 0x0B1030, stride := 0, count := 1, reset := 0x0, wo := 0x7 },  -- MSH_CTL
    { base := 0x0B1034, stride := 0, count := 1, reset := 0x0, rw := 0xFFFFFFFF },  -- MSH_FOG_D0
    { base := 0x0B1038, stride := 0, count := 1, reset := 0x0, rw := 0xFFFFFFFF },  -- MSH_FOG_D1
    { base := 0x0B103C, stride := 0, count := 1, reset := 0x0, wo := 0x1 },  -- MSH_FOG_GO
    { base := 0x0B1040, stride := 0, count := 1, reset := 0x0, rw := 0x7FF },  -- MSH_PROV_IDX
    { base := 0x0B1044, stride := 0, count := 1, reset := 0x0, rw := 0xFFFFFFFF },  -- MSH_PROV_LONG
    { base := 0x0B1048, stride := 4, count := 6, reset := 0x0, wo := 0xFFFFFFFF },  -- MSH_PROV_WRAP
    { base := 0x0B1060, stride := 0, count := 1, reset := 0x0, wo := 0x3 },  -- MSH_PROV_CTL
    { base := 0x0B1064, stride := 0, count := 1, reset := 0x0 },  -- MSH_SCAN
    { base := 0x0B1068, stride := 0, count := 1, reset := 0x80 } ]  -- MSH_SCAN_RSSI

/-- The MEM region, 0x0C_0000 (R16). -/
def rowsMem : List RegRow :=
  [ { base := 0x0C0000, stride := 0, count := 1, reset := 0x1, rw := 0x3FFFF },  -- MEM_POLICY
    { base := 0x0C0004, stride := 0, count := 1, reset := 0x0, w1c := 0x1F },  -- MEM_EVT
    { base := 0x0C0008, stride := 0, count := 1, reset := 0x0, rc := 0xFFFFFFFF },  -- MEM_ECC_CNT
    { base := 0x0C000C, stride := 0, count := 1, reset := 0x0, wo := 0x10000 },  -- MEM_LOG_CTL
    { base := 0x0C0010, stride := 0, count := 1, reset := 0x0, rw := 0x1F, w1s := 0x20, wo := 0x40 },  -- MEM_FLIP_CTL
    { base := 0x0C0014, stride := 4, count := 5, reset := 0x0, rw := 0xFFFFFFFF },  -- MEM_FLIP
    { base := 0x0C0030, stride := 0, count := 1, reset := 0x0 },  -- MEM_SCR_READ
    { base := 0x0C0034, stride := 0, count := 1, reset := 0x0 },  -- MEM_SCR_CORR
    { base := 0x0C0038, stride := 0, count := 1, reset := 0x0 },  -- MEM_SCR_WB
    { base := 0x0C003C, stride := 0, count := 1, reset := 0x0 },  -- MEM_SCR_UE
    { base := 0x0C0040, stride := 0, count := 1, reset := 0x0 },  -- MEM_SCR_FIRST
    { base := 0x0C0044, stride := 0, count := 1, reset := 0x0 },  -- MEM_SCR_LAST
    { base := 0x0C0050, stride := 0, count := 1, reset := 0x0, rw := 0xFF8001FF, wo := 0x30000 },  -- MEM_RETIRE
    { base := 0x0C0054, stride := 0, count := 1, reset := 0x4000 },  -- MEM_RETIRE_ST
    { base := 0x0C0080, stride := 4, count := 16, reset := 0x0 },  -- MEM_REMAP
    { base := 0x0C0100, stride := 16, count := 32, reset := 0x0 },  -- MEM_LOG_ADDR
    { base := 0x0C0104, stride := 16, count := 32, reset := 0x0 },  -- MEM_LOG_INFO
    { base := 0x0C0108, stride := 16, count := 32, reset := 0x0 },  -- MEM_LOG_ROT
    { base := 0x0C0400, stride := 4, count := 64, reset := 0x0 } ]  -- MEM_NVLIST

/-- The PWR region, 0x0D_0000 (R16). -/
def rowsPwr : List RegRow :=
  [ { base := 0x0D0000, stride := 0, count := 1, reset := 0x5580402A },  -- PWR_STATE0
    { base := 0x0D0004, stride := 0, count := 1, reset := 0x155555 },  -- PWR_STATE1
    { base := 0x0D0008, stride := 0, count := 1, reset := 0x778 },  -- PWR_REST
    { base := 0x0D000C, stride := 0, count := 1, reset := 0x0, w1s := 0x7FFFFFF },  -- PWR_HOLD
    { base := 0x0D0010, stride := 0, count := 1, reset := 0x0, rw := 0xFFFFFFF, wo := 0x10000000 },  -- PWR_SLEEPSET
    { base := 0x0D0014, stride := 0, count := 1, reset := 0x0 },  -- PWR_SLEEP_ST
    { base := 0x0D0018, stride := 0, count := 1, reset := 0x0 },  -- PWR_SLEEP_COST
    { base := 0x0D001C, stride := 0, count := 1, reset := 0x0 },  -- PWR_WAKE_TRACE
    { base := 0x0D0020, stride := 0, count := 1, reset := 0x0 },  -- PWR_WAKE_T0
    { base := 0x0D0024, stride := 0, count := 1, reset := 0x0 },  -- PWR_WAKE_T1
    { base := 0x0D0028, stride := 0, count := 1, reset := 0x0, w1c := 0x1FFFF },  -- PWR_RETLOST
    { base := 0x0D002C, stride := 0, count := 1, reset := 0x6E5A6E, rw := 0xFF00 },  -- PWR_VCORE
    { base := 0x0D0030, stride := 0, count := 1, reset := 0xA, rw := 0xFF },  -- PWR_SLINK_CFG
    { base := 0x0D0034, stride := 0, count := 1, reset := 0x0 },  -- PWR_SLINK_ST
    { base := 0x0D0038, stride := 0, count := 1, reset := 0x0, rc := 0xFFFFFFFF },  -- PWR_SLINK_CNT
    { base := 0x0D003C, stride := 0, count := 1, reset := 0xE6, rw := 0x1FF },  -- PWR_PFW
    { base := 0x0D0040, stride := 0, count := 1, reset := 0xA280000, rw := 0x1FFF0000 },  -- PWR_VBAT
    { base := 0x0D0044, stride := 0, count := 1, reset := 0x0, w1c := 0xF } ]  -- PWR_EVT

/-- The RTC region, 0x0E_0000 (R16). -/
def rowsRtc : List RegRow :=
  [ { base := 0x0E0000, stride := 0, count := 1, reset := 0x0 },  -- RTC_SUBSEC
    { base := 0x0E0004, stride := 0, count := 1, reset := 0x0, rw := 0xFF },  -- RTC_SEC
    { base := 0x0E0008, stride := 0, count := 1, reset := 0x0, rw := 0xFF },  -- RTC_MIN
    { base := 0x0E000C, stride := 0, count := 1, reset := 0x0, rw := 0xFF },  -- RTC_HOUR
    { base := 0x0E0010, stride := 0, count := 1, reset := 0x1, rw := 0xFF },  -- RTC_DAY
    { base := 0x0E0014, stride := 0, count := 1, reset := 0x1, rw := 0xFF },  -- RTC_MONTH
    { base := 0x0E0018, stride := 0, count := 1, reset := 0x20, rw := 0xFF },  -- RTC_CENT
    { base := 0x0E001C, stride := 0, count := 1, reset := 0x0, rw := 0xFF },  -- RTC_WDAY
    { base := 0x0E0020, stride := 0, count := 1, reset := 0x0, rw := 0xFF },  -- RTC_YEAR
    { base := 0x0E0024, stride := 0, count := 1, reset := 0x0, wo := 0x1 },  -- RTC_UNFREEZE
    { base := 0x0E0028, stride := 0, count := 1, reset := 0x0, wo := 0x3 },  -- RTC_COMMIT
    { base := 0x0E002C, stride := 0, count := 1, reset := 0x0 },  -- RTC_PEND
    { base := 0x0E0030, stride := 0, count := 1, reset := 0x0, w1c := 0x2A },  -- RTC_STATUS
    { base := 0x0E0034, stride := 0, count := 1, reset := 0x0 },  -- RTC_CORR
    { base := 0x0E0038, stride := 0, count := 1, reset := 0x0, rw := 0xFFFFFFFF },  -- RTC_TRIM
    { base := 0x0E003C, stride := 0, count := 1, reset := 0x0 },  -- RTC_TEMP
    { base := 0x0E0040, stride := 16, count := 2, reset := 0x0, rw := 0x3F7F7F },  -- RTC_ALM_T
    { base := 0x0E0044, stride := 16, count := 2, reset := 0x101, rw := 0x71F3F },  -- RTC_ALM_D
    { base := 0x0E0048, stride := 16, count := 2, reset := 0x0, rw := 0x7F },  -- RTC_ALM_CFG
    { base := 0x0E0060, stride := 0, count := 1, reset := 0x0, w1c := 0x303 },  -- RTC_ALM_EVT
    { base := 0x0E0064, stride := 0, count := 1, reset := 0x0, rw := 0xFF },  -- RTC_COEF_IDX
    { base := 0x0E0068, stride := 0, count := 1, reset := 0x0 } ]  -- RTC_COEF_VAL

/-- The UPD region, 0x0F_0000 (R16). -/
def rowsUpd : List RegRow :=
  [ { base := 0x0F0000, stride := 0, count := 1, reset := 0x78 },  -- UPD_LIFE
    { base := 0x0F0004, stride := 0, count := 1, reset := 0x0, wo := 0xFFFFFF07 },  -- UPD_LIFE_REQ
    { base := 0x0F0008, stride := 0, count := 1, reset := 0x0 },  -- UPD_STATUS
    { base := 0x0F000C, stride := 0, count := 1, reset := 0x0, wo := 0xF },  -- UPD_CTL
    { base := 0x0F0010, stride := 0, count := 1, reset := 0x0, wo := 0x1 },  -- UPD_CONFIRM
    { base := 0x0F0014, stride := 0, count := 1, reset := 0x258, rw := 0x1FFFF },  -- UPD_WINDOW
    { base := 0x0F0018, stride := 0, count := 1, reset := 0x0 },  -- UPD_TRIAL_LEFT
    { base := 0x0F001C, stride := 0, count := 1, reset := 0x0 },  -- UPD_SELFTEST
    { base := 0x0F0020, stride := 0, count := 1, reset := 0x0, w1c := 0x7F },  -- UPD_EVT
    { base := 0x0F0024, stride := 0, count := 1, reset := 0x0 },  -- UPD_LEGAL_VER
    { base := 0x0F0040, stride := 4, count := 6, reset := 0x0 },  -- UPD_COMP_VER
    { base := 0x0F0060, stride := 4, count := 7, reset := 0x0 },  -- UPD_CNT
    { base := 0x0F0080, stride := 4, count := 8, reset := 0x0 },  -- UPD_LEGAL_SUM
    { base := 0x0F0100, stride := 4, count := 64, reset := 0x0 },  -- UPD_MAP
    { base := 0x0F0200, stride := 0, count := 1, reset := 0x0 },  -- UPD_MAP_CNT
    { base := 0x0F0300, stride := 0, count := 1, reset := 0x0, rw := 0x7 },  -- UPD_KEY_SEL
    { base := 0x0F0304, stride := 4, count := 8, reset := 0x0, wo := 0xFFFFFFFF },  -- UPD_KEY_D
    { base := 0x0F0324, stride := 0, count := 1, reset := 0x0, wo := 0x1 },  -- UPD_KEY_CTL
    { base := 0x0F0328, stride := 0, count := 1, reset := 0x1 },  -- UPD_KEY_ST
    { base := 0x0F0340, stride := 4, count := 6, reset := 0x0 },  -- UPD_KEY_KCV
    { base := 0x0F0400, stride := 0, count := 1, reset := 0x0, rw := 0xFFFFFFFF },  -- UPD_RET_SEQ
    { base := 0x0F0404, stride := 4, count := 8, reset := 0x0, rw := 0xFFFFFFFF },  -- UPD_RET_DIG
    { base := 0x0F0500, stride := 0, count := 1, reset := 0x0 } ]  -- UPD_TRNG

/-- The rows of a region, by its number (R16). -/
def regRows : Nat → List RegRow
  | 0 => rowsSys
  | 1 => rowsHif
  | 2 => rowsRot
  | 3 => rowsSti
  | 4 => rowsAfe
  | 5 => rowsTiu
  | 6 => rowsEch
  | 7 => rowsFlw
  | 8 => rowsTmu
  | 9 => rowsLdg
  | 10 => rowsRad
  | 11 => rowsMsh
  | 12 => rowsMem
  | 13 => rowsPwr
  | 14 => rowsRtc
  | 15 => rowsUpd
  | _ => []

/-- Is `a` one of the addresses of this row? -/
def RegRow.has (r : RegRow) (a : Nat) : Bool :=
  if r.stride = 0 then a == r.base
  else r.base ≤ a && (a - r.base) % r.stride == 0 && (a - r.base) / r.stride < r.count

/-- The row of a register address (R16, R17): none where no register is. -/
def findReg (a : Nat) : Option RegRow :=
  (regRows (a / 0x10000)).find? (fun r => r.has a)

/-- The row whose pending copy sits at `a` (R20: the register's offset plus 0x800). -/
def findPending (a : Nat) : Option RegRow :=
  if a % 0x10000 < 0x800 then none
  else (regRows (a / 0x10000)).find? (fun r => r.rwp && r.has (a - 0x800))

/-- The value a register holds at reset; a pending copy resets to its register's value. -/
def regDefault (a : Nat) : Word :=
  match findReg a with
  | some r => BitVec.ofNat 32 r.reset
  | none =>
    match findPending a with
    | some r => BitVec.ofNat 32 r.reset
    | none => 0

/-- Is the register at `a` an active or pending RWP register? -/
def isRwp (a : Nat) : Bool :=
  (match findReg a with | some r => r.rwp | none => false) || (findPending a).isSome

end Sys2Proof.Machine
end

