-- ==== Sys2Proof/Machine/State.lean ====
section
/-! DEFINITION. The state of the block as plain data: the register file, the memories, and, block by block, the state that
is in no register. The defaults written here are the values after reset (State.reset). -/

namespace Sys2Proof.Machine

/-- No command stops the model with a fault: the spec's device faults are recoveries (R37 to R43), which are effects on State.
The one constructor is never raised. -/
inductive Fault where
  /-- Raised by no command (safe: nothing stops). -/
  | never
  deriving DecidableEq, Repr

/-- Why a command has no meaning here. -/
inductive Refusal where
  /-- A row of the command table that has no meaning yet, by its mnemonic (safe: the model stops). -/
  | notModelled (mnemonic : String)
  deriving DecidableEq, Repr

/-- The parts of the family (R2, R3). -/
inductive Part where
  | tv816 | tv812 | tv808h | tv816w
  deriving DecidableEq, Repr

--HIF
/-- A response frame as the host sees it after the sync byte (R292). -/
structure Resp where
  status : Nat
  epoch : Nat
  aux : Nat := 0
  flags : Nat
  data : List Byte := []
  trailer : Option (Nat × Nat) := none   -- DSTATUS and FIRST (R293)
  deriving DecidableEq, Repr

/-- The states of an operation-table entry (R305). -/
inductive OpState where
  | free | active | complete
  deriving DecidableEq, Repr

/-- An entry of the operation table with its completion record (R305, R307) and its parameter block. -/
structure OpEntry where
  st : OpState := .free
  tag : Nat := 0
  type : Nat := 0
  autorel : Bool := false
  params : List Byte := []
  status : Nat := 0
  causes : Nat := 0
  epoch : Nat := 0
  result : Nat := 0
  deadline : Nat := 0        -- effective deadline in LFT, 0: none
  budget : Nat := 0          -- lower full budget B, µs
  started : Bool := false    -- has its work begun (R306)
  expiring : Bool := false   -- deadline passed, waits for the abort point (R306)
  lower : Nat := 0           -- lower cause of the last failed attempt (R48)
  order : Nat := 0           -- order of completion, for NEXT (R308)
  acc : Nat := 0             -- order of acceptance (R62)
  due : Bool := false        -- a shot that came due during a fog preemption (R192)
  busy : Nat := 0            -- listens of a host-assisted RADIO_TX that found the channel busy (R253)
  deriving DecidableEq, Repr

/-- An entry of the duplicate window (R299): tag, opcode, status and, for a finished operation, its record. -/
structure WinEntry where
  tag : Nat
  opcode : Nat
  status : Nat
  record : Option (List Byte) := none
  deriving DecidableEq, Repr

/-- State of the host interface that is in no register. -/
structure Hif where
  resp : Option Resp := none              -- the last response sent
  ops : List OpEntry := List.replicate 16 {}
  win : List WinEntry := []               -- newest first, at most 16
  nextOrder : Nat := 1
  sync : Bool := false                    -- level driven on SYNC in mode 1 (R311)
  syncEdges : List Bool := []             -- edges the device drives on SYNC whose stamps have not come, rising or not
  deriving DecidableEq, Repr

--MEM
/-- An entry of the ECC log (R327). -/
structure LogEntry where
  addr : Nat := 0
  count : Nat := 0
  info : Nat := 0
  rot : Nat := 0
  deriving DecidableEq, Repr

/-- A running NVM_WRITE (R332): its table entry, source and destination, pages asked for and written, failed attempts of this page,
and source words copied as poisoned. -/
structure NvmJob where
  op : Nat
  src : Nat
  dst : Nat
  pages : Nat
  done : Nat := 0
  fails : Nat := 0
  poison : Nat := 0
  deriving DecidableEq, Repr

/-- State of the memory unit that is in no register. -/
structure Memu where
  log : List LogEntry := []               -- newest first, at most 32
  logNext : Nat := 0                      -- ring position to be written next
  rowCopy : Option (Nat × Nat × Nat) := none   -- row retirement in progress: bank, row, spare
  scrub : Option (Nat × Nat) := none      -- running SCRUB: table entry, bytes done
  scrubDom : Option Nat := none           -- the domain that a SCRUB woke and that is ON for it (R326)
  nvm : Option NvmJob := none             -- running NVM_WRITE
  deriving DecidableEq, Repr

--PWR
/-- A wake in progress (R338): the stage it waits for, 1 to 4. -/
structure Wake where
  dom : Nat
  stage : Nat
  off : Bool := false                     -- woken from OFF: no retention check
  deriving DecidableEq, Repr

/-- Who queued a supply-link transaction (R350), in the order of service. -/
inductive SlinkWhy where
  | wake (dom : Nat) | entry | op (i : Nat) | vdrv | gone   -- gone: a SLINK_SET that a fault discarded (R38)
  deriving DecidableEq, Repr

/-- A supply-link transaction: CMD, VALUE and its origin (R347, R350). -/
structure Slink where
  why : SlinkWhy
  cmd : Nat
  value : Nat
  deriving DecidableEq, Repr

/-- State of the power controller that is in no register. -/
structure Pwr where
  retain : Nat := 3                       -- retain set, a bank mask (R336)
  tripped : Nat := 0                      -- retention monitors tripped: banks 0 to 15, 16 the capture SRAM (R342)
  wakes : List Wake := []
  xo : Bool := true                       -- the 26 MHz crystal runs (R337)
  link : Option Slink := none             -- transaction in progress
  linkQ : List Slink := []                -- transactions waiting
  linkSeq : Nat := 0                      -- SEQ of the next transaction (R349)
  linkTries : Nat := 0                    -- attempts of the transaction in progress that failed
  linkLower : Nat := 0
  vdrvReq : Bool := false                 -- a VDRV request waits for background time (R99)
  linkPrev : Nat := 0                     -- PWR_SLINK_ST before the transaction in progress
  settle : List Nat := []                 -- VDRV levels acknowledged and settling, oldest first (R348)
  entryStep : Nat := 0                    -- CORE entry waiting for its E4 transaction: 4, else 0 (R341)
  entered : List Nat := []                -- domains whose entry began at the last facet end or sleep set (R341)
  enteredLft : Nat := 0                   -- its LFT after the mark
  devHold : Nat := 0                      -- domains held by R135 and R258
  sleepTaken : List Nat := []             -- domains a running sleep set took into RETAIN (R345)
  sleepHeld : Nat := 0                    -- host holds that a running sleep set released
  sleepWaits : Bool := false              -- a fog event has stopped the set, which ends after the fog frame (R346)
  restNext : Nat := 0                     -- domains a set woke back, which rest at the next facet end (R345)
  lostBoot : Bool := false                -- the boot load runs again at the end of recovery (R79, R343)
  aonOff : Bool := false                  -- VAON is below its threshold: held in power-on reset (R353)
  deriving DecidableEq, Repr

--RTC
/-- State of the clock that is in no register: all of it lies in BKP (R356). -/
structure Rtc where
  acc : Int := 0                          -- residue of the rate correction (R362)
  pend : List Nat := List.replicate 8 0   -- pending values: seconds, minutes, hours, day, month, century, weekday, year
  shadow : List Nat := List.replicate 9 0 -- shadows of SUBSEC, SEC, MIN, HOUR, DAY, MONTH, CENT, WDAY, YEAR
  next : Option Int := none               -- the correction that the next LF tick takes (R363, R364)
  deriving DecidableEq, Repr

--AFE
/-- The electrical states of a port (R95). -/
inductive PortState where
  | park | drive | damp | listen | census
  deriving DecidableEq, Repr

/-- A chord of a shot in progress: its slot, its window open in 62.5 ns and whether it was left undriven (R100, R117). -/
structure ShotChord where
  chord : Nat
  slot : Nat
  opened : Nat
  skip : Bool
  nstA : Nat := 0                         -- stamps written for RXA and RXB (R127)
  nstB : Nat := 0
  lastA : Nat := 0                        -- last stamp written of each direction
  lastB : Nat := 0
  unlocked : Bool := false                -- the ring lost lock during the capture: NST reads 0 (R126)
  deriving DecidableEq, Repr

/-- A fired host shot under hardware echo: its table entry, its slots, those whose record is still to come, and the ring position
of its first record (R191). -/
structure HostShot where
  op : Nat
  slots : Nat
  left : Nat
  first : Option Nat := none
  deriving DecidableEq, Repr

/-- A shot in progress, from T0 to the descriptors (R113 to R120); T0 in ns after the mark. -/
structure Shot where
  chords : List ShotChord
  op : Option Nat := none                 -- table entry of a host shot
  t0 : Nat := 0
  span : Nat := 0                         -- from the stamp origin to the close of the last window, in half ns
  deriving DecidableEq, Repr

/-- State of the acoustic front end that is in no register. -/
structure Afe where
  ports : List PortState := List.replicate 16 .park   -- drive from T0 to the descriptors: State.portAt gives the state at an instant
  shot : Option Shot := none
  hostShots : List HostShot := []         -- host shots whose records are not all written
  fired : List Nat := []                  -- slots of host shots in the order they fired (R144)
  turns : List (Nat × Nat) := []          -- turns of the ports in the census of this rotation, in ns after the mark (R122)
  deriving DecidableEq, Repr

--TIU
/-- A result of an event channel: the value and its flags COARSE_OVF 1, UNRESOLVED 2, ORDER 4 (R131, R132). -/
structure EvResult where
  value : Nat
  flags : Nat := 0
  deriving DecidableEq, Repr

/-- An event channel: result queue (head first), last accepted stamp of the run, stamps waiting for their partner, and the
INTERVAL channel it serves as start (R129 to R132). -/
structure EvChan where
  queue : List EvResult := []
  last : Option Nat := none
  prevOut : Option Nat := none            -- previous stamp of the run, for DIFF (R138)
  wait : List Nat := []
  serves : Option Nat := none
  dropped : Bool := false                 -- a result of this run met a full queue (R132)
  deriving DecidableEq, Repr

/-- A statistics unit: exact sums and extremes over n values (R139), with the source and the number of values of its run, which a write of
its configuration changes from the next GO only. -/
structure StatUnit where
  s1 : Int := 0
  s2 : Nat := 0
  n : Nat := 0
  least : Int := 0
  greatest : Int := 0
  src : Nat := 0
  want : Nat := 0
  deriving DecidableEq, Repr

/-- State of the time-interval unit that is in no register. -/
structure Tiu where
  ev : List EvChan := List.replicate 6 {}
  stat : List StatUnit := List.replicate 22 {}
  nextScale : Option Nat := none          -- scale that takes effect at S4 of the next mark (R143)
  deriving DecidableEq, Repr

--ECH
/-- The previous accepted pair of a chord: both transit times, their sum and the temperature it was taken at (R154, R158). -/
structure EchPrev where
  up : Int
  dn : Int
  sum : Int
  temp : Option Int := none
  deriving DecidableEq, Repr

/-- A chord of the echo processor: its previous pair, its amplitude averages in 1/256 of 0.01 dB (R160) and the temperature of its
shot facet in 0.1 mK (R28). -/
structure EchChord where
  prev : Option EchPrev := none
  avgUp : Option Int := none
  avgDn : Option Int := none
  temp : Option Int := none
  deriving DecidableEq, Repr

/-- What later steps need of a record written in this rotation: causes, outcome, the velocity R174 and R175 leave, the speed of
sound, and whether R167 wrote it. -/
structure EchRec where
  chord : Nat
  causeUp : Nat
  causeDn : Nat
  outcome : Nat
  vel : Option Int := none
  sos : Nat := 0
  lost : Bool := false
  deriving DecidableEq, Repr

/-- A step of a host shot that will have its record at S1 (R167): chord, rotation and tag, table entry and slot. -/
structure EchLost where
  chord : Nat
  rot : Nat
  tag : Nat
  slot : Nat
  deriving DecidableEq, Repr

/-- State of the echo processor that is in no register. -/
structure Ech where
  chords : List EchChord := List.replicate 8 {}
  slotScale : List Nat := List.replicate 16 0x40000000   -- TIU_SCALE in force at the shot of a slot (R149)
  slotTemp : List (Option Int) := List.replicate 16 none -- temperature of the shot facet of a slot (R28, R154)
  base : Nat := 0                         -- ring position of the first record of this rotation (R164)
  recs : List EchRec := []                -- records written in this rotation
  lost : List EchLost := []               -- host-shot steps whose record R167 writes at S1
  deriving DecidableEq, Repr

--FLW
/-- The results of a meter-flow step as the live registers hold them (R177, R180). -/
structure FlwLive where
  rot : Nat := 0
  q : Int := 0
  vm : Int := 0
  re : Nat := 0
  k : Nat := 0
  sos : Nat := 0
  deriving DecidableEq, Repr

/-- State of the flow engine that is in no register: the ratio rings (newest first, R181), the live values behind the snapshot of
FLW_STATUS, the last valid flow, the temperature of the last shot facet and the hydrogen filter (R186). -/
structure Flw where
  rings : List (List Int) := List.replicate 8 []
  live : FlwLive := {}
  valid : FlwLive := {}
  temp : Option Int := none
  stepped : Bool := false                 -- has the meter-flow step of this rotation run (R177)
  unfail : Nat := 0                       -- chords that UNFAIL makes healthy from the next step (R182)
  x : Nat := 0
  xf : Int := 0
  h2First : Bool := true
  deriving DecidableEq, Repr

--TMU
/-- Who started a conversion (R208, R209, R212). -/
inductive ConvWhy where
  | sched | op (i : Nat) | apply1 | apply2
  deriving DecidableEq, Repr

/-- A conversion in progress (R196): its elements (bits 0 to 3 thermometers, 4 pressure), repetitions, and the discharge times of
the cycles that have ended, oldest first, none for a timeout (R195). -/
structure Conv where
  why : ConvWhy
  mask : Nat
  reps : Nat
  times : List (Option Int) := []
  deriving DecidableEq, Repr

/-- State of the thermal unit that is in no register: the values behind the snapshot of TMU_STATUS (R203, R207). -/
structure Tmu where
  conv : Option Conv := none
  states : List Nat := List.replicate 5 0
  r : List Nat := List.replicate 4 0
  t : List (Option Int) := List.replicate 4 none
  dt : Option Int := none
  dtAt : Nat := 0
  p : Option Nat := none
  u : Int := 0
  rot : Nat := 0
  deriving DecidableEq, Repr

--LDG
/-- An accumulator: value below 2^96, wrap count and residue (R216, R220). -/
structure Acc where
  v : Nat := 0
  wrap : Nat := 0
  r : Nat := 0
  deriving DecidableEq, Repr

/-- The endpoint left by a step: its flow in pL/s and whether its rotation carried SUBST or FALLBACK (R221, R223). -/
structure Endpoint where
  q : Int
  subst : Bool := false
  deriving DecidableEq, Repr

/-- A ledger commit in progress (R232, R234): SEQ, cause, the seven records, how many are verified, and the LEDGER_COMMIT entry it
serves. -/
structure LdgCommit where
  seq : Nat
  cause : Nat
  records : List (List Byte)
  done : Nat := 0
  op : Option Nat := none
  runOn : Bool := false                   -- a device fault came: it runs to its end outside NVM facets too (R39, R237)
  deriving DecidableEq, Repr

/-- A pulse output (R238, R239): residue, width for the next pulse in LFT, and whether a pulse is being driven. -/
structure Pulse where
  res : Nat := 0
  width : Nat := 0
  active : Bool := false
  deriving DecidableEq, Repr

/-- State of the ledger that is in no register. Times are in 1/64 ns from the mark that began the rotation. -/
structure Ldg where
  acc : List Acc := List.replicate 17 {}
  prev : Option Endpoint := none          -- endpoint left by the previous step
  prevShot : Bool := false                -- is there a previous shot instant (R29)
  shotAt : Option Nat := none             -- shot instant of this rotation
  lastEnd : Option Int := none            -- end of the last accounted interval (R235)
  afterPf : Bool := false                 -- steps after a power-fail warning (R235)
  pfIgnore : Bool := false                -- a warning came and no commit has started since (R235)
  pulses : List Pulse := List.replicate 2 {}
  clearReq : Bool := false                -- CLEAR accepted, to be done at S3 (R219)
  hostSet : Option (List Nat × Bool) := none   -- increment set sampled at S1 with FLAGS.ERR (R230)
  seqUsed : Nat := 0                      -- last SEQ used by a commit (R231)
  due : List Nat := []                    -- causes of commits that wait for an NVM facet
  periodic : Bool := false                -- the commit interval has passed (R234)
  perDue : Bool := false                  -- an NVM facet has begun since (R62)
  redo : List Nat := []                   -- causes of failed commits, to be repeated in the next NVM facet (R234)
  commit : Option LdgCommit := none
  erase : Option Nat := none              -- ledger NVM page being erased (R234)
  torn : List Nat := []                   -- pages whose erase was abandoned (R234, R235)
  storeErr : List Nat := []               -- wrong symbols of the retention store's worst word (R231)
  deriving DecidableEq, Repr

--RAD
/-- What a transmission is for: a host frame (R253), an own frame of a class direct or flooded (R281), a relay (R268), an
acknowledgement or join response (R274), a downlink (R283), a flash (R263), a join request (R276). -/
inductive TxWhy where
  | host (i : Nat) | own (cls : Nat) (flood : Bool) | relay | answer | down (i : Nat) | flash | join (flood : Bool)
  deriving DecidableEq, Repr

/-- A transmission from its admission on (R248 to R250): its octets with their check fields (R243, R245), airtime in µs, channel, conducted power in dBm, class fog, and whether it is still in its listen. -/
structure TxJob where
  why : TxWhy
  psdu : List Byte
  air : Nat
  chan : Nat
  pwr : Int
  fog : Bool
  listen : Bool
  deriving DecidableEq, Repr

/-- A running RADIO_SCAN (R254, R285): its table entry, channel, frames delivered or flashes heard, frames dropped or flashes of
the own cell, and whether its dwell has ended. -/
structure Scan where
  op : Nat
  chan : Nat
  got : Nat := 0
  other : Nat := 0
  ended : Bool := false
  deriving DecidableEq, Repr

/-- A reception in progress: the end of its SFD in ns and LFT from the mark, the rotation (R254, R255), and the channel, which stays its
own (R262). -/
structure RxStart where
  ns : Nat
  lft : Nat
  rot : Nat
  chan : Nat := 0
  deriving DecidableEq, Repr

/-- State of the radio that is in no register; the governor's bins lie in AON (R249, R251), newest first. -/
structure Rad where
  bins : List (List Nat) := List.replicate 8 (List.replicate 61 0)
  job : Option TxJob := none
  wait : Option TxWhy := none             -- random wait in progress, for whom
  busy : Nat := 0                         -- listens of this MAC attempt that found the channel busy
  fogWait : Bool := false                 -- the fog frame waits for CORE and RADIO to be ON (R73)
  scan : Option Scan := none
  rx : Option RxStart := none
  deriving DecidableEq, Repr

--MSH
/-- What an own frame is (R278). -/
inductive OwnKind where
  | fog | report | keepalive | leave | host (op : Nat)
  deriving DecidableEq, Repr

/-- An own frame in a transmit queue or held as a downlink (R278 to R283): its TYPE, class, receiver, payload, the frame counter
once it is built, the attempts made, and the outcome of the last one. -/
structure Own where
  kind : OwnKind
  type : Nat
  cls : Nat
  dst : Nat
  body : List Byte
  directOnly : Bool := false
  fmtB : Bool := false
  fcnt : Option Nat := none
  tries : Nat := 0
  ftries : Nat := 0
  lower : Nat := 0
  g : Int := 0                            -- fog frame: the instant of its event, 1/64 ns from the mark (R73)
  src : Option Nat := none                -- LEAVE: the short address it leaves (R276)
  held : Bool := false                    -- fog frame the governor refused: admitted again at a minute boundary (R251)
  booked : Bool := false                  -- its next attempt is admitted and booked (R251)
  deriving DecidableEq, Repr

/-- A relay that waits for its random delay (R268). -/
structure Relay where
  psdu : List Byte
  orig : Nat
  fcnt : Nat
  fog : Bool
  deriving DecidableEq, Repr

/-- An entry of the keeper's association table that is not FREE (R275): the link key is wrapped under the key-encryption key. -/
structure AssocEntry where
  long : Nat
  joined : Bool := false                  -- ASSOC, else PROVISIONED
  fcnt : Option Nat := none
  supv : Nat := 0
  rssi : Nat := 0
  key : List Nat := []
  down : Option Own := none
  deriving DecidableEq, Repr

/-- A fog event (R279): its code, the rotation at the event and its data. -/
structure FogEv where
  code : Nat
  rot : Nat
  data : List Byte
  deriving DecidableEq, Repr

/-- An acknowledgement or join response that waits for its instant (R274): its TYPE, receiver, payload, the key with the LONG and
direction of its nonce, class, PENDING, and the table entry whose downlink follows it (R283). -/
structure Answer where
  type : Nat
  cls : Nat
  dst : Nat
  payload : List Byte
  key : List Nat
  long : Nat
  dir : Nat
  down : Option Nat := none
  deriving DecidableEq, Repr

/-- State of the mesh that is in no register (R256 to R288). Instants are in 1/64 ns from the mark that began the rotation. -/
structure Msh where
  boot : Nat := 0                         -- MAC boot count, fuse NVM (R271)
  fcntEnd : Bool := false                 -- no frame counter left (R271)
  cellKey : Option (List Nat) := none
  klong : Nat := 0                        -- keeper's device address, from the join response
  seen : List (Nat × Nat × Nat) := []     -- seen-cache, newest first: source, FCNT, TYPE (R273)
  newest : Option Nat := none             -- buoy: newest FCNT accepted from the keeper
  queues : List (List Own) := List.replicate 3 []   -- steady, spare, fog (R278)
  relays : List Relay := []
  relayDue : Bool := false                -- the delay of the first relay has ended (R268)
  origDue : Bool := false                 -- the instant of own floods in this facet has come (R269)
  cur : Option Nat := none                -- class whose head frame is being attempted
  await : Option TxWhy := none            -- answer window open, of which transmission (R274)
  answer : Option Answer := none
  downNext : Option Nat := none           -- entry whose downlink follows the ACK just sent
  table : List (Nat × AssocEntry) := []   -- entries not FREE, index rising
  kevts : List (Nat × Nat) := []          -- keeper events: kind, short address (R288)
  anchors : List (Nat × Int) := []        -- the two newest received anchors: interval, instant (R265)
  corr : Option Int := none               -- correction in LFT that the next mark applies
  kphase : Nat := 0                       -- buoy: the keeper's PHASE
  window : Bool := false                  -- flash window open
  shut : Bool := false                    -- a flash window has begun in a preemption and is not open (R71)
  closing : Bool := false                 -- its close has passed while a frame was arriving
  reportAge : Nat := 0                    -- LFT since the last report was queued (R280)
  reportReq : Bool := false               -- MSH_CTL.REPORT written
  silent : Nat := 0                       -- flash intervals without an acknowledged frame (R277)
  orphans : Nat := 0                      -- consecutive exhausted frames (R276)
  joinReq : Bool := false                 -- MSH_CTL.JOIN written
  suspended : Bool := false               -- AUTOJOIN suspended by LEAVE
  jtries : Nat := 0                       -- unanswered requests of this phase
  jflood : Bool := false                  -- requests are flooded
  scanJ : Nat := 0                        -- map entry scanned in DARK
  events : List FogEv := []               -- fog events that wait for FOG_EVENT, oldest first
  held : List FogEv := []                 -- fog events detected during recovery (R74)
  deriving DecidableEq, Repr

--ROT
/-- State of the rotation and the Lens that is in no register. -/
structure Rot where
  lft : Nat := 0                          -- whole LFT since the mark
  len : Nat := 16384                      -- length of this rotation in LFT (R50, R52)
  back : Nat := 0                         -- remembered state while in RECOVER
  entry : Option Nat := none              -- start facet of the entry in progress
  fog : Bool := false                     -- a fog preemption is in progress (R70)
  late : List Nat := []                   -- entries whose start waits for its end (R71)
  waking : Bool := false                  -- the entry in progress was still waking its domains when it began (R70)
  woke : Nat := 0                         -- domains the Lens has woken and not yet put to rest (R63)
  deriving DecidableEq, Repr

--UPD
/-- State of the lifecycle, keys and update that is in no register. Keys and the lifecycle registers' fuse fields survive resets. -/
structure Upd where
  keys : List (Option (List Nat)) :=      -- key store, fuse NVM; slot 0 is written at manufacture (R374)
    some ((List.range 32).map fun i => (Config.vendorRoot.toNat >>> (8 * i)) % 256) :: List.replicate 5 none
  staging : List (Nat × List Byte) := []  -- staged blocks by block number, at most 16 (R381)
  fromRecv : Bool := false                -- verification begun from RECEIVING (R379)
  swapArmed : Bool := false               -- ACTIVATE accepted (R383)
  swapDue : Bool := false                 -- S6 of the next mark has passed: the swap reset is due
  trialLft : Nat := 0                     -- LFT of the trial window left (R384)
  trngBad : Bool := false                 -- a health test has failed (R390)
  kekWait : Bool := false                 -- a draw of the key-encryption key waits for the TRNG
  cellWait : Bool := false                -- a draw of the cell key waits for the TRNG
  deriving DecidableEq, Repr

--STATE
/-- The whole state. -/
structure State where
  part : Part := .tv816
  step : Nat := 1                         -- silicon step (R2)
  regs : List (Nat × Word) := []          -- register file, canonical (Assoc) over regDefault
  mem : List Host.Cell := []              -- memories, canonical (Assoc) over memDefault
  gpio : Nat := 0                         -- levels on GPIO0 to GPIO3 (R395)
  hif : Hif := {}
  memu : Memu := {}
  pwr : Pwr := {}
  rtc : Rtc := {}
  afe : Afe := {}
  tiu : Tiu := {}
  ech : Ech := {}
  flw : Flw := {}
  tmu : Tmu := {}
  ldg : Ldg := {}
  rad : Rad := {}
  msh : Msh := {}
  rot : Rot := {}
  upd : Upd := {}
  image : Option Image := none            -- the active structure image as latched at its apply (R89)
  lastImage : Option Image := none        -- the image active before the last reset, for what AON keeps (R251, R287)
  srcBad : Bool := false                  -- the source of the load in progress was refused with SOURCE at its copy (R77, R87)
  srcStruct : Bool := false               -- it is the active STRUCT component (R88)
  badRegs : List Nat := []                -- registers that read as poisoned (R293), by active offset
  free : Nat := 0                         -- the model's own field: free values drawn so far
  pending : List Instr := []              -- commands waiting, first in first out
  deriving DecidableEq, Repr

/-- The machine right after reset. -/
def State.reset : State := {}

end Sys2Proof.Machine
end

