-- ==== Sys2Proof/Machine/Ops.lean ====
section
/-! DEFINITION. The named operations over the register file: whole registers, fields, saturating counters, event bits, the
interrupt causes (R309), the capability of the part (R2, R3) and free values. -/

namespace Sys2Proof.Machine

/-! Registers and fields -/

/-- The register at an address (its reset value where nothing is listed). -/
def State.reg (s : State) (a : Nat) : Word := Assoc.get regDefault s.regs a

/-- Store a register. -/
def State.setReg (s : State) (a : Nat) (v : Word) : State :=
  { s with regs := Assoc.set regDefault s.regs a v }

/-- A register as a number. -/
def State.regN (s : State) (a : Nat) : Nat := (s.reg a).toNat

/-- Store a number in a register. -/
def State.setRegN (s : State) (a v : Nat) : State := s.setReg a (BitVec.ofNat 32 v)

/-- The value of a field. -/
def State.fget (s : State) (f : Fld) : Nat := bitsOf (s.regN f.reg) f.lo f.w

/-- Store a field; the register's other bits stay. -/
def State.fset (s : State) (f : Fld) (v : Nat) : State :=
  s.setRegN f.reg (putBits (s.regN f.reg) f.lo f.w v)

/-- Is a field nonzero? -/
def State.fbit (s : State) (f : Fld) : Bool := s.fget f != 0

/-- The signed value of a field (R13). -/
def State.fsgn (s : State) (f : Fld) : Int := signed f.w (s.fget f)

/-- Store an integer in a field as two's complement. -/
def State.fsetI (s : State) (f : Fld) (v : Int) : State := s.fset f (unsigned f.w v)

/-- Add to a counter field that saturates at its largest value. -/
def State.addSat (s : State) (f : Fld) (n : Nat) : State :=
  s.fset f (min (2 ^ f.w - 1) (s.fget f + n))

/-- Advance a counter field that wraps. -/
def State.addWrap (s : State) (f : Fld) (n : Nat) : State :=
  s.fset f ((s.fget f + n) % 2 ^ f.w)

/-- Set bits of a field. -/
def State.forMask (s : State) (f : Fld) (m : Nat) : State :=
  s.fset f ((s.fget f).lor m)

/-- Bit `i` of a field. -/
def State.ftest (s : State) (f : Fld) (i : Nat) : Bool := (s.fget f).testBit i

/-- Set bit `i` of a field. -/
def State.fsetBit (s : State) (f : Fld) (i : Nat) : State := s.fset f (setBit (s.fget f) i)

/-- Clear bit `i` of a field. -/
def State.fclrBit (s : State) (f : Fld) (i : Nat) : State := s.fset f (clrBit (s.fget f) i)

/-- Does the register at an active offset read as poisoned (R293)? Only an RWP register (R175, R206, R227) or TMU_TRIM (R206) can. -/
def State.regBad (s : State) (a : Nat) : Bool := s.badRegs.contains a && (isRwp a || a == Reg.TMU_TRIM)

/-- Set several registers to one value. -/
def State.setRegs (s : State) (l : List (Nat × Nat)) : State :=
  l.foldl (fun t p => t.setRegN p.1 p.2) s

/-- Set several fields. -/
def State.fsetAll (s : State) (l : List (Fld × Nat)) : State :=
  l.foldl (fun t p => t.fset p.1 p.2) s

/-- Conditional effect. -/
def State.when (s : State) (c : Bool) (f : State → State) : State := if c then f s else s

/-- The outcome of every command: a next state. While VAON is below its threshold the device is held in power-on reset and nothing
happens (R353). -/
def State.run (s : State) (f : State → State) : Host.Outcome State Fault Refusal := .next (if s.pwr.aonOff then s else f s)

/-! Interrupts (R309) -/

/-- Set a cause of SYS_IRQ. -/
def State.raise (s : State) (f : Fld) : State := s.fset f 1

/-- Is HIRQ asserted: some enabled cause pending (R309)? -/
def State.hirq (s : State) : Bool :=
  s.fget F.SYS_IRQ_EN_EN &&& s.regN Reg.SYS_IRQ != 0

/-! Free values -/

/-- The next free value, and the state that has drawn it. -/
def State.draw (s : State) : Nat × State := (Config.freeValue s.free, { s with free := s.free + 1 })

/-- An integer that a signed format of `w` bits holds is itself; the spec states no result for one outside it, so that is a
free value. -/
def State.fitS (s : State) (w : Nat) (x : Int) : Int × State :=
  if -((2 : Int) ^ (w - 1)) ≤ x ∧ x < (2 : Int) ^ (w - 1) then (x, s) else (signed w s.draw.1, s.draw.2)

/-- The same for an unsigned format of `w` bits. -/
def State.fitU (s : State) (w : Nat) (x : Int) : Nat × State :=
  if 0 ≤ x ∧ x < (2 : Int) ^ w then (x.toNat, s) else (s.draw.1 % 2 ^ w, s.draw.2)

/-! The part (R1 to R3) -/

/-- Transducer ports present. -/
def State.ports (s : State) : Nat :=
  match s.part with | .tv812 => 12 | .tv808h => 8 | _ => 16

/-- Chords supported. -/
def State.chords (s : State) : Nat :=
  match s.part with | .tv812 => 6 | .tv808h => 4 | _ => 8

/-- SRAM banks present. -/
def State.banks (s : State) : Nat :=
  match s.part with | .tv808h => 8 | _ => 16

/-- Is the radio present? -/
def State.hasRadio (s : State) : Bool := s.part != .tv816w

/-- Is the keeper role permitted? -/
def State.hasKeeper (s : State) : Bool := s.part == .tv816 || s.part == .tv812

/-- Is the pressure bridge input present? -/
def State.hasPressure (s : State) : Bool := s.part != .tv808h

/-- Is the gas ledger present? -/
def State.hasGas (s : State) : Bool := s.part != .tv808h

/-- log2 of the keeper association limit. -/
def State.assocLog2 (s : State) : Nat :=
  match s.part with | .tv816 => 11 | .tv812 => 8 | _ => 0

/-- SYS_CAPS of the part (R3), assembled from its fields. -/
def State.sysCaps (s : State) : Nat :=
  s.ports + s.chords * 2 ^ 8 + b2n s.hasRadio * 2 ^ 12 + b2n s.hasKeeper * 2 ^ 13 + b2n s.hasPressure * 2 ^ 14 +
    b2n s.hasGas * 2 ^ 15 + s.banks * 2 ^ 16 + s.assocLog2 * 2 ^ 24

/-- SYS_ID of the part and its silicon step (R2). -/
def State.sysId (s : State) : Nat :=
  (match s.part with | .tv816 => 0x8160 | .tv812 => 0x8120 | .tv808h => 0x8084 | .tv816w => 0x8167) +
    s.step % 256 * 2 ^ 16

/-! Status codes (R15) -/

namespace Sts
abbrev DONE : Nat := 0x00
abbrev ACCEPTED : Nat := 0x01
abbrev OP_FULL : Nat := 0x02
abbrev BAD_CRC : Nat := 0x03
abbrev BAD_ADDR : Nat := 0x04
abbrev NOT_PRESENT : Nat := 0x05
abbrev LOCKED : Nat := 0x06
abbrev STALE_EPOCH : Nat := 0x07
abbrev DISCARDED : Nat := 0x08
abbrev CANCELLED : Nat := 0x09
abbrev TOO_LATE : Nat := 0x0A
abbrev POISON : Nat := 0x0B
abbrev DUPLICATE : Nat := 0x0C
abbrev REFUSED : Nat := 0x0D
end Sts

end Sys2Proof.Machine
end

