-- ==== Sys2Proof/Machine/Memory.lean ====
section
/-! DEFINITION. The memories (R312): one byte space of data and check symbols, the words read and written through the code of
R314 with its log, poison and flip mask, and the translation of retired rows and pages (R329, R330). Host addresses are the
keys of data bytes; check bytes and spares lie above every host address. -/

namespace Sys2Proof.Machine

/-! Layout -/

/-- Key of check symbol `i` of the word that holds data key `a`. -/
def checkKey (a i : Nat) : Nat := 0x1000000 + a / 16 * 4 + i

/-- Data key of byte `off` of spare row `u` of bank `b` (R329). -/
def spareRowKey (b u off : Nat) : Nat := 0x400000 + b * 0x1000 + u * 0x400 + off

/-- Data key of byte `off` of spare NVM page `i` (R330). -/
def sparePageKey (i off : Nat) : Nat := 0x440000 + i * 0x800 + off

/-- Key of byte i of canary `c` (0 A, 1 B) of memory b, 16 being the capture SRAM (R342). -/
def canaryKey (b c i : Nat) : Nat := 0x480000 + b * 32 + c * 16 + i

/-- The byte a canary is written with (R342): 0x5A XOR b, and its inverse. -/
def canaryByte (b c : Nat) : Nat := if c = 0 then Nat.xor 0x5A b else 255 - Nat.xor 0x5A b

/-- Is this data key in a flash memory, which reads 0xFF when erased? -/
def isNvmKey (a : Nat) : Bool :=
  (0x200000 ≤ a && a < 0x310000) || (0x440000 ≤ a && a < 0x460000)

/-- What a byte nothing has written reads as: erased flash reads 0xFF in data and check bytes (R315); SRAM reads zero words with
valid check bytes; the canaries stand as the entry into RETAIN writes them (R342, R355). -/
def memDefault (a : Nat) : Byte :=
  if 0x480000 ≤ a ∧ a < 0x480220 then BitVec.ofNat 8 (canaryByte ((a - 0x480000) / 32) ((a - 0x480000) / 16 % 2))
  else if 0x1000000 ≤ a then (if isNvmKey ((a - 0x1000000) / 4 * 16) then 0xFF else 0)
  else if isNvmKey a then 0xFF else 0

/-- One byte of the store. -/
def State.byte (s : State) (k : Nat) : Byte := Assoc.get memDefault s.mem k

/-- Write one byte of the store. -/
def State.setByte (s : State) (k : Nat) (v : Byte) : State :=
  { s with mem := Assoc.set memDefault s.mem k v }

/-! Regions -/

/-- The regions that have a policy and a flip-mask number (R317, R324): bank b, 16 capture SRAM, 17 slot A, 18 slot B,
19 ledger NVM; none outside the windows of R312. -/
def regionOf (a : Nat) : Option Nat :=
  if 0x100000 ≤ a ∧ a < 0x180000 then some ((a - 0x100000) / 0x8000)
  else if 0x180000 ≤ a ∧ a < 0x186000 then some 16
  else if 0x200000 ≤ a ∧ a < 0x280000 then some 17
  else if 0x280000 ≤ a ∧ a < 0x300000 then some 18
  else if 0x300000 ≤ a ∧ a < 0x310000 then some 19
  else none

/-- Is the decoder policy of a region C1D3 (R312, R317)? -/
def State.strict (s : State) (a : Nat) : Bool :=
  match regionOf a with
  | some 16 => false
  | some 17 => s.fbit F.MEM_POLICY_SLOTA
  | some 18 => s.fbit F.MEM_POLICY_SLOTB
  | some 19 => true
  | some b => b == 0 || s.ftest F.MEM_POLICY_BANK b
  | none => true

/-- Does a read of this region write corrected or poisoned words back (R318, R320)? -/
def writesBack (a : Nat) : Bool :=
  match regionOf a with
  | some r => r ≤ 16
  | none => false

/-- Spare row serving row `r` of bank `b` (R329). -/
def State.rowSpare (s : State) (b r : Nat) : Option Nat :=
  let w := s.regN (Reg.MEM_REMAP b)
  (List.range 4).find? fun u => bitAt w (8 * u + 5) && bitsOf w (8 * u) 5 == r

/-- Spare page serving NVM page `q` (R330): the newest entry of the retire list that names it. -/
def State.pageSpare (s : State) (q : Nat) : Option Nat :=
  (List.range 64).find? fun i =>
    s.fbit (F.MEM_NVLIST_VALID i) && s.fget (F.MEM_NVLIST_PAGE i) == q

/-- The data key that serves a host address, through retired rows and pages. -/
def State.phys (s : State) (a : Nat) : Nat :=
  if 0x100000 ≤ a ∧ a < 0x180000 then
    let b := (a - 0x100000) / 0x8000
    let r := (a - 0x100000) % 0x8000 / 0x400
    match s.rowSpare b r with
    | some u => spareRowKey b u (a % 0x400)
    | none => a
  else if 0x200000 ≤ a ∧ a < 0x300000 then
    match s.pageSpare ((a - 0x200000) / 0x800) with
    | some i => sparePageKey i (a % 0x800)
    | none => a
  else a

/-! Raw words -/

/-- Keys of the 20 symbols of the word whose first data key is `k`. -/
def symKeys (k : Nat) : List Nat :=
  (List.range 16).map (fun i => k + i) ++ (List.range 4).map (fun i => checkKey k i)

/-- The 20 symbols stored at data key `k` (a multiple of 16). -/
def State.symsAt (s : State) (k : Nat) : List Nat := (symKeys k).map fun a => (s.byte a).toNat

/-- Store 20 symbols at data key `k`. -/
def State.setSymsAt (s : State) (k : Nat) (c : List Nat) : State :=
  ((symKeys k).zip c).foldl (fun t p => t.setByte p.1 (BitVec.ofNat 8 p.2)) s

/-- The flip mask as 20 symbols (R324). -/
def State.flipMask (s : State) : List Nat :=
  (leBytes 20 ((List.range 5).foldl (fun v i => v + s.regN (Reg.MEM_FLIP i) * 2 ^ (32 * i)) 0)).map (·.toNat)

/-- Store a codeword at host address `a`; an armed flip mask of the region spoils it and is used up (R324). -/
def State.storeWord (s : State) (a : Nat) (c : List Nat) : State :=
  let w := a / 16 * 16
  let armed := s.fbit F.MEM_FLIP_CTL_ARM && regionOf a == some (s.fget F.MEM_FLIP_CTL_REGION)
  if armed then
    let s := s.setSymsAt (s.phys w) (c.zipWith Nat.xor s.flipMask)
    let s := (List.range 5).foldl (fun t i => t.setRegN (Reg.MEM_FLIP i) 0) s
    let s := s.fset F.MEM_FLIP_CTL_ARM 0
    let s := s.fset F.MEM_EVT_FLIP_DONE 1
    s.fset F.MEM_FLIP_CTL_ADDR w
  else s.setSymsAt (s.phys w) c

/-! The ECC log (R327) -/

/-- Log classes (R327). -/
abbrev clsCE1 : Nat := 1
abbrev clsCE2 : Nat := 2
abbrev clsUE : Nat := 3
abbrev clsVERIFY : Nat := 4

/-- Log sources (R327). -/
inductive Src where
  | host | device | scrubber | merge | nvmProgram | copy
  deriving DecidableEq, Repr

/-- The code of a log source (R327). -/
def Src.code : Src → Nat
  | .host => 0 | .device => 1 | .scrubber => 2 | .merge => 3 | .nvmProgram => 4 | .copy => 5

/-- Write an event to the log: a repeat of the newest entry counts up, a full ring replaces the oldest (R327). -/
def State.logEvent (s : State) (addr cls : Nat) (src : Src) (strict : Bool) (sym0 sym1 : Nat) : State :=
  let info := cls + b2n strict * 8 + src.code * 16 + sym0 * 2 ^ 16 + sym1 * 2 ^ 24
  let rot := s.regN Reg.ROT_NUM
  match s.memu.log with
  | e :: t =>
    if e.addr = addr ∧ e.info % 8 = cls ∧ e.info / 16 % 8 = src.code then
      { s with memu := { s.memu with log := { e with count := min 255 (e.count + 1), rot := rot } :: t } }
    else
      let s' := { s with memu := { s.memu with
        log := ({ addr := addr, count := 1, info := info, rot := rot } :: e :: t).take 32,
        logNext := (s.memu.logNext + 1) % 32 } }
      if (e :: t).length ≥ 32 then s'.fset F.MEM_EVT_LOG_OVF 1 else s'
  | [] => { s with memu := { s.memu with
      log := [{ addr := addr, count := 1, info := info, rot := rot }], logNext := (s.memu.logNext + 1) % 32 } }

/-- A correctable error was found (R318). -/
def State.foundCE (s : State) (addr cls : Nat) (src : Src) (strict : Bool) (sym0 sym1 : Nat) : State :=
  ((((s.logEvent addr cls src strict sym0 sym1).addSat F.MEM_ECC_CNT_CE 1).fset F.MEM_EVT_CE 1).raise F.SYS_IRQ_ECC_CE)

/-- A fresh uncorrectable error was found (R320). -/
def State.foundUE (s : State) (addr : Nat) (src : Src) (strict : Bool) : State :=
  ((((s.logEvent addr clsUE src strict 0 0).addSat F.MEM_ECC_CNT_UE 1).fset F.MEM_EVT_UE 1).raise F.SYS_IRQ_ECC_UE)

/-- Poison was consumed by a block that R322 marks "yes". -/
def State.consumed (s : State) : State := (s.fset F.MEM_EVT_CONSUMED 1).raise F.SYS_IRQ_ECC_UE

/-! Words through the code -/

/-- What a word read delivers: 16 data bytes, the poison mark and what the decoder found. -/
structure WordRead where
  data : List Nat
  poison : Bool
  found : Ecc.Result
  deriving DecidableEq, Repr

/-- Decode the word that holds host address `a` under its policy and report what is found (R318, R320). -/
def State.findWord (s : State) (a : Nat) (src : Src) : WordRead × State :=
  let w := a / 16 * 16
  let strict := s.strict w
  let d := Ecc.decode strict (s.symsAt (s.phys w))
  let data := d.2.take 16
  match d.1 with
  | .clean => (⟨data, false, .clean⟩, s)
  | .erased => (⟨data, false, .erased⟩, s)
  | .poisoned => (⟨data, true, .poisoned⟩, s)
  | .ce1 i => (⟨data, false, .ce1 i⟩, s.foundCE w clsCE1 src strict i 0)
  | .ce2 i j => (⟨data, false, .ce2 i j⟩, s.foundCE w clsCE2 src strict i j)
  | .ue => (⟨data, true, .ue⟩, s.foundUE w src strict)

/-- Read the word that holds host address `a`: in SRAM and capture SRAM a corrected word is written back (R318) and a fresh
uncorrectable one is marked as poison in place (R320). -/
def State.readWord (s : State) (a : Nat) (src : Src) : WordRead × State :=
  let w := a / 16 * 16
  let r := s.findWord a src
  let back := fun (c : List Nat) => if writesBack w then (r.1, r.2.storeWord w c) else r
  match r.1.found with
  | .ce1 _ => back (Ecc.encode r.1.data)
  | .ce2 _ _ => back (Ecc.encode r.1.data)
  | .ue => back (Ecc.encodePoison r.1.data)
  | _ => r

/-- Write a full word of new data: a clean word, which ends poison (R321). -/
def State.writeWord (s : State) (a : Nat) (d : List Nat) : State := s.storeWord a (Ecc.encode d)

/-- Write a full word of poisoned data (R321). -/
def State.writePoison (s : State) (a : Nat) (d : List Nat) : State := s.storeWord a (Ecc.encodePoison d)

/-- Replace bytes of a word's data from `off` on. -/
def overlay (d : List Nat) (off : Nat) (bs : List Byte) : List Nat :=
  d.take off ++ bs.map (·.toNat) ++ d.drop (off + bs.length)

/-- A write into part of a word: read, merge, and one write of the merged word (R323, R324). `poisoned` says that the new bytes carry the mark (R321). -/
def State.mergeWrite (s : State) (a : Nat) (bs : List Byte) (poisoned : Bool) : State :=
  let r := s.findWord a .merge
  let d := overlay r.1.data (a % 16) bs
  if r.1.poison || poisoned then r.2.writePoison a d else r.2.writeWord a d

/-- Write bytes at a host address, word by word: full words are written new, others merged (R321, R323). The fuel is the number
of bytes left. -/
def State.writeSpan (s : State) (a : Nat) (bs : List Byte) : Nat → State
  | 0 => s
  | n + 1 =>
    if bs.isEmpty then s else
    let k := 16 - a % 16
    let now := bs.take k
    let s' := if now.length = 16 then s.writeWord a (now.map (·.toNat)) else s.mergeWrite a now false
    s'.writeSpan (a + k) (bs.drop k) n

/-- Write bytes at a host address. -/
def State.writeBytes (s : State) (a : Nat) (bs : List Byte) : State := s.writeSpan a bs bs.length

/-- Read `n` bytes from a host address, word by word: each byte with its poison mark. -/
def State.readSpan (s : State) (a n : Nat) (src : Src) : Nat → List (Byte × Bool) × State
  | 0 => ([], s)
  | fuel + 1 =>
    if n = 0 then ([], s) else
    let k := min n (16 - a % 16)
    let r := s.readWord a src
    let now := ((r.1.data.drop (a % 16)).take k).map fun x => (BitVec.ofNat 8 x, r.1.poison)
    let rest := r.2.readSpan (a + k) (n - k) src fuel
    (now ++ rest.1, rest.2)

/-- Read bytes from a host address with their poison marks. -/
def State.readMarked (s : State) (a n : Nat) (src : Src) : List (Byte × Bool) × State :=
  s.readSpan a n src n

/-- Read bytes from a host address: the bytes, whether any is poisoned, and the state after. -/
def State.readBytes (s : State) (a n : Nat) (src : Src) : List Byte × Bool × State :=
  let r := s.readMarked a n src
  (r.1.map (·.1), r.1.any (·.2), r.2)

/-- Copy one word, the poison with it (R321); `src` and `dst` are host addresses of words. -/
def State.copyWord (s : State) (src dst : Nat) : State :=
  let r := s.readWord src .copy
  if r.1.poison then r.2.writePoison dst r.1.data else r.2.writeWord dst r.1.data

/-- Copy `n` words upwards. -/
def State.copyWords (s : State) (src dst : Nat) : Nat → State
  | 0 => s
  | n + 1 => (s.copyWord src dst).copyWords (src + 16) (dst + 16) n

/-- Fill `n` words from data key `k` with zero words with valid check bytes (R336, R342). -/
def State.zeroKeys (s : State) (lo hi : Nat) : State :=
  { s with mem := s.mem.filter fun c =>
      !((lo ≤ c.1 && c.1 < hi) || (checkKey lo 0 ≤ c.1 && c.1 < checkKey hi 0)) }

/-- Fill an SRAM bank, spares included, with zero words with valid check bytes. -/
def State.zeroBank (s : State) (b : Nat) : State :=
  (s.zeroKeys (0x100000 + b * 0x8000) (0x100000 + (b + 1) * 0x8000)).zeroKeys (spareRowKey b 0 0) (spareRowKey (b + 1) 0 0)

/-- Fill the capture SRAM with zero words. -/
def State.zeroCapture (s : State) : State := s.zeroKeys 0x180000 0x186000

/-- Erase the flash bytes from data key `lo` up to `hi`: data and check bytes 0xFF. -/
def State.eraseKeys (s : State) (lo hi : Nat) : State := s.zeroKeys lo hi

/-- Erase the 2 KB NVM page that serves host address `a`. -/
def State.erasePage (s : State) (a : Nat) : State :=
  let k := s.phys (a / 0x800 * 0x800)
  s.eraseKeys k (k + 0x800)

end Sys2Proof.Machine
end

