-- ==== Sys2Proof/Machine/PowerBase.lean ====
section
/-! DEFINITION. Power domains (R334 to R341): their numbers and needs, the states, the start of a wake, the entry into a rest
state, and the queue of supply-link transactions (R347 to R350). -/

namespace Sys2Proof.Machine

/-! Domain numbers (R334) -/

abbrev domAON : Nat := 0
abbrev domBKP : Nat := 1
abbrev domCORE : Nat := 2
abbrev domCAPT : Nat := 3
abbrev domAFE : Nat := 4
abbrev domTIU : Nat := 5
abbrev domECH : Nat := 6
abbrev domLDG : Nat := 7
abbrev domTMU : Nat := 8
abbrev domRADIO : Nat := 9
abbrev domNVM : Nat := 10
/-- The domain of SRAM bank b. -/
abbrev domMEM (b : Nat) : Nat := 11 + b

abbrev pwOFF : Nat := 0
abbrev pwRETAIN : Nat := 1
abbrev pwON : Nat := 2
abbrev pwTRANS : Nat := 3

/-- Does the domain work only at the run level (R334)? -/
def needsRun (k : Nat) : Bool := k == domCORE || k == domRADIO

/-- Does the domain need the 26 MHz crystal (R334)? -/
def needsXo (k : Nat) : Bool := k == domCORE || k == domAFE || k == domTIU || k == domECH || k == domTMU || k == domRADIO

/-- Has the domain a memory stage (R334)? -/
def hasMemStage (k : Nat) : Bool :=
  k == domCORE || k == domCAPT || k == domECH || k == domLDG || k == domTMU || k == domNVM || 11 ≤ k

/-- The longest time of a wake in µs, VCORE at the run level and the crystal running (R334). -/
def wakeUs (k : Nat) : Nat :=
  if k = domCORE then 350 else if k = domAFE then 60 else if k = domTIU then 25 else if k = domRADIO then 180 else 12

/-- Is the domain present on this part (R1)? -/
def State.domPresent (s : State) (k : Nat) : Bool :=
  k < 27 && (k < 11 || k - 11 < s.banks) && (k != domRADIO || s.hasRadio)

/-- The state of a domain, from PWR_STATE0 and PWR_STATE1. -/
def State.dom (s : State) (k : Nat) : Nat :=
  if k < 16 then bitsOf (s.regN Reg.PWR_STATE0) (2 * k) 2 else bitsOf (s.regN Reg.PWR_STATE1) (2 * (k - 16)) 2

/-- Set the state of a domain. The TIU ring is locked exactly while the TIU comes ON; leaving ON is no loss of lock (R126). -/
def State.setDom (s : State) (k v : Nat) : State :=
  let f : Fld := if k < 16 then ⟨Reg.PWR_STATE0, 2 * k, 2⟩ else ⟨Reg.PWR_STATE1, 2 * (k - 16), 2⟩
  let s := s.fset f v
  if k = domTIU then s.fset F.TIU_STATUS_LOCK (b2n (v == pwON)) else s

/-- Is a domain ON? -/
def State.isOn (s : State) (k : Nat) : Bool := s.dom k == pwON

/-- Does the crystal have a reason to run: CORE ON, waking, or in an entry whose E4 is not sent and which a wake still abandons, or a
domain that needs it ON (R337, R341)? -/
def State.xoWanted (s : State) : Bool :=
  s.isOn domCORE || s.pwr.wakes.any (fun w => w.dom == domCORE) || s.pwr.linkQ.any (fun t => t.why == SlinkWhy.entry) ||
    (List.range 27).any fun k => needsXo k && s.isOn k

/-- The crystal stops when nothing wants it (R337). -/
def State.settleXo (s : State) : State :=
  if s.pwr.xo && !s.xoWanted then { s with pwr := { s.pwr with xo := false } } else s

/-! The supply link (R347, R349, R350) -/

/-- Priority of a waiting transaction (R350). -/
def SlinkWhy.prio : SlinkWhy → Nat
  | .wake _ => 1
  | .entry => 2
  | .op _ => 3
  | .vdrv => 3
  | .gone => 3

/-- The first waiting transaction of the highest priority, and the rest. -/
def pickLink (q : List Slink) : Option (Slink × List Slink) :=
  match [1, 2, 3].findSome? (fun p => q.find? (fun t => t.why.prio == p)) with
  | some t => some (t, q.erase t)
  | none => none

/-- Start the next waiting transaction when the link is free: SEQ advances with each transaction (R349). -/
def State.startLink (s : State) : State :=
  match s.pwr.link with
  | some _ => s
  | none =>
    match pickLink s.pwr.linkQ with
    | none => s
    | some (t, q) =>
      let seq := s.pwr.linkSeq
      let prev := s.regN Reg.PWR_SLINK_ST
      let s := { s with pwr := { s.pwr with
        link := some t, linkQ := q, linkSeq := (seq + 1) % 16, linkTries := 0, linkLower := 0, linkPrev := prev } }
      let s := if t.why = SlinkWhy.entry then s.settleXo else s
      s.fsetAll [(F.PWR_SLINK_ST_SEQ, seq), (F.PWR_SLINK_ST_BUSY, 1), (F.PWR_SLINK_ST_ATTEMPTS, 0), (F.PWR_SLINK_ST_CMD, t.cmd)]

/-- Queue a transaction and start it when the link is free; a drive-rail request is not yet acknowledged (AFE_STATUS.VDRV_OK). -/
def State.queueLink (s : State) (t : Slink) : State :=
  let s := if t.cmd = 2 then s.fset F.AFE_STATUS_VDRV_OK 0 else s
  ({ s with pwr := { s.pwr with linkQ := s.pwr.linkQ ++ [t] } }).startLink

/-- The rest level as used: values outside 80 to 100 are the nearer limit (PWR_VCORE.REST). -/
def State.restLevel (s : State) : Nat := min 100 (max 80 (s.fget F.PWR_VCORE_REST))

/-- Is VCORE at the run level? -/
def State.atRun (s : State) : Bool := s.fget F.PWR_VCORE_ACT == s.fget F.PWR_VCORE_RUN

/-! Wakes (R338, R339) -/

/-- Is the rest-level request of a CORE entry under way or waiting (R341)? -/
def State.entryRuns (s : State) : Bool :=
  s.pwr.entryStep == 4

/-- The wake of a domain. -/
def State.wakeOfDom (s : State) (k : Nat) : Option Wake := s.pwr.wakes.find? fun w => w.dom == k

/-- Does a wake of domain k leave stages 1 and 2 to a wake of CORE in progress (R339)? -/
def State.followsCore (s : State) (k : Nat) : Bool :=
  k != domCORE && (needsRun k || needsXo k) && (match s.wakeOfDom domCORE with | some w => w.stage ≤ 2 | none => false)

/-- Has stage n of a wake of domain k something to do (R338)? -/
def State.stageWork (s : State) (k n : Nat) : Bool :=
  match n with
  | 1 => needsRun k && (!s.atRun || (k == domCORE && s.entryRuns)) && !s.followsCore k
  | 2 => needsXo k && !s.pwr.xo && !s.followsCore k
  | 3 => hasMemStage k
  | _ => true

/-- The first stage from n on with something to do. -/
def State.stageFrom (s : State) (k n : Nat) : Nat :=
  ([n, n + 1, n + 2, n + 3].find? fun m => m ≥ 4 || s.stageWork k m).getD 4

/-- Begin stage n, or the first after it with something to do, of the wake of domain k: stage 1 queues its request, stage 2 starts the
crystal (R338). -/
def State.beginStage (s : State) (k n : Nat) (off : Bool) : State :=
  let n := s.stageFrom k n
  let waited := n == 1 && s.pwr.link.isSome
  let traced := s.fget F.PWR_WAKE_TRACE_DOMAIN == k
  let s := { s with pwr := { s.pwr with
    wakes := (s.pwr.wakes.filter fun w => w.dom != k) ++ [⟨k, n, off⟩] } }
  if n = 1 then
    let s := s.when traced fun s => s.fsetAll [(F.PWR_WAKE_TRACE_REG, 1), (F.PWR_WAKE_TRACE_WAITED, b2n waited)]
    s.queueLink ⟨.wake k, 1, s.fget F.PWR_VCORE_RUN⟩
  else if n = 2 then s.when traced fun s => s.fset F.PWR_WAKE_TRACE_OSC 1
  else s

/-- Start the wake of a domain that is not ON and not waking. -/
def State.startWake (s : State) (k : Nat) : State :=
  if s.isOn k || (s.wakeOfDom k).isSome || !s.domPresent k then s
  else
    let off := s.dom k == pwOFF
    let s := s.setDom k pwTRANS
    let s := s.setRegs [(Reg.PWR_WAKE_TRACE, k), (Reg.PWR_WAKE_T0, 0), (Reg.PWR_WAKE_T1, 0)]
    s.beginStage k 1 off

/-- A wake event for CORE while its entry waits for the E4 transaction abandons the entry: CORE is ON again, no transaction and
no check (R341). Once the transaction is under way a full wake follows it. -/
def State.wakeCore (s : State) : State :=
  if s.pwr.entryStep = 4 ∧ s.pwr.linkQ.any (fun t => t.why == SlinkWhy.entry) then
    let s := { s with pwr := { s.pwr with entryStep := 0, linkQ := s.pwr.linkQ.filter fun t => t.why != SlinkWhy.entry } }
    ((s.setDom domCORE pwON).setDom (domMEM 0) pwON).setRegN Reg.PWR_WAKE_TRACE (domCORE + 4 * 32)
  else s.startWake domCORE

/-- The step E1 to E3 of the entries that began at the last facet end, at t ns after the mark; none after them (R341). -/
def State.entryStepAt (s : State) (t : Nat) : Option Nat :=
  let e := s.pwr.enteredLft * lftUnits
  if 64 * t < e then none else if 64 * t < e + 64000 then some 1 else if 64 * t < e + 384000 then some 2
  else if 64 * t < e + 448000 then some 3 else none

/-- Take back the request of an entry that was never sent (R341). -/
def State.unsendEntry (s : State) : State :=
  let p := s.pwr
  let sent := match p.link with | some t => t.why == SlinkWhy.entry | none => false
  let s := { s with pwr := { p with
    entryStep := 0, xo := true, linkQ := p.linkQ.filter fun t => t.why != SlinkWhy.entry,
    link := if sent then none else p.link, linkSeq := if sent then (p.linkSeq + 15) % 16 else p.linkSeq } }
  if sent then (s.setRegN Reg.PWR_SLINK_ST p.linkPrev).startLink else s

/-- A wake event for domain k during step n of its entry abandons the entry: the domain is ON, without transaction or check (R341). -/
def State.abandonRest (s : State) (n k : Nat) : State :=
  let s := if k = domCORE then (s.unsendEntry).setDom (domMEM 0) pwON else s
  let s := { s with pwr := { s.pwr with entered := s.pwr.entered.erase k } }
  (s.setDom k pwON).setRegN Reg.PWR_WAKE_TRACE (k + n * 32)

/-- A wake event for several domains abandons their entries that are in step n, if any (R341). -/
def State.abandonIn (s : State) (step : Option Nat) (l : List Nat) : State :=
  step.elim s fun n => (l.filter fun k => s.pwr.entered.contains k).foldl (fun u k => u.abandonRest n k) s

/-- A wake event at t ns after the mark. -/
def State.abandonRests (s : State) (t : Nat) (l : List Nat) : State := s.abandonIn (s.entryStepAt t) l

/-- The step of the entries for a wake event whose instant is given to the LFT: an event in the LFT that an entry began in is taken to
arrive in E1 of it (DESIGN CHOICE, log 161). -/
def State.entryStepNow (s : State) : Option Nat := if s.rot.lft = s.pwr.enteredLft then some 1 else none

/-- The entry of a domain begins now (R341). -/
def State.noteEntry (s : State) (k : Nat) : State :=
  { s with pwr := { s.pwr with
    entered := k :: (if s.pwr.enteredLft = s.rot.lft then s.pwr.entered else []), enteredLft := s.rot.lft } }

/-- Request a wake of a domain (R338); RADIO wakes CORE with it (R339). -/
def State.requestWake (s : State) (k : Nat) : State :=
  if k = domCORE then s.wakeCore
  else if k = domRADIO then (if s.isOn domRADIO then s else (s.wakeCore).startWake domRADIO)
  else s.startWake k

/-- Request several wakes. -/
def State.requestWakes (s : State) (l : List Nat) : State := l.foldl State.requestWake s

/-- A wake event for several domains now: entries in their first steps are abandoned, the rest wakes (R338, R341). RADIO brings CORE
(R339). -/
def State.wakeEvent (s : State) (l : List Nat) : State :=
  let l := if l.contains domRADIO && !s.isOn domRADIO then domCORE :: l else l
  (s.abandonIn s.entryStepNow l).requestWakes l

/-! Entry into a rest state (R336, R341, R342) -/

/-- Write both canaries of memory b (E3, R342). -/
def State.writeCanaries (s : State) (b : Nat) : State :=
  (List.range 32).foldl (fun t i => t.setByte (canaryKey b (i / 16) (i % 16)) (BitVec.ofNat 8 (canaryByte b (i / 16)))) s

/-- Do both canaries of memory b read back exactly? -/
def State.canariesOk (s : State) (b : Nat) : Bool :=
  (List.range 32).all fun i => (s.byte (canaryKey b (i / 16) (i % 16))).toNat == canaryByte b (i / 16)

/-- The memory number of a domain that has a retention check: banks 0 to 15 and 16 for the capture SRAM (R342). -/
def checkedMem (k : Nat) : Option Nat :=
  if k = domCAPT then some 16 else if 11 ≤ k ∧ k < 27 then some (k - 11) else none

/-- Is a domain held ON by the host or by the device (R336)? -/
def State.held (s : State) (k : Nat) : Bool := s.ftest F.PWR_HOLD_HOLD k || s.pwr.devHold.testBit k

/-- Is the domain's rest state OFF (PWR_REST)? -/
def State.restsOff (s : State) (k : Nat) : Bool := s.ftest F.PWR_REST_OFF k

/-- Set or clear a domain's rest state OFF. -/
def State.setRest (s : State) (k : Nat) (off : Bool) : State :=
  if off then s.fsetBit F.PWR_REST_OFF k else s.fclrBit F.PWR_REST_OFF k

/-- Enter RETAIN by E1 to E3: the canaries of a memory are written (R341, R342). -/
def State.enterRetain (s : State) (k : Nat) : State :=
  let s := s.setDom k pwRETAIN
  let s := match checkedMem k with
    | some b => s.writeCanaries b
    | none => s
  s.settleXo

/-- The working state of a logic domain is lost: what it holds outside its registers and the results they show (R335, R353). -/
def State.loseWork (s : State) (k : Nat) : State :=
  if k = domAFE then { s with afe := { s.afe with ports := List.replicate 16 .park, shot := none } }
  else if k = domTIU then { s with tiu := { s.tiu with ev := s.tiu.ev.map fun c => { c with last := none, prevOut := none, wait := [] } } }
  else if k = domECH then { s with ech := { s.ech with chords := List.replicate 8 {} } }
  else if k = domTMU then { s with tmu := { s.tmu with conv := none } }
  else if k = domRADIO then { s with rad := { s.rad with job := none, wait := none, busy := 0, scan := none, rx := none } }
  else s

/-- Remove power: content and working state are lost, and an SRAM bank or the capture SRAM reads zero words when it comes back
(R335, R336); a memory that was OFF is not checked (R342). -/
def State.enterOff (s : State) (k : Nat) : State :=
  let s := s.setDom k pwOFF
  let s := match checkedMem k with
    | some b =>
      let s := { s with pwr := { s.pwr with tripped := clrBit s.pwr.tripped b } }
      if b = 16 then s.zeroCapture else s.zeroBank b
    | none => s.loseWork k
  s.settleXo

/-- CORE enters RETAIN with `MEM0`, which holds its state; with RADIO not ON the rest level is requested as E4, and the entry is complete
when that transaction ends (R337, R341). -/
def State.restCore (s : State) : State :=
  let s := if s.held (domMEM 0) || !s.isOn (domMEM 0) then s else s.enterRetain (domMEM 0)
  if s.isOn domRADIO then s.enterRetain domCORE
  else
    let s := s.setDom domCORE pwTRANS
    let s := { s with pwr := { s.pwr with entryStep := 4 } }
    (s.queueLink ⟨.entry, 1, s.restLevel⟩).settleXo

/-- Return a domain that is ON and not held to its rest state (R336). -/
def State.restDom (s : State) (k : Nat) : State :=
  if !s.isOn k || s.held k then s
  else if k = domCORE then s.restCore
  else if k = domNVM || s.restsOff k then s.enterOff k
  else s.enterRetain k

/-- Return several domains to rest. -/
def State.restDoms (s : State) (l : List Nat) : State := l.foldl State.restDom s

end Sys2Proof.Machine
end

