-- ==== Sys2Proof/Machine/Afe.lean ====
section
/-! DEFINITION. The acoustic front end (R95 to R123): codes and groups, frequency words, windows, capture slots, firing, the
end of a capture with its gain control, and the port census. -/

namespace Sys2Proof.Machine

/-! The image's chords -/

/-- The chords of the active image. -/
def State.chordCfgs (s : State) : List ChordCfg :=
  match s.image with
  | some i => i.chords
  | none => []

/-- The entry of a chord of the active image. -/
def State.chordCfg (s : State) (c : Nat) : Option ChordCfg := s.chordCfgs.find? (fun x => x.chord == c)

/-- Mask of the chords the active image defines. -/
def State.chordMask (s : State) : Nat := maskOf (s.chordCfgs.map (·.chord))

/-- Mask of the host chord set (R105). -/
def State.hostChords (s : State) : Nat := maskOf ((s.chordCfgs.filter fun x => x.host % 2 == 1).map (·.chord))

/-! Codes (R102, R104, R106) -/

/-- The ROM codes 0 to 7 (R104). -/
def romCodes : List Nat := [0x1D4B, 0x27E1, 0x4C7A, 0x5B06, 0x6915, 0x72CC, 0x8E39, 0xB4D2]

/-- The chip word of a code: ROM 0 to 7, image codes 8 to 15 (R104). -/
def chipWord (codes : List Nat) (c : Nat) : Nat := if c < 8 then romCodes.getD c 0 else codes.getD (c - 8) 0

/-- Chip b of a word as +1 or −1 (R106). -/
def chip (w b : Nat) : Int := if w.testBit b then -1 else 1

/-- The aperiodic correlation c(a, b, τ) over chips (R106). -/
def chipCorr (a b : Nat) (τ : Int) : Int :=
  ((List.range 16).map fun (i : Nat) =>
    let j := (i : Int) + τ
    if 0 ≤ j ∧ j ≤ 15 then chip a i * chip b j.toNat else 0).sum

/-- The largest autocorrelation sidelobe (R106). -/
def sidelobe (a : Nat) : Nat :=
  ((List.range 15).map fun (t : Nat) => (chipCorr a a ((t : Int) + 1)).natAbs).foldl max 0

/-- The largest cross-correlation (R106). -/
def crossCorr (a b : Nat) : Nat :=
  ((List.range 31).map fun (t : Nat) => (chipCorr a b ((t : Int) - 15)).natAbs).foldl max 0

/-- The code numbers a chord sends. -/
def chordCodes (c : ChordCfg) : List Nat := if c.codeA = c.codeB then [c.codeA] else [c.codeA, c.codeB]

/-- Do the chords of a firing group keep the rules of R106? -/
def groupOk (codes : List Nat) (g : List ChordCfg) : Bool :=
  let coded := g.filter fun c => c.burst == 0
  let sent := (coded.map chordCodes).flatten
  let chirpAlone := g.length ≤ 1 || g.all fun c => c.burst == 0
  let oneFreq := coded.all fun c => coded.all fun d => c.freq == d.freq
  let shared := sent.eraseDups.length == sent.length
  let shape := sent.all fun c => c < 8 || sidelobe (chipWord codes c) ≤ 4
  let pairs := sent.all fun c => c < 8 ||
    sent.all fun d => d == c || crossCorr (chipWord codes c) (chipWord codes d) ≤ 6
  chirpAlone && oneFreq && shared && shape && pairs

/-! The oscillator and the window (R101, R103, R109, R114 to R116) -/

/-- The frequency word of a frequency in Hz (R101). -/
def freqWord (f : Nat) : Nat := roundNat (f * 2 ^ 32) 208000000

/-- The highest frequency a chord sends, times 200 (R103): a chirp's upper bound, at most 4 MHz. -/
def highFreq200 (c : ChordCfg) (span : Nat) : Nat :=
  if c.burst = 0 then c.freq * 200 else min (4000000 * 200) (c.freq * (200 + min span 50))

/-- The effective decimation: the largest d up to DECIM with four samples per period (R109). -/
def effDecim (high200 decim : Nat) : Nat :=
  ((List.range (decim + 1)).filter fun d => d == 0 || high200 * 2 ^ d ≤ 4000000 * 200).foldl max 0

/-- `h` half periods of f_act in ns as a fraction (R101). -/
def halfPeriods (cfg : ChordCfg) (h : Nat) : Nat × Nat := (h * 2 ^ 32 * 1000, 2 * max 1 (freqWord cfg.freq) * 208)

/-- The receive-ready instant t_rr in ns as a fraction (R103, R114): cycles per chip `c`, damping half periods `damp`; a chirp lasts as
long as a coded burst of the chord. -/
def recvReady (cfg : ChordCfg) (c damp : Nat) : Nat × Nat :=
  let r := halfPeriods cfg (32 * c + damp)
  (r.1 + 2000 * r.2, r.2)

/-- Window length Lw in ns (R109). -/
def windowNs (d : Nat) : Nat := 32000 * 2 ^ d

/-- Cycles per chip C (R102). -/
def State.chipCyc (s : State) : Nat := s.fget F.AFE_BURST_CHIP_CYC + 1

/-- t_rr of a chord under the active values. -/
def State.tRR (s : State) (c : ChordCfg) : Nat × Nat := recvReady c s.chipCyc (s.fget F.AFE_BURST_DAMP)

/-- The effective decimation of a chord under the active values. -/
def State.decimOf (s : State) (c : ChordCfg) : Nat :=
  effDecim (highFreq200 c (s.fget (F.AFE_TX_CHIRP_SPAN c.chord))) c.decim

/-- open_max of a chord in ns: budget less the window (R115). -/
def State.openMax (s : State) (c : ChordCfg) : Int :=
  (s.fget (F.AFE_SPAN_BUDGET c.chord) * 1000 : Int) - windowNs (s.decimOf c)

/-- Is t_rr above open_max, so that the chord is not driven (R117)? -/
def State.spanClipped (s : State) (c : ChordCfg) : Bool :=
  let r := s.tRR c
  decide (s.openMax c * r.2 < r.1)

/-- The window open in units of 62.5 ns (R115). -/
def State.windowOpen (s : State) (c : ChordCfg) : Nat :=
  let n := c.chord
  let t : Int := (s.fget (F.AFE_TEXP_TEXP n) * 100 : Int) - s.fget (F.AFE_WIN2_PRE n) * 100
  let t := min (min (max t (s.fget (F.AFE_WIN_TMIN n) * 100 : Int)) (s.fget (F.AFE_WIN_TMAX n) * 100 : Int)) (s.openMax c)
  let r := s.tRR c
  let p := 2 ^ s.decimOf c
  -- ceil(t / q) with q = 2^d × 62.5 ns = 2^d × 125 / 2 ns, for both candidates of the maximum
  let k1 := ceilDiv (2 * t.toNat) (125 * p)
  let k2 := ceilDiv (2 * r.1) (125 * p * r.2)
  max k1 k2 * p

/-- The capture span of a chord in µs at given window values: max(TMAX, t_rr) + Lw rounded up (R116). -/
def spanUs (tmax : Nat) (rr : Nat × Nat) (d : Nat) : Nat :=
  max (ceilDiv (tmax * 100 + windowNs d) 1000) (ceilDiv (rr.1 + windowNs d * rr.2) (1000 * rr.2))

/-! Slots (R118 to R121) -/

/-- First byte of capture slot k (R118). -/
def slotAddr (k : Nat) : Nat := 0x180000 + 0x600 * k

abbrev slotFREE : Nat := 0
abbrev slotCAPTURING : Nat := 1
abbrev slotFULL : Nat := 2

/-- Set the state of a slot, in its descriptor and in AFE_SLOT_MAP. -/
def State.setSlot (s : State) (k st : Nat) : State :=
  let s := s.fset (F.AFE_SLOT_CTL_STATE k) st
  if st = slotFREE then s.fclrBit F.AFE_SLOT_MAP_BUSY k else s.fsetBit F.AFE_SLOT_MAP_BUSY k

/-- The state of a slot. -/
def State.slotState (s : State) (k : Nat) : Nat := s.fget (F.AFE_SLOT_CTL_STATE k)

/-- Release a FULL slot; any other state is left (R121). -/
def State.releaseSlot (s : State) (k : Nat) : State :=
  if s.slotState k = slotFULL then s.setSlot k slotFREE else s

/-- Every slot becomes FREE (R38, R343). -/
def State.freeAllSlots (s : State) : State := (List.range 16).foldl (fun t k => t.setSlot k slotFREE) s

/-- The lowest free slots. -/
def State.freeSlots (s : State) : List Nat := (List.range 16).filter fun k => s.slotState k == slotFREE

/-! Firing (R100, R113, R117, R119, R120) -/

/-- Allocate a slot at T0: a FULL one is overrun; the descriptor is cleared and its fixed fields written (R120). -/
def State.allocSlot (s : State) (c : ChordCfg) (k : Nat) (host : Bool) (tag : Nat) : State :=
  let ovr := s.slotState k == slotFULL
  let s := s.when ovr fun s => s.addSat F.AFE_OVR_CNT_OVERRUN 1
  let s := s.setRegs [(Reg.AFE_SLOT_CTL k, 0), (Reg.AFE_SLOT_WIN k, 0), (Reg.AFE_SLOT_RXA k, 0),
    (Reg.AFE_SLOT_RXB k, 0), (Reg.AFE_SLOT_ROT k, s.regN Reg.ROT_NUM)]
  let s := s.fsetAll [(F.AFE_SLOT_CTL_OVERRUN k, b2n ovr), (F.AFE_SLOT_CTL_HOST k, b2n host),
    (F.AFE_SLOT_CTL_CHORD k, c.chord), (F.AFE_SLOT_CTL_DECIM k, s.decimOf c),
    (F.AFE_SLOT_CTL_GAIN k, s.fget (F.AFE_GAIN_GAIN c.chord)), (F.AFE_SLOT_CTL_TAG k, tag)]
  let s := { s with ech := { s.ech with
    slotScale := setAt s.ech.slotScale k (s.regN Reg.TIU_SCALE),
    slotTemp := setAt s.ech.slotTemp k (s.ech.chords.getD c.chord {}).temp } }
  s.setSlot k slotCAPTURING

/-- Set the state of a port. -/
def State.setPort (s : State) (p : Nat) (v : PortState) : State :=
  { s with afe := { s.afe with ports := setAt s.afe.ports p v } }

/-- Fire one chord into its slot (R100, R117, R120): what it adds to the shot, and the state after. The ports of a chord left undriven stay
in PARK (DESIGN CHOICE, log 187). -/
def State.fireChord (s : State) (c : ChordCfg) (k : Nat) (host : Bool) (tag : Nat) : ShotChord × State :=
  let nodrv := s.fget F.AFE_STATUS_VDRV_ACT == 0
  let clipped := s.spanClipped c
  let s := s.allocSlot c k host tag
  let s := s.when nodrv fun s => s.fset F.AFE_STATUS_NODRV 1
  let s := s.when clipped fun s => s.fset F.AFE_STATUS_SPAN_CLIP 1
  let skip := nodrv || clipped
  let s := s.when (!skip) fun s => (s.setPort c.portA .drive).setPort c.portB .drive
  ({ chord := c.chord, slot := k, opened := s.windowOpen c, skip := skip }, s)

/-- Fire a list of chords with their slots. -/
def State.fireAll (s : State) (l : List (ChordCfg × Nat)) (host : Bool) (tag : Nat) : List ShotChord × State :=
  match l with
  | [] => ([], s)
  | (c, k) :: t =>
    let r := s.fireChord c k host tag
    let q := r.2.fireAll t host tag
    (r.1 :: q.1, q.2)

/-- The chord of the active image that a port belongs to. -/
def State.portChord (s : State) (p : Nat) : Option ChordCfg := s.chordCfgs.find? fun c => c.portA == p || c.portB == p

/-- The return of port p: TPC0 or TPC1 by its chord, TPC0 in no chord; none on a part without the port (R8, R96, R98). -/
def State.portReturn (s : State) (p : Nat) : Option Nat :=
  if p < s.ports then some (match s.portChord p with | some c => c.ret % 2 | none => 0) else none

/-- The state of port p at t ns after the mark under a powered AFE (R95, R98, R114): in the census in CENSUS for its turn; a port that a
shot drives is in PARK to its first drive edge, in DRIVE to its last, in DAMP for the damping time and then in LISTEN. The ports of a
chord left undriven (R100, R117) stay in PARK (DESIGN CHOICE, log 187). -/
def State.portOn (s : State) (p t : Nat) : PortState :=
  if (s.afe.turns[p]?).any fun x => x.1 ≤ t && t < x.2 then .census else
  match s.afe.ports.getD p .park, s.afe.shot, s.portChord p with
  | .drive, some h, some c =>
    let o := h.t0 + 24
    let b := halfPeriods c (32 * s.chipCyc)
    let l := halfPeriods c (32 * s.chipCyc + s.fget F.AFE_BURST_DAMP)
    if t < o then .park else if (t - o) * b.2 < b.1 then .drive else if (t - o) * l.2 < l.1 then .damp else .listen
  | v, _, _ => v

/-- The state of port p at t ns after the mark: PARK while the AFE is not ON or the device is held in power-on reset (R95, R394), none
on a part without the port (R96). -/
def State.portAt (s : State) (p t : Nat) : Option PortState :=
  if s.ports ≤ p then none
  else if s.isOn domAFE = false ∨ s.pwr.aonOff then some .park
  else some (s.portOn p t)

/-- The capture span of a shot of the chords of a mask in half ns: the largest open + Lw of its chords, evaluated now (R116). -/
def State.shotSpan (s : State) (mask : Nat) : Nat :=
  ((s.chordCfgs.filter fun c => mask.testBit c.chord).map fun c => s.windowOpen c * 125 + 2 * windowNs (s.decimOf c)).foldl max 0

/-- Fire a hardware shot of the chords of a mask at T0: slot c + 8 × (n mod 2) (R113, R119). -/
def State.fireHardware (s : State) (mask t0 : Nat) : State :=
  let l := (s.chordCfgs.filter fun c => mask.testBit c.chord).map fun c => (c, c.chord + 8 * (s.regN Reg.ROT_NUM % 2))
  let r := s.fireAll l false 0
  { r.2 with afe := { r.2.afe with shot := some ⟨r.1, none, t0, s.shotSpan mask⟩ } }

/-- Fire a host shot of the chords of a mask at T0 into the lowest free slots in ascending chord order (R119); the slots are the last in
the order of firing (R144). -/
def State.fireHost (s : State) (mask tag op t0 : Nat) : State :=
  let cs := s.chordCfgs.filter fun c => mask.testBit c.chord
  let r := s.fireAll (cs.zip s.freeSlots) true tag
  let ks := r.1.map (·.slot)
  { r.2 with afe := { r.2.afe with shot := some ⟨r.1, some op, t0, s.shotSpan mask⟩, fired := (r.2.afe.fired.filter fun k => !ks.contains k) ++ ks } }

/-! The end of a capture (R107, R109, R110, R120) -/

/-- Decimated sample k of a window: the mean of 2^d full-rate samples, rounded half up by arithmetic shift (R109). `x` begins at
full-rate sample o − (2^d − 1). -/
def decimated (x : List (BitVec 12)) (d k : Nat) : Int :=
  let sum : Int := ((List.range (2 ^ d)).map fun i => (x.getD (2 ^ d * k + i) 0).toInt).sum
  (sum + (2 ^ d / 2 : Nat)).fdiv (2 ^ d)

/-- The stored value of a 12-bit sample (R110). -/
def stored8 (x : Int) : Int := clampInt (-128) 127 ((x + 8).fdiv 16)

/-- The 512 decimated samples of a window. -/
def windowSamples (x : List (BitVec 12)) (d : Nat) : List Int := (List.range 512).map (decimated x d)

/-- The 12-bit peak of a window (R110). -/
def peakOf (w : List Int) : Nat := (w.map Int.natAbs).foldl max 0

/-- Does a full-rate sample that enters the window sit at an end of the range (R110)? -/
def clipOf (x : List (BitVec 12)) (d : Nat) : Bool :=
  (x.take (512 * 2 ^ d)).any fun v => v.toInt == 2047 || v.toInt == -2048

/-- round(40 log10(1434 / p)) halves away from zero, clamped to ±12, by exact powers (R107). -/
def agcStep (p : Nat) : Int :=
  if p = 0 then 12
  else if p ≤ 1434 then
    (((List.range 12).filter fun n => 10 ^ (2 * n + 1) * p ^ 80 ≤ 1434 ^ 80).length : Int)
  else
    -(((List.range 12).filter fun n => 10 ^ (2 * n + 1) * 1434 ^ 80 ≤ p ^ 80).length : Int)

/-- Is the gain control of a chord active (R107)? -/
def State.agcActive (s : State) (n : Nat) : Bool :=
  s.fbit (F.AFE_RX_AGC n) && min 120 (s.fget (F.AFE_RX_GMIN n)) ≤ min 120 (s.fget (F.AFE_RX_GMAX n))

/-- AFE_GAINn from AFE_RXn.GAIN, clamped when the AGC is active (R107, R108). -/
def State.presetGain (s : State) (n : Nat) : State :=
  let g := min 120 (s.fget (F.AFE_RX_GAIN n))
  let g := if s.agcActive n then min (max g (min 120 (s.fget (F.AFE_RX_GMIN n)))) (min 120 (s.fget (F.AFE_RX_GMAX n))) else g
  s.fset (F.AFE_GAIN_GAIN n) g

/-- The gain control after a shot of chord n whose larger peak was p (R107). With CLIP p counts as 2047, also where it is 0 (DESIGN CHOICE,
log 192). -/
def State.agc (s : State) (n p : Nat) (clip : Bool) : State :=
  if s.agcActive n then
    let d := if 717 ≤ p ∧ p ≤ 1843 ∧ ¬ clip then 0 else agcStep (if clip then 2047 else p)
    let g := clampInt (min 120 (s.fget (F.AFE_RX_GMIN n))) (min 120 (s.fget (F.AFE_RX_GMAX n))) (s.fget (F.AFE_GAIN_GAIN n) + d)
    s.fsetI (F.AFE_GAIN_GAIN n) g
  else s.presetGain n

/-- Store a direction's samples and its half of the descriptor. -/
def State.storeDirection (s : State) (slotOff : Nat) (peak clip : Fld) (x : List (BitVec 12)) (d : Nat) : State :=
  let w := windowSamples x d
  let s := s.writeBytes slotOff (w.map fun v => BitVec.ofInt 8 (stored8 v))
  (s.fset peak (peakOf w)).fset clip (b2n (clipOf x d))

/-- Complete one chord of a shot: samples, descriptor, gain, ports back to PARK, slot FULL (R107, R110, R120). The 15 bits of OPEN hold
the open modulo 2^15: an undriven chord's open can pass them, where the spec is silent (DESIGN CHOICE, log 141). -/
def State.completeChord (s : State) (c : ShotChord) (rxa rxb : List (BitVec 12)) : State :=
  let k := c.slot
  let d := s.fget (F.AFE_SLOT_CTL_DECIM k)
  let s := s.fset (F.AFE_SLOT_WIN_OPEN k) c.opened
  let s := s.storeDirection (slotAddr k + 0x100) (F.AFE_SLOT_RXA_PEAK k) (F.AFE_SLOT_RXA_CLIP k) rxa d
  let s := s.storeDirection (slotAddr k + 0x400) (F.AFE_SLOT_RXB_PEAK k) (F.AFE_SLOT_RXB_CLIP k) rxb d
  let s := s.fsetAll [(F.AFE_SLOT_RXA_SKIP k, b2n c.skip), (F.AFE_SLOT_RXB_SKIP k, b2n c.skip),
    (F.AFE_SLOT_RXA_NST k, if c.unlocked then 0 else c.nstA), (F.AFE_SLOT_RXB_NST k, if c.unlocked then 0 else c.nstB)]
  let s := s.when (!c.skip) fun s =>
    s.agc c.chord (max (s.fget (F.AFE_SLOT_RXA_PEAK k)) (s.fget (F.AFE_SLOT_RXB_PEAK k)))
      (s.fbit (F.AFE_SLOT_RXA_CLIP k) || s.fbit (F.AFE_SLOT_RXB_CLIP k))
  let s := match s.chordCfg c.chord with
    | some g => (s.setPort g.portA .park).setPort g.portB .park
    | none => s
  s.setSlot k slotFULL

/-! The census (R122, R123) -/

/-- CMIN and CMAX as used (R122). -/
def State.censusMin (s : State) : Nat := max 1 (s.fget F.AFE_CENSUS_CFG_CMIN)
def State.censusMax (s : State) : Nat := min 50000 (s.fget F.AFE_CENSUS_CFG_CMAX)

/-- The outcome of measuring one port with a rise to 1.0 V of n periods of the coarse counter (2.404 ns, R124), none when it never rose
(R122): state and capacitance. -/
def State.censusPort (s : State) (n : Option Nat) : Nat × Nat :=
  match n with
  | none => (3, 0xFFFF)
  | some n =>
    if n * 1000 > s.censusMax * 10 * 416 then (3, 0xFFFF)
    else
      let c := roundNat (n * 1000) 4160
      (if c < s.censusMin then 2 else 1, c)

/-- The turns in ns of the ports from one whose turn begins at `t`: the discharge of 20 µs and the rise, cut at CMAX (R122). -/
def State.censusTurns (s : State) (t : Nat) : List (Option Nat) → List (Nat × Nat)
  | [] => []
  | n :: l =>
    let e := t + 20000 + min (s.censusMax * 10) (match n with | some n => ceilDiv (n * 1000) 416 | none => s.censusMax * 10)
    (t, e) :: s.censusTurns e l

/-- Set the turns of a census that begins at the LFT at hand. -/
def State.planCensus (s : State) (rises : List (Option Nat)) : State :=
  { s with afe := { s.afe with turns := s.censusTurns (s.rot.lft * lftUnits / 64) (rises.take s.ports) } }

/-- Record the measurement of one port. -/
def State.censusStore (s : State) (p : Nat) (t : Option Nat) : State :=
  let r := s.censusPort t
  s.fsetAll [(F.AFE_CENSUS_STATE p, r.1), (F.AFE_CENSUS_CAP p, r.2)]

/-- Record the measurements of the ports from `p` on, in ascending order; the list may end early (R90). -/
def State.censusAll (s : State) (p : Nat) : List (Option Nat) → State
  | [] => s
  | t :: r => (if p < s.ports then s.censusStore p t else s).censusAll (p + 1) r

end Sys2Proof.Machine
end

