-- ==== Sys2Proof/Machine/Coef.lean ====
section
/-! DEFINITION. The active update set in NVM (R376, R378): its manifest, its components and the coefficient items of COEF that
the measuring blocks use. The values are peeks at the words; State.touch is the device's read of them with what it finds (R318, R320). -/

namespace Sys2Proof.Machine

/-- The 16 data bytes of the word at host address `a` as the decoder delivers them, nothing logged. -/
def State.peekWord (s : State) (a : Nat) : List Nat :=
  let w := a / 16 * 16
  (Ecc.decode (s.strict w) (s.symsAt (s.phys w))).2.take 16

/-- Is the word at host address `a` poisoned or uncorrectable? -/
def State.peekBad (s : State) (a : Nat) : Bool :=
  let w := a / 16 * 16
  match (Ecc.decode (s.strict w) (s.symsAt (s.phys w))).1 with
  | .ue => true
  | .poisoned => true
  | _ => false

/-- `n` bytes at host address `a` by whole words; the fuel bounds the words. -/
def State.peekSpan (s : State) (a n : Nat) : Nat → List Byte
  | 0 => []
  | fuel + 1 =>
    if n = 0 then [] else
    let k := min n (16 - a % 16)
    (((s.peekWord a).drop (a % 16)).take k).map (BitVec.ofNat 8) ++ s.peekSpan (a + k) (n - k) fuel

/-- `n` bytes at host address `a`. -/
def State.peek (s : State) (a n : Nat) : List Byte := s.peekSpan a n n

/-- Little-endian value of `n` bytes at host address `a`. -/
def State.peekLe (s : State) (a n : Nat) : Nat := ofLe (s.peek a n)

/-- Does a read of the word at host address `a` find an error to report (R318, R320)? -/
def State.wordFinds (s : State) (a : Nat) : Bool :=
  match (Ecc.decode (s.strict a) (s.symsAt (s.phys a))).1 with
  | .clean => false
  | .erased => false
  | .poisoned => false
  | _ => true

/-- The device reads `n` bytes at host address `a`: errors are found, counted, logged and reported as at any read (R318, R320, R327). -/
def State.touch (s : State) (a n : Nat) : State :=
  (List.range ((a % 16 + n + 15) / 16)).foldl (fun (t : State) (i : Nat) =>
    if t.wordFinds (a / 16 * 16 + 16 * i) then (t.readWord (a / 16 * 16 + 16 * i) .device).2 else t) s

/-- Base of an NVM slot: 0 A, 1 B (R312). -/
def slotBase (b : Nat) : Nat := if b = 0 then 0x200000 else 0x280000

/-- Base of the active slot. -/
def State.activeBase (s : State) : Nat := slotBase (s.fget F.UPD_STATUS_SLOT)

/-- Base of the inactive slot. -/
def State.inactiveBase (s : State) : Nat := slotBase (1 - s.fget F.UPD_STATUS_SLOT)

/-- Does a manifest stand at a slot's base (R376)? -/
def State.hasManifest (s : State) (base : Nat) : Bool := s.peekLe base 4 == 0x464D5654

/-- OFFSET of component entry `i` (0 to 5). -/
def State.compOffset (s : State) (base i : Nat) : Nat := s.peekLe (base + 0x20 + 48 * i + 8) 4

/-- LENGTH of component entry `i`. -/
def State.compLength (s : State) (base i : Nat) : Nat := s.peekLe (base + 0x20 + 48 * i + 12) 4

/-- VERSION of component entry `i`. -/
def State.compVersion (s : State) (base i : Nat) : Nat := s.peekLe (base + 0x20 + 48 * i + 4) 4

/-- DIGEST of component entry `i`. -/
def State.compDigest (s : State) (base i : Nat) : List Byte := s.peek (base + 0x20 + 48 * i + 16) 32

/-- The 32-bit item at a byte offset of the active COEF component; 0 where no set stands in the active slot. -/
def State.coefAt (s : State) (off : Nat) : Nat :=
  if s.hasManifest s.activeBase then s.peekLe (s.activeBase + s.compOffset s.activeBase 5 + off) 4 else 0

/-- Is the item at a byte offset of the active COEF component poisoned or uncorrectable? -/
def State.coefBad (s : State) (off : Nat) : Bool :=
  s.hasManifest s.activeBase && s.peekBad (s.activeBase + s.compOffset s.activeBase 5 + off)

/-- The device reads n bytes at an offset of the active COEF component. -/
def State.touchCoef (s : State) (off n : Nat) : State :=
  if s.hasManifest s.activeBase then s.touch (s.activeBase + s.compOffset s.activeBase 5 + off) n else s

/-- TIU ageing A in ppb (R378). -/
def State.coefTiuA (s : State) : Int := signed 32 (s.coefAt 0x008)

/-- TIU ageing B in hours (R378). -/
def State.coefTiuB (s : State) : Nat := s.coefAt 0x00C

/-- Is an index in the flow coefficient table (R172)? -/
def inFlwTable (i : Nat) : Bool := i < 0x12 || (0x18 ≤ i && i < 0x80)

/-- Flow coefficient at an index; one outside the table reads zero (R172, R378). -/
def State.coefFlw (s : State) (i : Nat) : Nat := if inFlwTable i then s.coefAt (0x010 + 4 * i) else 0

/-- TMU coefficient at an index; one outside the table reads zero (R204, R378). -/
def State.coefTmu (s : State) (i : Nat) : Nat := if i < 0x16 then s.coefAt (0x210 + 4 * i) else 0

/-- RTC coefficient at an index 0x00 to 0x21 (R363, R378). -/
def State.coefRtc (s : State) (i : Nat) : Nat := if i < 0x22 then s.coefAt (0x270 + 4 * i) else 0

end Sys2Proof.Machine
end

