-- ==== Sys2Proof/Machine/Ln.lean ====
section
/-! DEFINITION. The natural logarithm of a ratio in fixed point, for the ageing terms (R141, R363): ln(n/d) times 2^96, from
ln x = 2 artanh((x - 1)/(x + 1)) after the powers of two are taken out. -/

namespace Sys2Proof.Machine.Ln

/-- Working precision: 2^96 stands for 1. -/
def one : Nat := 2 ^ 96

/-- The series z + z³/3 + z⁵/5 + …: `t` is the current odd power of z, `k` its exponent. -/
def artanh (z2 : Nat) : Nat → Nat → Nat → Nat
  | 0, _, _ => 0
  | n + 1, t, k => t / k + artanh z2 n (t * z2 / one) (k + 2)

/-- ln 2 times 2^96: 2 artanh(1/3). -/
def ln2 : Nat := 2 * artanh (one / 9) 64 (one / 3) 1

/-- ln(n/d) times 2^96 for n ≥ d > 0: with e the largest number such that d·2^e ≤ n, ln = e·ln 2 + 2 artanh. -/
def ratio (n d : Nat) : Nat :=
  if d = 0 ∨ n ≤ d then 0 else
  let e := (n / d).log2
  let m := d * 2 ^ e
  let z := (n - m) * one / (n + m)
  e * ln2 + 2 * artanh (z * z / one) 64 z 1

/-- a · ln(n/d) + b rounded half away from zero, for the integer b and the integer factor a. -/
def scaledHalfAway (a b : Int) (n d : Nat) : Int :=
  roundHalfAway (a * ratio n d + b * one) one

end Sys2Proof.Machine.Ln
end

