-- ==== Sys2Proof/Machine/EchoSignal.lean ====
section
/-! DEFINITION. From a direction's capture to its arrival (R101 to R103, R146 to R150): the drive waveform, the correlation, the
envelope pick with its confidence, the pairing of stamps with template crossings, the phase fit and the amplitude. -/

namespace Sys2Proof.Machine.Echo

/-! The drive waveform, in shot-clock cycles from the first drive edge -/

/-- A burst: frequency word, cycles per chip, and either a code's chip word or a chirp's start word and step (both in 2^-16 of a
frequency word) with its length in cycles. -/
structure Burst where
  fw : Nat
  c : Nat
  code : Nat
  chirp : Option (Nat × Int × Nat) := none
  deriving DecidableEq, Repr

/-- The bounds of a chirp times 200 in Hz, each clamped to 40 kHz to 4 MHz (R103): lower, upper. -/
def chirpBounds (f span : Nat) : Nat × Nat :=
  let s := min span 50
  (max (40000 * 200) (min (4000000 * 200) (f * (200 - s))), max (40000 * 200) (min (4000000 * 200) (f * (200 + s))))

/-- The burst a chord sends with a code (R101 to R104). The chirp's word starts at its first bound and changes by a constant step
every cycle over 16 C / f. -/
def burstOf (cfg : ChordCfg) (c codeWord span : Nat) (down : Bool) : Burst :=
  let fw := freqWord cfg.freq
  if cfg.burst = 0 then { fw := fw, c := c, code := codeWord }
  else
    let b := chirpBounds cfg.freq span
    let w := fun f200 => roundNat (f200 * 2 ^ 48) (208000000 * 200)
    let w0 := if down then w b.2 else w b.1
    let w1 := if down then w b.1 else w b.2
    let step := roundHalfUp (((w1 : Int) - w0) * cfg.freq) (16 * c * 208000000)
    { fw := fw, c := c, code := 0, chirp := some (w0, step, ceilDiv (16 * c * 208000000) (max 1 cfg.freq)) }

/-- The half cycle of the accumulator at cycle m: floor(phase / 2^31). -/
def halfAt (b : Burst) (m : Nat) : Nat :=
  match b.chirp with
  | none => b.fw * m / 2 ^ 31
  | some (w0, st, _) => ((m * w0 : Int) + st * ((m * (m - 1) / 2 : Nat) : Int)).toNat / 2 ^ 47

/-- The level of half cycle h: high is +1; a chip sent inverted swaps it (R101, R102). -/
def halfLevel (b : Burst) (h : Nat) : Int :=
  let hi := h % 2 == 0
  let inv := b.chirp.isNone && b.code.testBit (h / 2 / b.c)
  if hi != inv then 1 else -1

/-- Is cycle m inside the burst? -/
def inBurst (b : Burst) (m : Nat) : Bool :=
  match b.chirp with
  | none => halfAt b m < 32 * b.c
  | some (_, _, n) => m < n

/-- The drive level at cycle m; 0 outside the burst. -/
def level (b : Burst) (m : Nat) : Int := if inBurst b m then halfLevel b (halfAt b m) else 0

/-- The template level at sample i: sample i falls at cycle 13 · 2^d · i (R146). -/
def template (b : Burst) (d i : Nat) : Int := level b (13 * 2 ^ d * i)

/-- The quadrature template: the same waveform a quarter period later (R146), 0 before it has started (DESIGN CHOICE, log 193). -/
def quadrature (b : Burst) (d i : Nat) : Int :=
  let m : Int := (4 * b.fw * (13 * 2 ^ d * i) : Nat) - (2 ^ 32 : Nat)
  if m < 0 then 0 else level b (m.toNat / (4 * max 1 b.fw))

/-- Template length in samples (R146). -/
def templateLen (cfg : ChordCfg) (c d : Nat) : Nat := ceilDiv (16 * c * 16000000) (2 ^ d * max 1 cfg.freq)

/-- Sum of products of two lists up to the shorter. -/
def dot : List Int → List Int → Int
  | a :: s, b :: t => a * b + dot s t
  | _, _ => 0

/-- The correlation of x with w at every lag (R146): y[k] over the samples from k on. -/
def correlate (w : List Int) : List Int → List Int
  | [] => []
  | a :: t => dot (a :: t) w :: correlate w t

/-- The envelope e[k] (R146). -/
def envelope (x w wq : List Int) : List Nat :=
  (correlate w x).zipWith (fun y q => isqrt 32 (y * y + q * q).toNat) (correlate wq x)

/-! The envelope pick (R147) -/

/-- What the pick finds: the threshold, the lag k1, the fractional lag κ as num / den, and the confidence. -/
structure Pick where
  theta : Nat
  k1 : Nat
  num : Int
  den : Nat
  conf : Nat
  early : Bool
  deriving DecidableEq, Repr

/-- The envelope at the fractional lag num / den, times den (R147). -/
def envAt (e : List Nat) (emax : Nat) (num : Int) (den : Nat) : Int :=
  if num < 0 then 0
  else
    let n := num.toNat
    let i := n / den
    if n > 511 * den then (emax * den : Nat)
    else (e.getD i 0 * (den - n % den) + e.getD (i + 1) 0 * (n % den) : Nat)

/-- The pick of R147: FRAC, the envelope, its maximum, the frequency word and the decimation. -/
def pick (frac : Nat) (e : List Nat) (emax fw d : Nat) : Pick :=
  let theta := frac * emax / 256
  let k1 := ((List.range e.length).find? fun k => e.getD k 0 ≥ theta).getD 0
  if k1 = 0 then ⟨theta, 0, 0, 1, 0, true⟩
  else
    let e0 := e.getD (k1 - 1) 0
    let den := e.getD k1 0 - e0
    let num : Int := ((k1 - 1) * den + (theta - e0) : Nat)
    -- κ ± pd over den · q with pd = 2^39 / q
    let q := max 1 fw * 1664 * 2 ^ d
    let lo := num * q - (2 ^ 39 * den : Nat)
    let hi := num * q + (2 ^ 39 * den : Nat)
    let dq := den * q
    let a := (theta * dq : Int) - envAt e emax lo dq
    let b := envAt e emax hi dq - (theta * dq : Int)
    let conf := clampInt 0 255 (roundHalfUp (256 * min a b) (max 1 (emax * dq)))
    ⟨theta, k1, num, den, conf.toNat, decide (lo < 0)⟩

/-- The burst-start estimate tb in fine LSB (R147). -/
def burstStart (p : Pick) (opened d : Nat) (off : Int) : Int :=
  roundHalfUp ((1664 * opened - 832 * (2 ^ d - 1) + off : Int) * p.den + 1664 * 2 ^ d * p.num) p.den

/-! Pairing and fit (R148, R149) -/

/-- Does polarity `pol` take a change to level `l` (R148)? -/
def takes (pol : Nat) (l : Int) : Bool := pol ≥ 2 || (pol == 0 && l == 1) || (pol == 1 && l == -1)

/-- The cycles at which the waveform changes level inside the burst, with the level after, first and last drive edges left out. -/
def changes (b : Burst) : List (Nat × Int) :=
  match b.chirp with
  | none =>
    ((List.range (32 * b.c)).drop 1).filterMap fun h =>
      if halfLevel b h != halfLevel b (h - 1) then some (ceilDiv (h * 2 ^ 31) (max 1 b.fw), halfLevel b h) else none
  | some (_, _, n) =>
    ((List.range n).drop 1).filterMap fun m =>
      if halfAt b m != halfAt b (m - 1) then some (m, halfLevel b (halfAt b m)) else none

/-- The template crossings τ in fine LSB, at most 256 (R148). -/
def crossings (b : Burst) (pol : Nat) : List Nat :=
  (((changes b).filter fun x => takes pol x.2).map fun x => 128 * x.1).take 256

/-- The least distance of consecutive crossings. -/
def leastGap : List Nat → Option Nat
  | a :: b :: t =>
    match leastGap (b :: t) with
    | some g => some (min g (b - a))
    | none => some (b - a)
  | _ => none

/-- Pair stamps with crossings (R148): the differences r, oldest first. -/
def pairUp (tb h : Int) (nfit : Nat) : List Nat → List Nat → List Int
  | [], _ => []
  | τ :: ts, s =>
    if nfit = 0 then [] else
    let pred := tb + τ
    match s.dropWhile fun (v : Nat) => decide ((v : Int) < pred - h) with
    | [] => []
    | v :: rest =>
      if (v : Int) < pred + h then ((v : Int) - τ) :: pairUp tb h (nfit - 1) ts rest
      else pairUp tb h nfit ts (v :: rest)

/-- The raw arrival t0 in TQ from the pairs and the scale (R149). -/
def arrival (r : List Int) (scale : Nat) : Int :=
  roundHalfUp (r.sum * 8000 * scale) (max 1 (13 * 2 ^ 30 * r.length))

/-- Is the fit residual above FITMAX · pf / (256 m) (R151)? Compared as squares. -/
def residualHigh (r : List Int) (fitmax m fw : Nat) : Bool :=
  let n := r.length
  let q := (n * (r.map fun v => v * v).sum - r.sum * r.sum : Int)
  decide (q * ((256 * m) ^ 2 * fw ^ 2 : Nat) > ((fitmax ^ 2 * 2 ^ 78 * n ^ 2 : Nat) : Int))

/-- The amplitude in 0.01 dBµV (R150): 2000 log10(peak / 2047) rounded half up, plus the integer terms. -/
def amplitude (peak gain : Nat) : Int :=
  if peak = 0 then -32768
  else
    let l := if peak ≤ 2047 then -(Ln.ratio 2047 peak : Int) else Ln.ratio peak 2047
    roundHalfUp (2000 * l) (Ln.ratio 10 1) + 12000 - 50 * gain

/-- The cycle count of one echo step (R145). -/
def stepCycles (lr nfit : Nat) : Nat := ceilDiv (2 * 512 * lr * 2) 32 + 2048 + 40 * nfit + 848

/-! The speed-of-sound model (R154) -/

/-- Entry i of the water table in mm/s, from the polynomial in units of 10^-15 (R154). -/
def waterEntry (i : Nat) : Nat :=
  let t : Int := i
  let p : Int := 1402385 * 10 ^ 12 + 5038813 * 10 ^ 9 * t - 57991360000000 * t ^ 2 + 328715600000 * t ^ 3
    - 1398845000 * t ^ 4 + 2787860 * t ^ 5
  (roundHalfUp p (10 ^ 12)).toNat

/-- The speed of sound of water at T (0.1 mK, from 0 °C), times 10^4, in mm/s (R154). -/
def waterSound (t : Int) : Nat :=
  let x := (clampInt 0 1500000 t).toNat
  let i := x / 10000
  let f := x % 10000
  waterEntry i * (10000 - f) + (if f = 0 then 0 else waterEntry (i + 1) * f)

/-- The rounded half-up root of num / den. -/
def rootHalfUp (num den : Nat) : Nat := (isqrt 128 (4 * num / max 1 den) + 1) / 2

end Sys2Proof.Machine.Echo
end

