-- ==== Sys2Proof/Machine/Water.lean ====
section
/-! DEFINITION. The water ROMs the rules define by name: the density, enthalpy and heat capacity of IAPWS-IF97 region 1 (R180,
R224) and the viscosity of ordinary water by the IAPWS formulation of 2008 with its critical enhancement taken as 1 (R180). The
coefficients are the published ones of those formulations (PRESUMED: the spec names them and does not print them; log entry 20). -/

namespace Sys2Proof.Machine.Water

/-- A decimal coefficient m · 10^-e. -/
def dec (m : Int) (e : Nat) : Rat := (m : Rat) / ((10 ^ e : Nat) : Rat)

/-- x to an integer power. -/
def ipow (x : Rat) (j : Int) : Rat := if j < 0 then 1 / x ^ j.natAbs else x ^ j.toNat

/-- The 34 terms (I, J, n) of IF97 region 1. -/
def terms : List (Nat × Int × Rat) :=
  [ (0, -2, dec 14632971213167 14), (0, -1, dec (-84548187169114) 14), (0, 0, dec (-37563603672040) 13),
    (0, 1, dec 33855169168385 13), (0, 2, dec (-95791963387872) 14), (0, 3, dec 15772038513228 14),
    (0, 4, dec (-16616417199501) 15), (0, 5, dec 81214629983568 17), (1, -9, dec 28319080123804 17),
    (1, -7, dec (-60706301565874) 17), (1, -1, dec (-18990068218419) 15), (1, 0, dec (-32529748770505) 15) ] ++
  [ (1, 1, dec (-21841717175414) 15), (1, 3, dec (-52838357969930) 18), (2, -3, dec (-47184321073267) 17),
    (2, 0, dec (-30001780793026) 17), (2, 1, dec 47661393906987 18), (2, 3, dec (-44141845330846) 19),
    (2, 17, dec (-72694996297594) 29), (3, -4, dec (-31679644845054) 18), (3, 0, dec (-28270797985312) 19),
    (3, 6, dec (-85205128120103) 23), (4, -5, dec (-22425281908000) 19), (4, -2, dec (-65171222895601) 20) ] ++
  [ (4, 10, dec (-14341729937924) 26), (5, -8, dec (-40516996860117) 20), (8, -11, dec (-12734301741641) 22),
    (8, -6, dec (-17424871230634) 23), (21, -29, dec (-68762131295531) 32), (23, -31, dec 14478307828521 33),
    (29, -38, dec 26335781662795 36), (30, -39, dec (-11947622640071) 36), (31, -40, dec 18228094581404 37),
    (32, -41, dec (-93537087292458) 39) ]

/-- The derivative of order (a, b) in π and τ at a pressure in 0.01 MPa and a temperature in 0.01 K (orders 0 to 2). -/
def gammaD (a b p t : Nat) : Rat :=
  let x : Rat := dec 71 1 - (p : Rat) / 1653
  let y : Rat := (138600 : Rat) / (t : Rat) - dec 1222 3
  (terms.map fun r =>
    let i : Nat := r.1
    let j : Int := r.2.1
    let ci : Rat := if a = 0 then 1 else -(i : Rat)
    let cj : Rat := if b = 0 then 1 else if b = 1 then (j : Rat) else (j : Rat) * ((j : Rat) - 1)
    if ci = 0 ∨ cj = 0 then 0 else r.2.2 * ci * cj * ipow x (Int.sub i a) * ipow y (Int.sub j b)).sum

/-- Density in kg/m³. -/
def density (p t : Nat) : Rat := 16530000 / (dec 461526 3 * ((t : Rat) / 100) * gammaD 1 0 p t)

/-- Enthalpy in J/kg. -/
def enthalpy (p t : Nat) : Rat := dec 461526 3 * 1386 * gammaD 0 1 p t

/-- Isobaric heat capacity in J/(kg·K). -/
def heatCap (p t : Nat) : Rat :=
  let tau : Rat := (138600 : Rat) / (t : Rat)
  0 - dec 461526 3 * tau * tau * gammaD 0 2 p t

/-- Fixed point of the viscosity: 2^128 stands for 1. -/
def one : Nat := 2 ^ 128

/-- Taylor series of exp at x / 2^128: `term` is the current term, `k` its order. -/
def expFrom (x : Int) : Nat → Int → Nat → Int
  | 0, _, _ => 0
  | n + 1, term, k => term + expFrom x n (term * x / (one * (k + 1))) (k + 1)

/-- exp of a rational, in fixed point. -/
def expFix (x : Rat) : Int := expFrom (x * (one : Rat)).floor 100 one 0

/-- The coefficients (i, j, H) of the finite-density factor. -/
def visc : List (Nat × Nat × Rat) :=
  [ (0, 0, dec 520094 6), (1, 0, dec 850895 7), (2, 0, dec (-108374) 5), (3, 0, dec (-289555) 6), (0, 1, dec 222531 6),
    (1, 1, dec 999115 6), (2, 1, dec 188797 5), (3, 1, dec 126613 5), (5, 1, dec 120573 6), (0, 2, dec (-281378) 6),
    (1, 2, dec (-906851) 6) ] ++
  [ (2, 2, dec (-772479) 6), (3, 2, dec (-489837) 6), (4, 2, dec (-257040) 6), (0, 3, dec 161913 6), (1, 3, dec 257399 6),
    (0, 4, dec (-325372) 7), (3, 4, dec 698452 7), (4, 5, dec 872102 8), (3, 6, dec (-435673) 8), (5, 6, dec (-593264) 9) ]

/-- Dynamic viscosity in 10^-6 Pa·s times 2^128 at a density and a temperature in 0.01 K. -/
def viscosity (rho : Rat) (t : Nat) : Rat :=
  let tb : Rat := (t : Rat) / dec 647096 1
  let rb : Rat := rho / 322
  let root : Rat := (isqrt 160 ((tb * ((2 ^ 256 : Nat) : Rat)).floor.toNat) : Rat)
  let mu0 : Rat := 100 * root /
    (dec 167752 5 + dec 220462 5 / tb + dec 6366564 7 / (tb * tb) - dec 241605 6 / (tb * tb * tb))
  let arg : Rat := rb * (visc.map fun r => r.2.2 * (1 / tb - 1) ^ r.1 * (rb - 1) ^ r.2.1).sum
  mu0 * ((expFix arg : Int) : Rat) / (one : Rat)

/-- Entry i of the ROM table of the kinematic viscosity of water at 1 MPa, in 10^-12 m²/s (R180). -/
def nuEntry (i : Nat) : Nat :=
  let t := 27315 + 100 * i
  let rho := density 100 t
  let v := viscosity rho t * 1000000 / ((one : Rat) * rho)
  (v + 1 / 2).floor.toNat

/-- The viscosity at T (0.1 mK from 0 °C): linear between whole degrees, ends held, rounded half up (R180). -/
def nu (t : Int) : Nat :=
  let x := (clampInt 0 1500000 t).toNat
  let i := x / 10000
  let f := x % 10000
  if f = 0 then nuEntry i
  else (roundHalfUp ((nuEntry i * (10000 - f) + nuEntry (i + 1) * f : Nat) : Int) 10000).toNat

/-- Entry K(pos, pr, i, j) of the heat-coefficient ROM at forward temperature index i and return temperature index j, given as
temperatures in 0.01 K, at a pressure in 0.01 MPa; `pos` 1 takes the density at the return temperature (R224). -/
def heatK (pos p tf tr : Nat) : Nat :=
  let rho := density p (if pos = 0 then tf else tr)
  let v := if tf = tr then rho * heatCap p tf
    else rho * (enthalpy p tf - enthalpy p tr) / (((tf : Rat) - (tr : Rat)) / 100)
  (v + 1 / 2).floor.toNat

end Sys2Proof.Machine.Water
end

