-- ==== Sys2Proof/Machine/Flow.lean ====
section
/-! DEFINITION. The flow engine (R172 to R188): chord velocity, the checks of the coefficients, the sets and weights of a rotation,
the meter-flow step, the chord state machine, the start-up flow and the hydrogen indicator. -/

namespace Sys2Proof.Machine

abbrev flVALID : Nat := 0
abbrev flHOLD : Nat := 1
abbrev flNOFLOW : Nat := 2
abbrev flPOISON : Nat := 3

/-! Duty (R31, R36) and ledger kind -/

def State.hostShots (s : State) : Bool := s.fbit F.SYS_DUTY_SHOT
def State.hostEcho (s : State) : Bool := s.fbit F.SYS_DUTY_ECHO
def State.hostFlow (s : State) : Bool := s.fbit F.SYS_DUTY_FLOW
def State.hostTherm (s : State) : Bool := s.fbit F.SYS_DUTY_THERM
def State.hostTrim (s : State) : Bool := s.fbit F.SYS_DUTY_RTCC

/-- The ledger kind of the active image (R84): 1 heat, 2 cooling, 3 combined, 4 gas; 0 with no image. -/
def State.ledgerKind (s : State) : Nat :=
  match s.image with
  | some i => i.kind
  | none => 0

def State.isGas (s : State) : Bool := s.ledgerKind == 4

/-! Coefficients (R172, R173) -/

/-- Is a flow coefficient poisoned in COEF? -/
def State.flwBad (s : State) (i : Nat) : Bool := s.coefBad (0x010 + 4 * i)

def State.geomL (s : State) (g : Nat) : Nat := s.coefFlw (2 * g)
def State.geomX (s : State) (g : Nat) : Nat := s.coefFlw (2 * g + 1)
def State.area (s : State) : Nat := s.coefFlw 0x10
def State.diam (s : State) : Nat := s.coefFlw 0x11
def State.weight (s : State) (n : Nat) : Nat := s.coefFlw (0x18 + n)
def State.fallback (s : State) (f n : Nat) : Nat := s.coefFlw (0x20 + 8 * f + n)
def State.kre (s : State) (j : Nat) : Nat := s.coefFlw (0x60 + j)
def State.kval (s : State) (j : Nat) : Nat := s.coefFlw (0x70 + j)

/-- Is the geometry entry of a chord unusable (R173)? -/
def State.geomBad (s : State) (g : Nat) : Bool := s.geomL g == 0 || s.geomX g == 0 || s.geomX g > s.geomL g

/-- Are the meter coefficients invalid (R173)? -/
def State.coefInvalid (s : State) : Bool :=
  s.area == 0 || s.diam == 0 || ((List.range 16).any fun j => s.kval j == 0) ||
    (List.range 15).any fun j => s.kre (j + 1) ≤ s.kre j

/-! Chord state (R181, R182) -/

abbrev chHEALTHY : Nat := 0
abbrev chSUBST : Nat := 1
abbrev chFAILED : Nat := 2
abbrev fcSUBST : Nat := 1
abbrev fcCENSUS : Nat := 2
abbrev fcGEOM : Nat := 3

def State.chordState (s : State) (n : Nat) : Nat := s.fget (F.FLW_CHST_STATE n)
def State.chordCause (s : State) (n : Nat) : Nat := s.fget (F.FLW_CHST_FCAUSE n)

/-- The ratio ring of chord n. -/
def State.ring (s : State) (n : Nat) : List Int := s.flw.rings.getD n []

/-- Mean of the ratio ring; 0 while it is empty (R181). -/
def ratioOf (l : List Int) : Int := if l.isEmpty then 0 else roundHalfAway l.sum l.length

/-- Store the ratio ring of chord n: CNT and FLW_RATIOn follow. -/
def State.setRing (s : State) (n : Nat) (l : List Int) : State :=
  (({ s with flw := { s.flw with rings := setAt s.flw.rings n l } }).fset (F.FLW_CHST_CNT n) l.length).setRegN
    (Reg.FLW_RATIO n) (unsigned 32 (ratioOf l))

/-- Set a bit of FLW_EVT.FAILED; a new setting raises CHORD_FAIL (R183). -/
def State.flagFailed (s : State) (n : Nat) : State :=
  if s.ftest F.FLW_EVT_FAILED n then s else (s.fsetBit F.FLW_EVT_FAILED n).raise F.SYS_IRQ_CHORD_FAIL

/-- Mark a chord FAILED with a cause; a cause of lower precedence never replaces a higher one (R173). -/
def State.failChord (s : State) (n cause : Nat) : State :=
  let s := { s with flw := { s.flw with unfail := clrBit s.flw.unfail n } }
  let keep := s.chordState n == chFAILED && s.chordCause n > cause
  let s := s.fsetAll [(F.FLW_CHST_STATE n, chFAILED), (F.FLW_CHST_RUN n, 0)]
  let s := if keep then s else s.fset (F.FLW_CHST_FCAUSE n) cause
  s.flagFailed n

/-- UNFAIL of chord n (R182): its counters clear at once, and it is HEALTHY from the next step. -/
def State.unfailChord (s : State) (n : Nat) : State :=
  if s.chordState n = chFAILED ∧ s.chordCause n ≠ fcGEOM then
    ({ s with flw := { s.flw with unfail := setBit s.flw.unfail n } }).fsetAll [(F.FLW_CHST_RUN n, 0), (F.FLW_CHST_OK n, 0)]
  else s

/-- A meter-flow step begins: the chords that UNFAIL named are HEALTHY (R182). -/
def State.applyUnfail (s : State) : State :=
  let l := (maskList 8 s.flw.unfail).filter fun n => s.chordState n == chFAILED && s.chordCause n != fcGEOM
  let s := l.foldl (fun (t : State) (n : Nat) => t.fsetAll [(F.FLW_CHST_STATE n, chHEALTHY), (F.FLW_CHST_FCAUSE n, 0)]) s
  { s with flw := { s.flw with unfail := 0 } }

/-- The checks of every reset and every image apply (R173): chords of the image against their geometry, and the meter items. -/
def State.checkCoefs (s : State) : State :=
  let s := s.touchCoef 0x010 0x200
  let s := s.chordCfgs.foldl (fun t c => if t.geomBad c.geom then t.failChord c.chord fcGEOM else t) s
  s.fset F.FLW_STATUS_COEF_BAD (b2n s.coefInvalid)

def State.smax (s : State) : Nat := max 1 (s.fget F.FLW_SUB_SMAX)
def State.minh (s : State) : Nat := min 8 (max 1 (s.fget F.FLW_SUB_MINH))
def State.rnmin (s : State) : Nat := min 64 (max 1 (s.fget F.FLW_SUB_RNMIN))

/-! The chord step (R174 to R176) -/

/-- Numerators and denominators of VEL and SOS (R174). -/
def velOf (l x : Nat) (dt zero tu td : Int) : Int :=
  let v := roundHalfAwayInt ((l * l : Nat) * (dt - zero) * (16384 * 10 ^ 9)) (2 * x * tu * td)
  clampInt (-(2 ^ 31 - 1)) (2 ^ 31 - 1) v

def sosOf (l : Nat) (tu td : Int) : Int :=
  min (roundHalfUpInt (l * (tu + td) * (16384 * 10 ^ 9)) (2 * tu * td)) (2 ^ 32 - 1)

/-- Is a coefficient that the step of a chord reads poisoned (R175): its geometry entry or its zero? -/
def State.chordPoison (s : State) (c : ChordCfg) : Bool :=
  s.flwBad (2 * c.geom) || s.flwBad (2 * c.geom + 1) || s.regBad (Reg.FLW_ZERO c.chord)

/-- The chord step on an outcome (R174, R175): the velocity and speed of sound of the record, none where the pair leaves none. -/
def State.chordFlow (s : State) (c : ChordCfg) (outcome : Nat) (tu td dt : Int) : Option (Int × Int) × State :=
  if outcome ≤ 2 ∧ tu ≠ 0 ∧ td ≠ 0 then
    if s.chordState c.chord = chFAILED ∧ s.chordCause c.chord = fcGEOM then (none, s)
    else if s.chordPoison c then (none, (s.touchCoef (0x010 + 8 * c.geom) 8).consumed)
    else
      let s := s.touchCoef (0x010 + 8 * c.geom) 8
      let l := s.geomL c.geom
      (some (velOf l (s.geomX c.geom) dt (s.fsgn (F.FLW_ZERO_ZERO c.chord)) tu td, sosOf l tu td), s)
  else (none, s)

/-! Sets and weights (R178, R179) -/

/-- The record of chord n in this rotation. -/
def State.recOf (s : State) (n : Nat) : Option EchRec := s.ech.recs.find? (fun r => r.chord == n)

/-- Is a record one of a healthy chord (R178)? -/
def State.isHealthy (s : State) (r : EchRec) : Bool :=
  s.chordState r.chord != chFAILED && r.outcome ≤ 2 && r.vel.isSome

/-- Would chord n be excluded when it is not healthy (R178)? -/
def State.isExcluded (s : State) (n : Nat) : Bool :=
  s.chordState n == chFAILED || (s.ring n).length < s.rnmin

/-- The chords of the image. -/
def State.chordNums (s : State) : List Nat := s.chordCfgs.map (·.chord)

/-- Set H. -/
def State.setH (s : State) : List Nat := s.chordNums.filter fun n =>
  match s.recOf n with
  | some r => s.isHealthy r
  | none => false

/-- Set E. -/
def State.setE (s : State) : List Nat := s.chordNums.filter fun n => !s.setH.contains n && s.isExcluded n

/-- Set S. -/
def State.setS (s : State) : List Nat := s.chordNums.filter fun n => !s.setH.contains n && !s.isExcluded n

/-- The weight in force of a chord outside E; none where the denominator of the third case is 0 (R179). -/
def State.weightOf (s : State) (e : List Nat) (n : Nat) : Option Nat :=
  match e with
  | [] => some (s.weight n)
  | [f] => some (s.fallback f n)
  | _ =>
    let all := (s.chordNums.map s.weight).sum
    let den := ((s.chordNums.filter fun m => !e.contains m).map s.weight).sum
    if den = 0 then none else some (roundHalfUp (s.weight n * all : Nat) den).toNat

/-- Indices of the weights that the step reads. -/
def State.weightItems (s : State) (e : List Nat) : List Nat :=
  match e with
  | [f] => s.chordNums.map fun n => 0x20 + 8 * f + n
  | _ => s.chordNums.map fun n => 0x18 + n

/-- Indices of the coefficients that the step reads: which of the weights and profile points it reads the spec leaves open, the model
takes the weights of the row in force and all 32 profile words (DESIGN CHOICE, log 146). -/
def State.meterItems (s : State) : List Nat := [0x10, 0x11] ++ s.weightItems s.setE ++ (List.range 32).map (0x60 + ·)

/-- Is an item that the meter-flow step reads poisoned (R175): a coefficient, or an RWP register of FLW other than a chord's zero? -/
def State.meterPoison (s : State) : Bool :=
  s.meterItems.any s.flwBad || s.badRegs.any fun a => a / 0x10000 == 7 && !(Reg.FLW_ZERO 0 ≤ a && a ≤ Reg.FLW_ZERO 7)

/-- The meter-flow step reads its coefficients. -/
def State.touchMeter (s : State) : State := s.meterItems.foldl (fun (t : State) (i : Nat) => t.touchCoef (0x010 + 4 * i) 4) s

/-! The meter-flow step (R177, R180) -/

/-- The profile factor at a Reynolds number (R180). -/
def State.profile (s : State) (re : Nat) : Nat :=
  if re ≤ s.kre 0 then s.kval 0
  else if re ≥ s.kre 15 then s.kval 15
  else
    let j := ((List.range 15).find? fun j => s.kre j ≤ re && re < s.kre (j + 1)).getD 0
    (roundHalfUp ((s.kval j : Int) * (s.kre (j + 1) - s.kre j : Nat) +
      ((s.kval (j + 1) : Int) - s.kval j) * (re - s.kre j : Nat)) (s.kre (j + 1) - s.kre j)).toNat

/-- The kinematic viscosity of the meter's medium at T (0.1 mK) and p (0.01 Pa) (R180). -/
def State.viscosityAt (s : State) (t : Int) (p : Nat) : Int :=
  if s.isGas then
    let tk := 2731500 + t
    roundHalfUpInt (s.fget F.FLW_GAS_NU0_NU0 * 10132500 * tk * tk) (p * (2731500 * 2731500 : Nat))
  else Water.nu t

/-- The Reynolds number (R180); a viscosity of 0 leaves it open, so it is then a free value. -/
def State.reynolds (s : State) (vm nu : Int) : Nat × State :=
  if nu ≤ 0 then s.fitU 32 (-1)
  else ((min (roundHalfUpInt (vm.natAbs * s.diam) nu) (2 ^ 32 - 1)).toNat, s)

/-- Sum of the velocities of the healthy chords, and of their speeds of sound. -/
def State.sumVel (s : State) : Int := (s.setH.map fun n => ((s.recOf n).bind (·.vel)).getD 0).sum
def State.sumSos (s : State) : Nat := (s.setH.map fun n => ((s.recOf n).map (·.sos)).getD 0).sum

/-- The velocity that stands for chord n: its own, or the substitute (R180). -/
def State.velFor (s : State) (n : Nat) : Int :=
  if s.setH.contains n then ((s.recOf n).bind (·.vel)).getD 0
  else roundHalfAway (ratioOf (s.ring n) * s.sumVel) (s.setH.length * 65536)

/-- The weighted mean velocity (R180): none where no weights are in force. -/
def State.meanVel (s : State) : Option Int :=
  let e := s.setE
  let ns := s.chordNums.filter fun n => !e.contains n
  (ns.mapM (s.weightOf e)).map fun ws =>
    roundHalfAway ((ws.zip ns).map fun p => (p.1 : Int) * s.velFor p.2).sum (2 ^ 24)

/-- Write the state flags and sets of a step, which describe the rotation itself (R180, R183). -/
def State.flowStatus (s : State) (st : Nat) (cut noTemp h2 : Bool) : State :=
  (s.fsetAll [(F.FLW_STATUS_STATE, st), (F.FLW_STATUS_SUBST, b2n (!s.setS.isEmpty)), (F.FLW_STATUS_FALLBACK, b2n (!s.setE.isEmpty)),
    (F.FLW_STATUS_CUT, b2n cut), (F.FLW_STATUS_NO_TEMP, b2n noTemp), (F.FLW_STATUS_H2_VALID, b2n h2),
    (F.FLW_STATUS_HEALTHY, maskOf s.setH), (F.FLW_STATUS_SUBMASK, maskOf s.setS), (F.FLW_STATUS_EXCL, maskOf s.setE)])

/-- Store the live results. -/
def State.setLive (s : State) (l : FlwLive) : State := { s with flw := { s.flw with live := l } }

/-- The hydrogen fraction before filtering, in 0.01 % (R186), at T (0.1 mK) and p (0.01 Pa): numerator and denominator of 10^4 x. -/
def State.h2Raw (s : State) (t : Int) (p : Nat) : Option (Int × Int) :=
  let m := s.fget F.FLW_H2_MNG_MNG
  let tk := 2731500 + t
  -- c_ng² = 10^6 C0² · tk / 2731500 · ((10^13 + PK p) / 10^13)², c_m = sum / n
  let f : Int := 10 ^ 13 + s.fsgn F.FLW_H2_PK_PK * p
  let cngN : Int := 10 ^ 6 * (s.fget F.FLW_H2_C0_C0 : Int) ^ 2 * tk * f * f * (s.setH.length : Int) ^ 2
  let cngD : Int := 2731500 * 10 ^ 26 * (s.sumSos : Int) ^ 2
  if m ≤ 2016 then none else some (10 ^ 4 * m * (cngD - cngN), (m - 2016) * cngD)

/-- The hydrogen indicator of a VALID rotation (R186): is it formed, and the state after. -/
def State.h2Step (s : State) (t : Option Int) (p : Option Nat) : Bool × State :=
  match t, p with
  | some t, some p =>
    if s.fbit F.FLW_H2_CFG_EN && s.isGas && p != 0 then
      match s.h2Raw t p with
      | none => (false, s)
      | some (a, b) =>
        let r : Nat × State := if b = 0 then s.fitU 14 (-1) else ((clampInt 0 10000 (roundHalfUpInt a b)).toNat, s)
        let xq := min 10000 r.1
        let s := r.2
        let xf : Int := if s.flw.h2First then 256 * xq else s.flw.xf + (256 * xq - s.flw.xf).fdiv 64
        (true, { s with flw := { s.flw with x := xq, xf := xf, h2First := false } })
    else (false, s)
  | _, _ => (false, s)

/-- A ratio entry of healthy chord n (R181). -/
def State.addRatio (s : State) (n : Nat) : State :=
  let own := ((s.recOf n).bind (·.vel)).getD 0
  let others := s.setH.length - 1
  let sum := s.sumVel - own
  if others < s.minh ∨ (sum.natAbs < s.fget F.FLW_RVMIN_VMIN * others) then s
  else
    let r : Int × State := if sum = 0 then (signed 32 s.draw.1, s.draw.2)
      else (satSigned 32 (roundHalfAwayInt (65536 * own * others) sum), s)
    r.2.setRing n ((r.1 :: r.2.ring n).take 64)

/-- The chord state machine at a VALID step (R182). -/
def State.chordMachine (s : State) (n : Nat) (healthy accepted : Bool) : State :=
  if s.chordState n = chFAILED then
    if s.chordCause n ≠ fcSUBST then s
    else if accepted then
      let s := s.addSat (F.FLW_CHST_OK n) 1
      let rec_ := s.fget F.FLW_SUB_RECOVER
      if rec_ ≠ 0 ∧ s.fget (F.FLW_CHST_OK n) ≥ rec_ then
        (s.fsetAll [(F.FLW_CHST_OK n, 0), (F.FLW_CHST_STATE n, chHEALTHY), (F.FLW_CHST_FCAUSE n, 0)]).fsetBit F.FLW_EVT_RECOVERED n
      else s
    else s.fset (F.FLW_CHST_OK n) 0
  else if healthy then
    s.fsetAll [(F.FLW_CHST_RUN n, 0), (F.FLW_CHST_STATE n, chHEALTHY)]
  else
    let run := s.fget (F.FLW_CHST_RUN n) + 1
    if run ≥ s.smax then s.failChord n fcSUBST
    else s.fsetAll [(F.FLW_CHST_RUN n, run), (F.FLW_CHST_STATE n, chSUBST)]

/-- Advance rings and chord states after a VALID step: every decision uses the sets of the step. -/
def State.afterValid (s : State) : State :=
  let h := s.setH
  let subst := s.setS
  let acc := s.chordNums.filter fun n => match s.recOf n with
    | some r => r.outcome ≤ 2
    | none => false
  let s := s.forMask F.FLW_EVT_SUBST (maskOf subst)
  let s := h.foldl State.addRatio s
  s.chordNums.foldl (fun t n => t.chordMachine n (h.contains n) (acc.contains n)) s

/-- The computation of a VALID step from vm on (R180). -/
def State.validFlow (s : State) (vm : Int) (p : Option Nat) : State :=
  let r0 := s.fitS 32 vm
  let vm := r0.1
  let s := r0.2
  let t := s.flw.temp
  let p := match p with
    | some 0 => none
    | o => o
  let noTemp := t.isNone || (s.isGas && p.isNone)
  let r1 := s.reynolds vm (s.viscosityAt (t.getD 200000) (p.getD 10132500))
  let re := r1.1
  let k := r1.2.profile re
  let r2 := r1.2.fitS 64 (roundHalfAway (vm * k * s.area) (2 ^ 24))
  let s := r2.2
  let cut := decide (vm.natAbs < s.fget F.FLW_CUT_VCUT)
  let live : FlwLive := ⟨s.regN Reg.ROT_NUM, if cut then 0 else r2.1, vm, re, k,
    (roundHalfUp s.sumSos s.setH.length).toNat⟩
  let s := ({ s with flw := { s.flw with valid := live } }).setLive live
  let h2 := s.h2Step t p
  (h2.2.flowStatus flVALID cut noTemp h2.1).afterValid

/-- The meter-flow step (R177, R180); p is the pressure of the last valid conversion in 0.01 Pa. A step that ends before it takes T shows
NO_TEMP 0 (DESIGN CHOICE, log 194). -/
def State.meterFlow (s : State) (p : Option Nat) : State :=
  let s := { s.applyUnfail with flw := { s.applyUnfail.flw with stepped := true } }
  let rot := s.regN Reg.ROT_NUM
  if s.ech.recs.any (·.lost) then
    (s.setLive { s.flw.valid with rot := rot }).flowStatus flHOLD false false false
  else if s.meterPoison then
    ((s.touchMeter.setLive { rot := rot }).flowStatus flPOISON false false false).consumed
  else if s.fbit F.FLW_STATUS_COEF_BAD || s.setH.length < s.minh then
    (s.setLive { rot := rot }).flowStatus flNOFLOW false false false
  else
    let s := s.touchMeter
    match s.meanVel with
    | none => (s.setLive { rot := rot }).flowStatus flNOFLOW false false false
    | some vm => s.validFlow vm p

/-! Snapshot, start-up flow and apply -/

/-- A read of FLW_STATUS takes the snapshot of FLW_ROT to FLW_H2 (R183). -/
def State.flwSnapshot (s : State) : State :=
  let l := s.flw.live
  let q := unsigned 64 l.q
  s.setRegs [(Reg.FLW_ROT, l.rot), (Reg.FLW_Q_LO, q % 2 ^ 32), (Reg.FLW_Q_HI, q / 2 ^ 32), (Reg.FLW_VM, unsigned 32 l.vm),
    (Reg.FLW_RE, l.re), (Reg.FLW_K, l.k), (Reg.FLW_SOS, l.sos), (Reg.FLW_H2, s.flw.x + (s.flw.xf.fdiv 256).toNat * 2 ^ 16)]

/-- The device reads AREA, DIAM and the profile for a start-up flow; a marked item leaves the value formed from what it delivers. At an
apply the check before has read them (DESIGN CHOICE, log 197). -/
def State.touchStartup (s : State) : State :=
  if s.fbit F.FLW_STATUS_COEF_BAD then s
  else ([0x10, 0x11] ++ (List.range 32).map (0x60 + ·)).foldl (fun (t : State) (i : Nat) => t.touchCoef (0x010 + 4 * i) 4) s

/-- The start-up flow at every apply and every FLW commit (R184). -/
def State.evalQstart (s : State) : State :=
  if s.fbit F.FLW_STATUS_COEF_BAD then s.setRegN Reg.FLW_QSTART 0
  else
    let v := s.fget F.FLW_CUT_VCUT
    let nu : Int := if s.isGas then s.fget F.FLW_GAS_NU0_NU0 else Water.nu 200000
    let r := s.reynolds v nu
    let s := r.2
    let q := roundHalfAway (v * s.profile r.1 * s.area : Nat) (2 ^ 24)
    let w := s.fitU 32 (roundHalfUp (q * 3600) (10 ^ 9))
    w.2.setRegN Reg.FLW_QSTART w.1

/-- What an image apply does to the flow engine (R182, R186): rings emptied, counters cleared, chords healthy before the checks. -/
def State.flwApply (s : State) : State :=
  let s := (List.range 8).foldl (fun t n => (t.setRing n []).fsetAll
    [(F.FLW_CHST_STATE n, chHEALTHY), (F.FLW_CHST_FCAUSE n, 0), (F.FLW_CHST_RUN n, 0), (F.FLW_CHST_OK n, 0)]) s
  let s := { s with flw := { s.flw with x := 0, xf := 0, h2First := true, unfail := 0 } }
  s.checkCoefs.evalQstart

end Sys2Proof.Machine
end

