-- ==== Sys2Proof/Machine/Echo.lean ====
section
/-! DEFINITION. The echo step (R144 to R171): a slot's two directions, the pair checks, the outcome, the amplitude watch, the chord
record in the ring, the records that R167 writes at S1, and the empty-pipe state machine. -/

namespace Sys2Proof.Machine

/-! Direction causes (R151) and outcomes (R158) -/

abbrev caOK : Nat := 0
abbrev caSKIP : Nat := 1
abbrev caNO_STAMPS : Nat := 2
abbrev caWEAK : Nat := 3
abbrev caEARLY : Nat := 4
abbrev caFEW : Nat := 5
abbrev caFIT : Nat := 6
abbrev caJUMP : Nat := 7
abbrev caPOISON : Nat := 8

abbrev ocACCEPT : Nat := 0
abbrev ocFIXED : Nat := 1
abbrev ocSEED : Nat := 2
abbrev ocHALF : Nat := 3
abbrev ocSLIP : Nat := 4
abbrev ocLOST : Nat := 5
abbrev ocSKIP : Nat := 6

/-! Chord state -/

def State.echc (s : State) (n : Nat) : EchChord := s.ech.chords.getD n {}

/-- Store the echo state of chord n. -/
def State.setEchc (s : State) (n : Nat) (c : EchChord) : State :=
  { s with ech := { s.ech with chords := setAt s.ech.chords n c } }

/-- Unseed chord n and clear REJ (R159). -/
def State.unseed (s : State) (n : Nat) : State :=
  (s.setEchc n { s.echc n with prev := none }).fsetAll [(F.ECH_CHST_SEEDED n, 0), (F.ECH_CHST_REJ n, 0)]

/-- Show the averages of chord n in its registers (R160). -/
def State.showAvg (s : State) (n : Nat) : State :=
  let c := s.echc n
  let v := fun (a : Option Int) => match a with
    | some x => unsigned 16 (x.fdiv 256)
    | none => 0x8000
  s.fsetAll [(F.ECH_CHST_AVG_UP n, b2n c.avgUp.isSome), (F.ECH_CHST_AVG_DN n, b2n c.avgDn.isSome),
    (F.ECH_AVG_UP n, v c.avgUp), (F.ECH_AVG_DN n, v c.avgDn)]

/-- Clear both averages of chord n (AMP_RESET, R160). -/
def State.clearAvg (s : State) (n : Nat) : State := (s.setEchc n { s.echc n with avgUp := none, avgDn := none }).showAvg n

/-! One direction (R146 to R151) -/

/-- What stages 1 to 5 give for a direction: cause, raw arrival, transit time, confidence, pairs and amplitude. -/
structure Dir where
  cause : Nat
  t0 : Int := 0
  t : Int := 0
  qual : Nat := 0
  nfit : Nat := 0
  amp : Int := -32768
  deriving DecidableEq, Repr

/-- Number of clamped fit pairs NFIT and NMIN. -/
def State.nfitMax (s : State) : Nat := min 64 (max 1 (s.fget F.ECH_CFG2_NFIT))
def State.nfitMin (s : State) : Nat := min 64 (max 1 (s.fget F.ECH_CFG_NMIN))

/-- The burst that reaches a direction: the partner's, from the drive waveform of R101 to R103. -/
def State.partnerBurst (s : State) (c : ChordCfg) (isB : Bool) : Echo.Burst :=
  let codes := match s.image with
    | some i => i.codes
    | none => []
  let b := Echo.burstOf c s.chipCyc (chipWord codes (if isB then c.codeA else c.codeB))
    (s.fget (F.AFE_TX_CHIRP_SPAN c.chord)) (s.fbit (F.AFE_TX_CHIRP_DOWN c.chord))
  { b with fw := s.regN (Reg.AFE_FW c.chord) }

/-- Stages 1 to 3 on a direction's samples and stamps: cause, raw arrival, confidence and pairs (R146 to R151). -/
def State.fitDirection (s : State) (c : ChordCfg) (k : Nat) (isB : Bool) (x : List Int) (stamps : List Nat) : Dir :=
  let d := s.fget (F.AFE_SLOT_CTL_DECIM k)
  let b := s.partnerBurst c isB
  let lr := Echo.templateLen c s.chipCyc d
  let e := Echo.envelope x ((List.range lr).map (Echo.template b d)) ((List.range lr).map (Echo.quadrature b d))
  let emax := e.foldl max 0
  let p := Echo.pick (max 1 (s.fget F.ECH_CFG_FRAC)) e emax b.fw d
  let pol := s.fget (F.AFE_RX_POL c.chord)
  let tau := Echo.crossings b pol
  let tb := Echo.burstStart p (s.fget (F.AFE_SLOT_WIN_OPEN k)) d (s.fsgn (F.ECH_PICK_PICK c.chord))
  let h := (Echo.leastGap tau).getD 0 / 2
  let r := if p.k1 = 0 then [] else Echo.pairUp tb h s.nfitMax tau stamps
  let m := if pol ≥ 2 then 2 else 1
  let t0 := Echo.arrival r (s.ech.slotScale.getD k 0)
  let tx := if isB then c.portA else c.portB
  let rx := if isB then c.portB else c.portA
  let t := t0 - s.fsgn (F.ECH_PTX_DLY tx) - s.fsgn (F.ECH_PRX_DLY rx) -
    (Config.gainDelay (min 120 (s.fget (F.AFE_SLOT_CTL_GAIN k)))).toInt
  let cause :=
    if stamps.isEmpty then caNO_STAMPS
    else if emax < s.fget F.ECH_AMP_EMIN * lr then caWEAK
    else if p.k1 = 0 || p.early then caEARLY
    else if r.length < s.nfitMin then caFEW
    else if Echo.residualHigh r (s.fget F.ECH_AMP_FITMAX) m b.fw || decide (t < 0) || decide ((2 : Int) ^ 48 ≤ t) then caFIT
    else caOK
  { cause := cause, t0 := t0, t := t, qual := if p.k1 = 0 then 0 else p.conf, nfit := r.length }

/-- First byte of the active image's copy in BANK1 (R77). -/
abbrev activeCopy : Nat := 0x108000

/-- The device reads the chip word of an image code in the copy of BANK1 (R104): is it poisoned, and the state after. -/
def State.readTemplate (s : State) (c : ChordCfg) (isB : Bool) : Bool × State :=
  let code := if isB then c.codeA else c.codeB
  match s.image with
  | some i =>
    if c.burst = 0 ∧ 8 ≤ code then (s.readBytes (activeCopy + i.codesAt + 2 * (code - 8)) 2 .device).2 else (false, s)
  | none => (false, s)

/-- Is a parameter register that a direction reads poisoned (R151): the chips' or the chirp's, those of the fit, the delay of its sender and
that of its receiver? -/
def State.paramPoison (s : State) (c : ChordCfg) (isB : Bool) : Bool :=
  let n := c.chord
  let ends := if isB then [Reg.ECH_PTX c.portA, Reg.ECH_PRX c.portB] else [Reg.ECH_PTX c.portB, Reg.ECH_PRX c.portA]
  ([Reg.AFE_BURST, Reg.AFE_RX n, Reg.ECH_CFG, Reg.ECH_CFG2, Reg.ECH_AMP, Reg.ECH_PICK n] ++ ends ++
    if c.burst = 0 then [] else [Reg.AFE_TX n]).any s.regBad

/-- A direction of slot k, received at PORT_B when `isB` (R146 to R151). No amplitude is formed under SKIP; the record then holds
-32768, where the spec is silent (DESIGN CHOICE, log 149). -/
def State.direction (s : State) (c : ChordCfg) (k : Nat) (isB : Bool) : Dir × State :=
  let skip := if isB then s.fbit (F.AFE_SLOT_RXB_SKIP k) else s.fbit (F.AFE_SLOT_RXA_SKIP k)
  if skip then ({ cause := caSKIP }, s)
  else
    let nst := min 64 (if isB then s.fget (F.AFE_SLOT_RXB_NST k) else s.fget (F.AFE_SLOT_RXA_NST k))
    let peak := if isB then s.fget (F.AFE_SLOT_RXB_PEAK k) else s.fget (F.AFE_SLOT_RXA_PEAK k)
    let amp := Echo.amplitude peak (s.fget (F.AFE_SLOT_CTL_GAIN k))
    let a := s.readBytes (slotAddr k + (if isB then 0x300 else 0)) (4 * nst) .device
    let b := a.2.2.readBytes (slotAddr k + (if isB then 0x400 else 0x100)) 512 .device
    let w := b.2.2.readTemplate c isB
    if a.2.1 || b.2.1 || w.1 || w.2.paramPoison c isB then ({ cause := caPOISON, amp := amp }, w.2.consumed)
    else
      let stamps := (List.range nst).map fun i => leAt a.1 (4 * i) 4
      ({ w.2.fitDirection c k isB (b.1.map (·.toInt)) stamps with amp := amp }, w.2)

/-! The sum check (R154 to R156) -/

/-- c(T_prev)/c(T) applied to a sum (R154). -/
def State.scaleSum (s : State) (sum tPrev t : Int) : Int :=
  if s.isGas then Echo.rootHalfUp ((sum * sum * (2731500 + tPrev)).toNat) (2731500 + t).toNat
  else roundHalfUp (sum * Echo.waterSound tPrev) (Echo.waterSound t)

/-- The seed sum of a geometry of length l at temperature t (R155); a gas with C0 = 0 leaves it open, so it is then a free
value. Of a poisoned length the stored value is used, where the spec is silent (DESIGN CHOICE, log 151). -/
def State.seedSum (s : State) (l : Nat) (t : Int) : Int × State :=
  let n := 2 * l * 16384 * 10 ^ 6
  if s.isGas then
    let c0 := s.fget F.ECH_GAS_C0_C0
    if c0 = 0 then s.fitS 48 (2 ^ 48) else (Echo.rootHalfUp (n * n * 2731500) (c0 * c0 * (2731500 + t).toNat), s)
  else (roundHalfUp ((n * 10 ^ 4 : Nat) : Int) (Echo.waterSound t), s)

/-- The temperature T of the sum check of a slot: the last valid conversion at its shot facet (R28, R154). -/
def State.slotT (s : State) (k : Nat) : Option Int := s.ech.slotTemp.getD k none

/-- The expected sum of the pair in slot k, none where no check is made, with NO_TEMP and the state after (R154, R155). -/
def State.expected (s : State) (c : ChordCfg) (k : Nat) : Option Int × Bool × State :=
  match (s.echc c.chord).prev, s.slotT k with
  | some p, some t =>
    match p.temp with
    | some tp => (some (s.scaleSum p.sum tp t), false, s)
    | none => (some p.sum, true, s)
  | some p, none => (some p.sum, true, s)
  | none, some t =>
    if s.fbit F.ECH_CFG_SEEDCHK then
      let r := (s.touchCoef (0x010 + 8 * c.geom) 4).seedSum (s.geomL c.geom) t
      (some r.1, false, r.2)
    else (none, false, s)
  | none, none => (none, true, s)

/-- The period in TQ (R156). -/
def State.period (s : State) (c : ChordCfg) (k : Nat) : Int :=
  roundHalfUp ((2 ^ 9 * 8000 * s.ech.slotScale.getD k 0 : Nat) : Int) (13 * max 1 (s.regN (Reg.AFE_FW c.chord)))

/-- The verdict of the sum check: slip, or the directions after a correction (R156). -/
structure SumVerdict where
  slip : Bool := false
  fixed : Bool := false
  up : Dir
  dn : Dir
  deriving DecidableEq, Repr

/-- Shift a direction by whole periods. -/
def Dir.shift (d : Dir) (x : Int) : Dir := { d with t := d.t - x, t0 := d.t0 - x }

/-- The decisions of R156. -/
def State.sumCheck (s : State) (exp : Option Int) (period : Int) (up dn : Dir) : SumVerdict :=
  match exp with
  | none => { up := up, dn := dn }
  | some e =>
    let ds := up.t + dn.t - e
    let m := roundHalfAwayInt ds period
    let rho := ds - m * period
    let low := fun (d : Dir) => decide (d.qual < s.fget F.ECH_CFG_CONF_MIN)
    if m = 0 then { up := up, dn := dn }
    else if m.natAbs = 1 ∧ 4 * rho.natAbs ≤ period.natAbs ∧ low up ≠ low dn then
      if low up then { fixed := true, up := up.shift (m * period), dn := dn }
      else { fixed := true, up := up, dn := dn.shift (m * period) }
    else { slip := true, up := up, dn := dn }

/-! The window (R157) -/

/-- The predicted time of a direction: scaled by S_exp / S_prev; a sum of 0 leaves it open, so it is then a free value. -/
def State.predict (s : State) (tPrev sExp sPrev : Int) : Int × State :=
  if sPrev = 0 then s.fitS 49 (2 ^ 49) else (roundHalfUpInt (tPrev * sExp) sPrev, s)

/-- The window check on one direction. -/
def State.window (s : State) (d : Dir) (tPrev sExp sPrev period : Int) : Dir × State :=
  if d.cause ≠ caOK then (d, s)
  else
    let r := s.predict tPrev sExp sPrev
    if 256 * (d.t - r.1).natAbs > s.fget F.ECH_CFG_JUMP * period.natAbs then ({ d with cause := caJUMP }, r.2) else (d, r.2)

/-! The amplitude watch (R160, R161) -/

/-- Update a direction's average: the new average and ATTEN. -/
def State.avgStep (s : State) (a : Option Int) (d : Dir) : Option Int × Bool :=
  if d.cause = caOK ∨ d.cause = caJUMP then
    match a with
    | none => (some (256 * d.amp), false)
    | some x =>
      let lim := s.fget F.ECH_AMP_ATTEN_DB
      if lim ≠ 0 ∧ d.amp < x.fdiv 256 - 10 * lim then (some x, true)
      else (some (x + (256 * d.amp - x).fdiv (2 ^ s.fget F.ECH_CFG2_AVG_SH)), false)
  else (a, false)

/-- The amplitude watch of chord n: ATTEN of both directions, ASYM, and the state after. -/
def State.ampWatch (s : State) (n : Nat) (up dn : Dir) : (Bool × Bool × Bool) × State :=
  let c := s.echc n
  let u := s.avgStep c.avgUp up
  let d := s.avgStep c.avgDn dn
  let lim := s.fget F.ECH_AMP_ASYM_DB
  let asym := match u.1, d.1 with
    | some a, some b => decide (lim ≠ 0 ∧ (a.fdiv 256 - b.fdiv 256).natAbs > 10 * lim)
    | _, _ => false
  let s := (s.setEchc n { c with avgUp := u.1, avgDn := d.1 }).showAvg n
  let s := s.when (u.2 || d.2) fun s => s.fsetBit F.ECH_EVT_ATTEN n
  let s := s.when asym fun s => s.fsetBit F.ECH_EVT_ASYM n
  ((u.2, d.2, asym), s)

/-! The pair (R153, R158, R159) -/

/-- The outcome of a pair (R158). -/
def outcomeOf (slip fixed seeded : Bool) (up dn : Nat) : Nat :=
  if slip then ocSLIP
  else if up = caOK ∧ dn = caOK then (if seeded then (if fixed then ocFIXED else ocACCEPT) else ocSEED)
  else if up = caSKIP ∧ dn = caSKIP then ocSKIP
  else if up = caOK ∨ dn = caOK then ocHALF
  else ocLOST

/-- Set a bit of ECH_SLIP_SRC; a new setting raises SLIP (R171). -/
def State.slipSrc (s : State) (f : Fld) (n : Nat) : State :=
  if s.ftest f n then s else (s.fsetBit f n).raise F.SYS_IRQ_SLIP

/-- REJ and the reseed (R159). -/
def State.countReject (s : State) (n outcome : Nat) (jump : Bool) : State :=
  if outcome ≤ 2 then s.fset (F.ECH_CHST_REJ n) 0
  else if outcome = ocSLIP ∨ jump then
    let s := s.addSat (F.ECH_CHST_REJ n) 1
    if s.fget (F.ECH_CHST_REJ n) ≥ max 1 (s.fget F.ECH_CFG2_RESEED) then s.unseed n else s
  else s

/-- An accepted pair, taken at temperature t, becomes the previous one, and the next window is placed (R158). A TEXP that the
register cannot hold is a free value. -/
def State.acceptPair (s : State) (n : Nat) (up dn : Dir) (t : Option Int) : State :=
  let s := s.setEchc n { s.echc n with prev := some ⟨up.t, dn.t, up.t + dn.t, t⟩ }
  let s := s.fset (F.ECH_CHST_SEEDED n) 1
  let r := s.fitU 14 (roundHalfUp (up.t0 + dn.t0) (2 * 1638400))
  r.2.fset (F.AFE_TEXP_TEXP n) r.1

/-- Everything the record takes from the pair checks. -/
structure PairOut where
  up : Dir
  dn : Dir
  outcome : Nat
  fixed : Bool := false
  seed : Bool := false
  noTemp : Bool := false
  attenUp : Bool := false
  attenDn : Bool := false
  asym : Bool := false
  deriving DecidableEq, Repr

/-- Steps 1 to 4 of R153 on the two directions of chord n. -/
def State.pairStep (s : State) (c : ChordCfg) (k : Nat) (up dn : Dir) : PairOut × State :=
  let n := c.chord
  let prev := (s.echc n).prev
  let e := s.expected c k
  let temp := s.slotT k
  let s := e.2.2
  let period := s.period c k
  let v := if up.cause = caOK ∧ dn.cause = caOK then s.sumCheck e.1 period up dn else { up := up, dn := dn }
  let s := s.when v.slip fun s => s.slipSrc F.ECH_SLIP_SRC_SLIP n
  let s := s.when v.fixed fun s => s.slipSrc F.ECH_SLIP_SRC_FIXED n
  let w : (Dir × Dir) × State :=
    match prev, e.1 with
    | some p, some x =>
      if v.slip then ((v.up, v.dn), s)
      else
        let a := s.window v.up p.up x p.sum period
        let b := a.2.window v.dn p.dn x p.sum period
        ((a.1, b.1), b.2)
    | _, _ => ((v.up, v.dn), s)
  let s := w.2
  let u := w.1.1
  let d := w.1.2
  let outcome := outcomeOf v.slip v.fixed prev.isSome u.cause d.cause
  let jump := u.cause == caJUMP || d.cause == caJUMP
  let s := s.when jump fun s => s.fsetBit F.ECH_EVT_JUMP n
  let s := s.when (outcome == ocHALF) fun s => s.fsetBit F.ECH_EVT_HALF n
  let s := s.when (outcome ≤ 2) fun s => s.acceptPair n u d temp
  let s := s.countReject n outcome jump
  let a := s.ampWatch n u d
  ({ up := u, dn := d, outcome := outcome, fixed := v.fixed, seed := prev.isNone && outcome != ocSKIP, noTemp := e.2.1,
     attenUp := a.1.1, attenDn := a.1.2.1, asym := a.1.2.2 }, a.2)

/-! The chord record (R164 to R167) -/

/-- The FLAGS word of a record (R165). -/
def flagsOf (p : PairOut) (clipUp clipDn subst failed : Bool) : Nat :=
  let timed := fun (c : Nat) => decide (1 ≤ c ∧ c ≤ 6)
  b2n (p.outcome == ocHALF) + b2n (p.outcome == ocSLIP) * 2 + b2n p.fixed * 4 + b2n subst * 8 + b2n failed * 16 + b2n p.asym * 32 +
    b2n p.seed * 64 + b2n p.noTemp * 128 + b2n (timed p.up.cause) * 2 ^ 8 + b2n (timed p.dn.cause) * 2 ^ 9 +
    b2n p.attenUp * 2 ^ 10 + b2n p.attenDn * 2 ^ 11 + b2n clipUp * 2 ^ 12 + b2n clipDn * 2 ^ 13 +
    p.up.cause * 2 ^ 16 + p.dn.cause * 2 ^ 20 + p.outcome * 2 ^ 24

/-- The 48 bytes of a record (R165). -/
def recordBytes (rot flags tu td : Nat) (dt : Int) (up dn : Dir) (vel : Int) (sos : Nat) (tUsed : Option Int) (chord tag : Nat) :
    List Byte :=
  leBytes 4 rot ++ leBytes 4 flags ++ leBytes 6 tu ++ leBytes 6 td ++ leBytes 6 (unsigned 48 dt) ++
    leBytes 2 (unsigned 16 up.amp) ++ leBytes 2 (unsigned 16 dn.amp) ++ leBytes 1 up.qual ++ leBytes 1 dn.qual ++
    leBytes 4 (unsigned 32 vel) ++ leBytes 4 sos ++
    leBytes 4 (match tUsed with
      | some t => unsigned 32 t
      | none => 0x80000000) ++
    leBytes 1 chord ++ leBytes 1 tag ++ leBytes 1 up.nfit ++ leBytes 1 dn.nfit

/-- The pointer after the record of chord n at a position (R166): with hardware shots it passes the leading records of the rotation
that are written, so that every record before it is complete. -/
def State.ringPtr (s : State) (n pos : Nat) : Nat :=
  let next := if s.hostShots then pos + 1
    else s.ech.base + (s.chordNums.takeWhile fun m => m == n || (s.recOf m).isSome).length
  next % max 1 (s.fget F.ECH_RING_LEN_LEN)

/-- Write the record of chord n at a ring position; the pointer and ECH_LAST_ROT follow (R164, R166). -/
def State.putRecord (s : State) (n pos rot : Nat) (b : List Byte) : State :=
  let s := s.writeBytes (s.regN Reg.ECH_RING_BASE + 48 * pos) b
  s.fsetAll [(F.ECH_RING_PTR, s.ringPtr n pos), (F.ECH_LAST_ROT_ROT, rot)]

/-- Index of a chord among the image's chords. -/
def State.chordIndex (s : State) (n : Nat) : Nat := (s.chordNums.takeWhile (· != n)).length

/-- The position a chord's record takes: its place of this rotation with hardware shots, the next position otherwise (R164). -/
def State.recordPos (s : State) (n : Nat) : Nat :=
  if s.hostShots then s.fget F.ECH_RING_PTR else (s.ech.base + s.chordIndex n) % max 1 (s.fget F.ECH_RING_LEN_LEN)

/-- SUBST and FAILED of a record, as chord state and ring stand when it is written (R178); flow in host mode substitutes
nothing (R176). -/
def State.recMarks (s : State) (r : EchRec) : Bool × Bool :=
  (!s.hostFlow && !s.isHealthy r && !s.isExcluded r.chord, s.chordState r.chord == chFAILED)

/-- Add a record to those of this rotation. -/
def State.noteRec (s : State) (r : EchRec) : State := { s with ech := { s.ech with recs := s.ech.recs ++ [r] } }

/-- Process slot k of chord c in full (R153): the position of its record, and the state after. The slot becomes FREE (R144). -/
def State.processSlot (s : State) (c : ChordCfg) (k : Nat) : Nat × State :=
  let n := c.chord
  let a := s.direction c k false
  let b := a.2.direction c k true
  let s := b.2
  let aUp := s.fbit (F.ECH_CH_A_UP n)
  let p := s.pairStep c k (if aUp then a.1 else b.1) (if aUp then b.1 else a.1)
  let s := p.2
  let o := p.1
  let ok := fun (d : Dir) => d.cause == caOK && (o.outcome ≤ 3)
  let tu : Int := if ok o.up then o.up.t else 0
  let td : Int := if ok o.dn then o.dn.t else 0
  let dt : Int := if o.outcome ≤ 2 then tu - td else 0
  let f := s.chordFlow c o.outcome tu td dt
  let s := f.2
  let v : Int × Int := f.1.getD (0, 0)
  let vel := v.1
  let sos := v.2.toNat
  let r : EchRec := ⟨n, o.up.cause, o.dn.cause, o.outcome, f.1.map fun x => x.1, sos, false⟩
  let m := s.recMarks r
  let clipA := s.fbit (F.AFE_SLOT_RXA_CLIP k)
  let clipB := s.fbit (F.AFE_SLOT_RXB_CLIP k)
  let flags := flagsOf o (if aUp then clipA else clipB) (if aUp then clipB else clipA) m.1 m.2
  let pos := s.recordPos n
  let rot := s.regN (Reg.AFE_SLOT_ROT k)
  let s := s.putRecord n pos rot (recordBytes rot flags tu.toNat td.toNat dt o.up o.dn vel sos (s.slotT k) n
    (s.fget (F.AFE_SLOT_CTL_TAG k)))
  (pos, ((s.noteRec r).setSlot k slotFREE))

/-- The record of a chord whose shot or step was abandoned, not fired or stopped (R167): its position and the state after. NO_TEMP
stays 0, where the spec is silent (DESIGN CHOICE, log 150). -/
def State.skipRecord (s : State) (n rot tag : Nat) : Nat × State :=
  let d : Dir := { cause := caSKIP }
  let r : EchRec := { chord := n, causeUp := caSKIP, causeDn := caSKIP, outcome := ocSKIP, lost := true }
  let m := s.recMarks r
  let pos := s.recordPos n
  let flags := flagsOf { up := d, dn := d, outcome := ocSKIP } false false m.1 m.2
  (pos, (s.putRecord n pos rot (recordBytes rot flags 0 0 0 d d 0 0 ((s.echc n).temp) n tag)).noteRec r)

/-! Rotation classes and the empty pipe (R162, R163) -/

inductive RotClass where
  | brk | neutral | count
  deriving DecidableEq, Repr

/-- Is a chord kept for R162: both ports reported present by the census? -/
def State.censused (s : State) (n : Nat) : Bool :=
  match s.chordCfg n with
  | some c => s.fget (F.AFE_CENSUS_STATE c.portA) == 1 && s.fget (F.AFE_CENSUS_STATE c.portB) == 1
  | none => false

/-- The class of the rotation that ends (R162). -/
def State.rotClass (s : State) : RotClass :=
  let rs := s.ech.recs.filter fun r => s.censused r.chord
  let causes := (rs.map fun r => [r.causeUp, r.causeDn]).flatten
  if causes.any fun c => c == caOK || c == caJUMP then .brk
  else if rs.isEmpty || causes.any fun c => c == caSKIP || c == caPOISON then .neutral
  else .count

/-- The empty-pipe state machine on a class: did the pipe become empty, and the state after (R163). EMPTY in SYS_IRQ is raised at
S6 by the mark. -/
def State.emptyStep (s : State) (c : RotClass) : Bool × State :=
  match c with
  | .neutral => (false, s)
  | .brk =>
    if s.fbit F.ECH_STATUS_EMPTY then
      (false, s.fsetAll [(F.ECH_STATUS_RUN, 0), (F.ECH_STATUS_EMPTY, 0), (F.ECH_STATUS_REFILL, 1)])
    else (false, s.fset F.ECH_STATUS_RUN 0)
  | .count =>
    if s.fbit F.ECH_STATUS_EMPTY then (false, s)
    else
      let m := max 1 (s.fget F.ECH_CFG2_EMPTY_M)
      if s.fget F.ECH_STATUS_RUN + 1 ≥ m then (true, s.fsetAll [(F.ECH_STATUS_RUN, m), (F.ECH_STATUS_EMPTY, 1)])
      else (false, s.addSat F.ECH_STATUS_RUN 1)

/-- A fault or an apply resets the empty-pipe state (R163). -/
def State.emptyReset (s : State) : State := s.fsetAll [(F.ECH_STATUS_RUN, 0), (F.ECH_STATUS_EMPTY, 0)]

/-- What an image apply does to the echo processor (R164, R170). -/
def State.echApply (s : State) (i : Image) : State :=
  let s := (List.range 8).foldl (fun t n => (t.unseed n).clearAvg n) s
  let s := (List.range 8).foldl (fun t n => t.fset (F.AFE_TEXP_TEXP n) (t.fget (F.AFE_WIN2_TINIT n))) s
  let s := s.emptyReset
  let s := { s with ech := { s.ech with base := 0, recs := [], lost := [] } }
  s.fsetAll [(F.ECH_RING_PTR, 0), (F.ECH_RING_BASE_BASE, 0x100000 + i.ringBank * 0x8000),
    (F.ECH_RING_LEN_LEN, i.ringRots * i.chords.length)]

/-- Cycles of the 52 MHz clock that the step of a chord takes under the active values (R145). -/
def State.echoCycles (s : State) (c : ChordCfg) (d : Nat) : Nat := Echo.stepCycles (Echo.templateLen c s.chipCyc d) s.nfitMax

/-- Work time of an echo step in µs (R145). -/
def State.echoUs (s : State) (c : ChordCfg) (d : Nat) : Nat := ceilDiv (s.echoCycles c d) 52

end Sys2Proof.Machine
end

