-- ==== Sys2Proof/Machine/Calendar.lean ====
section
/-! DEFINITION. Calendar arithmetic of the real-time clock (R357, R358, R365, R366): BCD fields, the Gregorian rules from 2000
to 2399, the carry of a second, and when an alarm matches inside a forward step. -/

namespace Sys2Proof.Machine.Cal

/-- The BCD byte of a number below 100. -/
def toBcd (n : Nat) : Nat := n / 10 % 10 * 16 + n % 10

/-- The number a BCD byte stands for. -/
def ofBcd (b : Nat) : Nat := b / 16 * 10 + b % 16

/-- Are both digits at most 9? -/
def bcdOk (b : Nat) : Bool := b / 16 ≤ 9 && b % 16 ≤ 9

/-- The eight time fields as their registers hold them, in the order of RTC_PEND (R360). -/
structure Time where
  sec : Nat
  min : Nat
  hour : Nat
  day : Nat
  month : Nat
  cent : Nat
  wday : Nat
  year : Nat
  deriving DecidableEq, Repr

/-- A time from the list of its eight fields. -/
def Time.ofList (l : List Nat) : Time :=
  ⟨l.getD 0 0, l.getD 1 0, l.getD 2 0, l.getD 3 0, l.getD 4 0, l.getD 5 0, l.getD 6 0, l.getD 7 0⟩

/-- The eight fields in order. -/
def Time.toList (t : Time) : List Nat := [t.sec, t.min, t.hour, t.day, t.month, t.cent, t.wday, t.year]

/-- The year as a number, 2000 to 2399. -/
def Time.y (t : Time) : Nat := ofBcd t.cent * 100 + ofBcd t.year

/-- Leap years (R357). -/
def leap (y : Nat) : Bool := y % 4 == 0 && (y % 100 != 0 || y % 400 == 0)

/-- Days of a month. -/
def monthLen (y m : Nat) : Nat :=
  if m = 2 then (if leap y then 29 else 28)
  else if m = 4 ∨ m = 6 ∨ m = 9 ∨ m = 11 then 30 else 31

/-- Is this a time that R357 and R358 allow? -/
def Time.ok (t : Time) : Bool :=
  t.toList.all bcdOk && ofBcd t.sec < 60 && ofBcd t.min < 60 && ofBcd t.hour < 24 &&
    1 ≤ ofBcd t.month && ofBcd t.month ≤ 12 && 0x20 ≤ t.cent && t.cent ≤ 0x23 && t.wday ≤ 6 &&
    1 ≤ ofBcd t.day && ofBcd t.day ≤ monthLen t.y (ofBcd t.month)

/-- The date one day later, and whether the calendar passed 2399-12-31 (R357). -/
def nextDate (y m d : Nat) : (Nat × Nat × Nat) × Bool :=
  if d < monthLen y m then ((y, m, d + 1), false)
  else if m < 12 then ((y, m + 1, 1), false)
  else if y < 2399 then ((y + 1, 1, 1), false)
  else ((2000, 1, 1), true)

/-- One second later: the carry of R357 and the weekday step of R358; the flag says that the calendar wrapped. -/
def Time.next (t : Time) : Time × Bool :=
  if ofBcd t.sec < 59 then ({ t with sec := toBcd (ofBcd t.sec + 1) }, false)
  else if ofBcd t.min < 59 then ({ t with sec := 0, min := toBcd (ofBcd t.min + 1) }, false)
  else if ofBcd t.hour < 23 then ({ t with sec := 0, min := 0, hour := toBcd (ofBcd t.hour + 1) }, false)
  else
    let r := nextDate t.y (ofBcd t.month) (ofBcd t.day)
    (⟨0, 0, 0, toBcd r.1.2.2, toBcd r.1.2.1, toBcd (r.1.1 / 100), (t.wday + 1) % 7, toBcd (r.1.1 % 100)⟩, r.2)

/-- Days from 2000-01-01 to the first of January of a year. -/
def yearDays (y : Nat) : Nat :=
  let n := y - 2000
  365 * n + (n + 3) / 4 - (n + 99) / 100 + (n + 399) / 400

/-- Days of a year before a month. -/
def monthDays (y m : Nat) : Nat := ((List.range (m - 1)).map fun i => monthLen y (i + 1)).sum

/-- Day number from 2000-01-01. -/
def Time.dayNum (t : Time) : Nat := yearDays t.y + monthDays t.y (ofBcd t.month) + (ofBcd t.day - 1)

/-- Second of the day. -/
def Time.tod (t : Time) : Nat := ofBcd t.hour * 3600 + ofBcd t.min * 60 + ofBcd t.sec

/-- Seconds from 2000-01-01 00:00:00. -/
def Time.secs (t : Time) : Nat := t.dayNum * 86400 + t.tod

/-- An alarm: its six fields, none where the field is masked (R365). -/
structure Alarm where
  sec : Option Nat
  min : Option Nat
  hour : Option Nat
  day : Option Nat
  month : Option Nat
  wday : Option Nat
  deriving DecidableEq, Repr

/-- Does an unmasked field equal the live field? -/
def eqOrMasked (f : Option Nat) (v : Nat) : Bool :=
  match f with
  | none => true
  | some x => x == v

/-- Does the alarm match this second (R365)? -/
def Alarm.hits (a : Alarm) (t : Time) : Bool :=
  eqOrMasked a.sec t.sec && eqOrMasked a.min t.min && eqOrMasked a.hour t.hour &&
    eqOrMasked a.day t.day && eqOrMasked a.month t.month && eqOrMasked a.wday t.wday

/-- Is there a second of the day strictly between `lo` and `hi` (counted one higher, so that 0 stands before the first) whose
time of day matches? -/
def Alarm.hitsTod (a : Alarm) (lo hi : Nat) : Bool :=
  (List.range 24).any fun h => eqOrMasked a.hour (toBcd h) &&
    (h * 3600 + 3600 ≥ lo && h * 3600 < hi) &&
    (List.range 60).any fun m => eqOrMasked a.min (toBcd m) &&
      (h * 3600 + m * 60 + 60 ≥ lo && h * 3600 + m * 60 < hi) &&
      (List.range 60).any fun c => eqOrMasked a.sec (toBcd c) &&
        (lo < h * 3600 + m * 60 + c + 1 && h * 3600 + m * 60 + c + 1 < hi)

/-- Does a matching second boundary lie strictly inside a forward step? Walks the days from (`y`,`m`,`d`) with weekday `wd`, as
counted on from before the step; `lo` is the bound in the first day, `hi` the bound in the last of `n` more days. -/
def Alarm.hitsSpan (a : Alarm) (y m d wd lo hi : Nat) : Nat → Bool
  | 0 =>
    (eqOrMasked a.day (toBcd d) && eqOrMasked a.month (toBcd m) && eqOrMasked a.wday wd) && a.hitsTod lo hi
  | n + 1 =>
    ((eqOrMasked a.day (toBcd d) && eqOrMasked a.month (toBcd m) && eqOrMasked a.wday wd) && a.hitsTod lo 86401) ||
      (let r := (nextDate y m d).1
       a.hitsSpan r.1 r.2.1 r.2.2 ((wd + 1) % 7) 0 hi n)

/-- Does a matching boundary lie strictly between the live time `old` and the committed time `new` (R366)? The live second
itself has already passed. -/
def Alarm.skipped (a : Alarm) (old new : Time) : Bool :=
  a.hitsSpan old.y (ofBcd old.month) (ofBcd old.day) old.wday (old.tod + 1) (new.tod + 1) (new.dayNum - old.dayNum)

end Sys2Proof.Machine.Cal
end

