-- ==== Sys2Proof/Machine/Tiu.lean ====
section
/-! DEFINITION. The time-interval unit (R124 to R143): stream stamps, event channels with their queues, statistics units, loss of
lock, and the ageing scale. -/

namespace Sys2Proof.Machine

abbrev evIDLE : Nat := 0
abbrev evARMED : Nat := 1
abbrev evRUN : Nat := 2
abbrev evDONE : Nat := 3
abbrev evOVF : Nat := 4
abbrev evUNLOCK : Nat := 5

/-! Access -/

/-- Event channel e. -/
def State.evc (s : State) (e : Nat) : EvChan := s.tiu.ev.getD e {}

/-- State of event channel e. -/
def State.evState (s : State) (e : Nat) : Nat := s.fget (F.TIU_EV_FLG_STATE e)

/-- Show the level and the head flags of a channel in its FLG register (R132). -/
def State.evShow (s : State) (e : Nat) : State :=
  let q := (s.evc e).queue
  let fl := match q with
    | r :: _ => r.flags
    | [] => 0
  s.fsetAll [(F.TIU_EV_FLG_LEVEL e, q.length), (F.TIU_EV_FLG_COARSE_OVF e, fl % 2),
    (F.TIU_EV_FLG_UNRESOLVED e, fl / 2 % 2), (F.TIU_EV_FLG_ORDER e, fl / 4 % 2)]

/-- Store event channel e. -/
def State.setEvc (s : State) (e : Nat) (c : EvChan) : State :=
  ({ s with tiu := { s.tiu with ev := setAt s.tiu.ev e c } }).evShow e

/-- The channel's mode: 3 is taken as off. -/
def State.evMode (s : State) (e : Nat) : Nat :=
  let m := s.fget (F.TIU_EV_CFG_MODE e)
  if m = 3 then 0 else m

/-- The start channel of an INTERVAL channel. -/
def State.evStart (s : State) (e : Nat) : Nat := s.fget (F.TIU_EV_CFG_START e)

/-- The hold of the TIU domain follows the armed and running channels (R135). -/
def State.evHold (s : State) : State :=
  let h := (List.range 6).any fun e => s.evState e == evARMED || s.evState e == evRUN
  let s := s.fset F.TIU_STATUS_HELD (b2n h)
  { s with pwr := { s.pwr with devHold := if h then setBit s.pwr.devHold domTIU else clrBit s.pwr.devHold domTIU } }

/-- The start channel that serves INTERVAL channel e in its present run. -/
def State.evServers (s : State) (e : Nat) : List Nat := (List.range 6).filter fun x => (s.evc x).serves == some e

/-- Put a channel, and the start channel that serves it, in a state (R133, R136). -/
def State.evEnter (s : State) (e st : Nat) : State :=
  let s := s.fset (F.TIU_EV_FLG_STATE e) st
  let s := (s.evServers e).foldl (fun t x => t.fset (F.TIU_EV_FLG_STATE x) st) s
  s.evHold

/-- Set a bit of TIU_OVF_SRC; a new setting raises TIU_OVF. -/
def State.tiuOvf (s : State) (f : Fld) (e : Nat) : State :=
  if s.ftest f e then s else (s.fsetBit f e).raise F.SYS_IRQ_TIU_OVF

/-! Statistics (R138 to R140) -/

/-- Statistics unit c. -/
def State.stat (s : State) (c : Nat) : StatUnit := s.tiu.stat.getD c {}

/-- Store statistics unit c, n in its COUNT register. -/
def State.setStat (s : State) (c : Nat) (u : StatUnit) : State :=
  ({ s with tiu := { s.tiu with stat := setAt s.tiu.stat c u } }).fset (F.TIU_ST_COUNT_COUNT c) u.n

/-- Start or restart a run. -/
def State.statGo (s : State) (c : Nat) : State :=
  (s.setStat c { src := s.fget (F.TIU_ST_CFG_SRC c), want := s.fget (F.TIU_ST_CFG_N c) }).fsetAll [(F.TIU_ST_COUNT_EXCL c, 0), (F.TIU_ST_CFG_STATE c, 1), (F.TIU_ST_CFG_SAT c, 0), (F.TIU_ST_CFG_ABORT c, 0)]

/-- A difference of two stamps, as s32 (R138). -/
def stampDiff (a b : Nat) : Int := signed 32 (unsigned 32 ((a : Int) - b))

/-- Take a value of source `src` (R138); after n has saturated no further value enters the sums. -/
def State.statTake (s : State) (c src : Nat) (x : Int) : State :=
  let u := s.stat c
  if s.fget (F.TIU_ST_CFG_STATE c) ≠ 1 ∨ u.src ≠ src then s
  else
    if u.n ≥ 65535 then s
    else
      let v : StatUnit := { u with
        s1 := u.s1 + x, s2 := u.s2 + (x * x).toNat, n := u.n + 1,
        least := if u.n = 0 then x else min u.least x, greatest := if u.n = 0 then x else max u.greatest x }
      let s := s.setStat c v
      if u.want ≠ 0 ∧ v.n ≥ u.want then s.fset (F.TIU_ST_CFG_STATE c) 2 else s

/-- A value flagged COARSE_OVF is not taken but counted (R138). -/
def State.statExclude (s : State) (c src : Nat) : State :=
  if s.fget (F.TIU_ST_CFG_STATE c) = 1 ∧ (s.stat c).src = src then s.addSat (F.TIU_ST_COUNT_EXCL c) 1 else s

/-- Stop a running unit with ABORT (R126, R137). -/
def State.statAbort (s : State) (c : Nat) : State :=
  if s.fget (F.TIU_ST_CFG_STATE c) = 1 then s.fsetAll [(F.TIU_ST_CFG_STATE c, 0), (F.TIU_ST_CFG_ABORT c, 1)] else s

/-- The largest q with (2q − 1)² · n(n − 1) ≤ v, and 0 for v = 0 (R139). -/
def sdevOf (u : StatUnit) : Nat :=
  if u.n < 2 then 0
  else
    let v := ((1024 * (u.n * u.s2 : Int)) - 1024 * (u.s1 * u.s1)).toNat
    let r := isqrt 64 (v / (u.n * (u.n - 1)))
    if v = 0 then 0 else (r + 1) / 2

/-- Snapshot of the results of unit c at a read of COUNT (R140). SAT is set at such a read, where the deviation is formed, and stays to
the next GO; the spec does not say when it is set (DESIGN CHOICE, log 142). -/
def State.statSnapshot (s : State) (c : Nat) : State :=
  let u := s.stat c
  if u.n = 0 then
    s.setRegs [(Reg.TIU_ST_MEAN_LO c, 0), (Reg.TIU_ST_MEAN_HI c, 0), (Reg.TIU_ST_SDEV c, 0), (Reg.TIU_ST_MIN c, 0), (Reg.TIU_ST_MAX c, 0)]
  else
    let mean := unsigned 48 (roundHalfUp (65536 * u.s1) u.n)
    let sd := sdevOf u
    let s := s.setRegs [(Reg.TIU_ST_MEAN_LO c, mean % 2 ^ 32), (Reg.TIU_ST_MEAN_HI c, mean / 2 ^ 32),
      (Reg.TIU_ST_SDEV c, min sd 0xFFFFFFFF), (Reg.TIU_ST_MIN c, unsigned 32 u.least), (Reg.TIU_ST_MAX c, unsigned 32 u.greatest)]
    if sd > 0xFFFFFFFF then s.fset (F.TIU_ST_CFG_SAT c) 1 else s

/-! Event channels (R129 to R136) -/

/-- Is the configuration of a channel valid for an arm by the host (R136)? -/
def State.evValid (s : State) (e : Nat) : Bool :=
  let m := s.evMode e
  let st := s.evStart e
  let idle := fun x => s.evState x != evARMED && s.evState x != evRUN
  e != 4 && m != 0 &&
    (m != 2 || (st != e && st != 4 && st < 6 && s.evMode st == 1 && idle st))

/-- Clear a channel for a new run, keeping whom it serves. -/
def State.evClear (s : State) (e : Nat) (serves : Option Nat) : State :=
  (s.setEvc e { serves := serves }).fset (F.TIU_EV_FLG_RESULTS e) 0

/-- Arm a channel and its start channel (R134, R135). -/
def State.evArm (s : State) (e : Nat) : State :=
  let s := (s.evServers e).foldl (fun t x => t.setEvc x { t.evc x with serves := none }) s
  let s := s.evClear e none
  let s := if s.evMode e = 2 then s.evClear (s.evStart e) (some e) else s
  let s := s.evEnter e evARMED
  s.wakeEvent [domTIU]

/-- The origin is reached: the coarse count starts (R134). -/
def State.evRun (s : State) (e : Nat) : State :=
  if s.evState e = evARMED ∧ (s.evc e).serves = none then s.evEnter e evRUN else s

/-- The first shot-clock edge after the arm with the ring locked: the origin of a channel with ORG = 0 (R134). -/
def State.evOrigin (s : State) (e : Nat) : State :=
  if s.isOn domTIU && s.fbit F.TIU_STATUS_LOCK && !s.fbit (F.TIU_EV_CFG_ORG e) then s.evRun e else s

/-- Channels armed with ORG = 1 take the first drive edge of a shot as their origin (R134). -/
def State.evShotOrigins (s : State) : State :=
  (List.range 6).foldl (fun t e => if t.fbit (F.TIU_EV_CFG_ORG e) then t.evRun e else t) s

/-- End a run in DONE once RESULTS reaches COUNT (R136). -/
def State.evCheckDone (s : State) (e : Nat) : State :=
  let n := s.fget (F.TIU_EV_CFG_COUNT e)
  if n ≠ 0 ∧ s.fget (F.TIU_EV_FLG_RESULTS e) ≥ n then s.evEnter e evDONE else s

/-- Form a result: count it, queue it or drop it for a full queue (R132). -/
def State.evResult (s : State) (e value flags : Nat) : State :=
  let s := s.addSat (F.TIU_EV_FLG_RESULTS e) 1
  let c := s.evc e
  let s :=
    if c.queue.length < 16 then s.setEvc e { c with queue := c.queue ++ [⟨value, flags⟩] }
    else
      let s := s.addSat (F.TIU_EV_DROP_FULL e) 1
      let s := s.setEvc e { c with dropped := true }
      if c.dropped then s else s.tiuOvf F.TIU_OVF_SRC_FULL e
  s.evCheckDone e

/-- The value and flags of an interval, stop minus start (R131). -/
def intervalOf (stop start : Nat) : Int × Nat :=
  let d : Int := (stop : Int) - start
  if d = 0 then (0, 2)
  else if d > 2 ^ 31 - 1 then (2 ^ 31 - 1, 1)
  else if d < -(2 ^ 31 - 1) then (-(2 ^ 31), 1 + 4)
  else (d, if d < 0 then 4 else 0)

/-- Form an interval on channel e: statistics and queue (R131, R132, R138). -/
def State.evInterval (s : State) (e stop start : Nat) : State :=
  let r := intervalOf stop start
  let s := if r.2 % 2 = 1 then s.statExclude (16 + e) 2 else s.statTake (16 + e) 2 r.1
  s.evResult e (unsigned 32 r.1) r.2

/-- Hold a stamp that waits for its partner, or drop it for a full side (R130). -/
def State.evWait (s : State) (e stamp : Nat) : State :=
  let c := s.evc e
  if c.wait.length < 16 then s.setEvc e { c with wait := c.wait ++ [stamp] }
  else s.addSat (F.TIU_EV_DROP_FULL e) 1

/-- An accepted stamp of channel e (R130): a stop, a start, or a stamp result. -/
def State.evAccept (s : State) (e stamp : Nat) : State :=
  let c := s.evc e
  let s := s.setEvc e { c with last := some stamp, prevOut := some stamp }
  if s.evMode e = 2 then
    let p := s.evc (s.evStart e)
    match p.wait with
    | st :: t => (s.setEvc (s.evStart e) { p with wait := t }).evInterval e stamp st
    | [] => s.evWait e stamp
  else
    match c.serves with
    | some i =>
      let p := s.evc i
      match p.wait with
      | st :: t => (s.setEvc i { p with wait := t }).evInterval i st stamp
      | [] => s.evWait e stamp
    | none =>
      let s := s.statTake (16 + e) 0 stamp
      let s := match c.prevOut with
        | some q => s.statTake (16 + e) 1 (stampDiff stamp q)
        | none => s
      s.evResult e stamp 0

/-- The blank after an accepted edge, in fine LSB (R129). -/
def State.evBlank (s : State) (e : Nat) : Nat := max 533 (64 * min 832 (s.fget (F.TIU_EV_CFG_HOLD e)))

/-- Function of GPIOn (R395). -/
def State.gpioFn (s : State) (n : Nat) : Nat := bitsOf (s.regN Reg.SYS_GPIO_FN) (2 * n) 2

/-- Does the channel take this edge: its polarity (R128), and for GPIO0 to GPIO3 the pin in function 1 (R395)? -/
def State.evQualifies (s : State) (e : Nat) (rising : Bool) : Bool :=
  let pol := s.fget (F.TIU_EV_CFG_EDGE e)
  let pin := e ≥ 4 || s.gpioFn e == 1
  pin && (pol ≥ 2 || (pol == 0) == rising)

/-- Does channel e stamp this edge: it is in RUN, the ring is locked, and the edge qualifies (R126, R128)? -/
def State.evStamps (s : State) (e : Nat) (rising : Bool) : Bool :=
  s.evState e == evRUN && s.isOn domTIU && s.fbit F.TIU_STATUS_LOCK && s.evQualifies e rising

/-- An edge on event channel e at a stamp (R129, R130, R136). -/
def State.evEdge (s : State) (e stamp : Nat) (rising : Bool) : State :=
  if s.evStamps e rising = false then s
  else
    let blank := match (s.evc e).last with
      | some l => decide (stamp < l + s.evBlank e)
      | none => false
    if blank then s.addSat (F.TIU_EV_DROP_EDGE e) 1 else s.evAccept e stamp

/-- The coarse count of a running channel reaches 2^26 (R133); a start channel's overflow is its INTERVAL channel's. The entry counts in
EXCL of a unit whose source the channel's results are, STAMP or INTERVAL; the spec does not say whether it does for DIFF (DESIGN CHOICE,
log 143). -/
def State.evOverflow (s : State) (e0 : Nat) : State :=
  let e := ((s.evc e0).serves).getD e0
  if s.evState e ≠ evRUN then s
  else
    let c := s.evc e
    let q := if c.queue.length < 16 then c.queue ++ [⟨0xFFFFFFFF, 1⟩] else c.queue.take 15 ++ [⟨0xFFFFFFFF, 1⟩]
    let s := s.setEvc e { c with queue := q }
    let s := s.statExclude (16 + e) (if s.evMode e = 2 then 2 else 0)
    let s := s.tiuOvf F.TIU_OVF_SRC_COVF e
    s.evEnter e evOVF

/-- DISARM: back to IDLE, the hold released (R136). A start channel is disarmed only through its INTERVAL channel. -/
def State.evDisarm (s : State) (e : Nat) : State :=
  match (s.evc e).serves with
  | some _ => if s.evState e = evARMED ∨ s.evState e = evRUN then s else s.evEnter e evIDLE
  | none => s.evEnter e evIDLE

/-- A read of VAL: the head value leaves the queue with its flags; zero from an empty queue and from channel 20 (R132, R136). -/
def State.evTake (s : State) (e : Nat) : Nat × State :=
  if e = 4 then (0, s)
  else
    match (s.evc e).queue with
    | r :: t => (r.value, s.setEvc e { s.evc e with queue := t })
    | [] => (0, s)

/-- A device fault on the TIU: channels to IDLE with their queues kept, running statistics stopped (R137). -/
def State.tiuFault (s : State) : State :=
  let s := (List.range 6).foldl (fun t e =>
    if t.evState e = evIDLE then t else t.fset (F.TIU_EV_FLG_STATE e) evIDLE) s
  ((List.range 22).foldl State.statAbort s).evHold

/-! Loss of lock (R126) -/

/-- The ring loses lock while the TIU is ON. The statistics units of the ports of a shot in progress stop as well: the spec names units fed
by a stopped channel, and a stream channel has no state of its own (DESIGN CHOICE, log 144). -/
def State.loseLock (s : State) : State :=
  if s.isOn domTIU ∧ s.fbit F.TIU_STATUS_LOCK then
    let s := (s.fset F.TIU_STATUS_LOCK 0).fset F.TIU_STATUS_UNLOCK 1
    let s := s.addSat F.TIU_UNLOCK_CNT_COUNT 1
    let ports := match s.afe.shot with
      | some h => (h.chords.filterMap fun c => (s.chordCfg c.chord).map fun g => [g.portA, g.portB]).flatten
      | none => []
    let s := match s.afe.shot with
      | some h =>
        let s := { s with afe := { s.afe with shot := some { h with chords := h.chords.map fun c => { c with unlocked := true } } } }
        h.chords.foldl (fun t c => t.fsetAll [(F.AFE_SLOT_RXA_NST c.slot, 0), (F.AFE_SLOT_RXB_NST c.slot, 0)]) s
      | none => s
    let stopped := (List.range 6).filter fun e => s.evState e == evARMED || s.evState e == evRUN
    let s := stopped.foldl (fun t e => t.fset (F.TIU_EV_FLG_STATE e) evUNLOCK) s
    ((ports ++ stopped.map (16 + ·)).foldl State.statAbort s).evHold
  else s

/-- The ring relocks (R126). -/
def State.relockRing (s : State) : State :=
  if s.isOn domTIU then s.fset F.TIU_STATUS_LOCK 1 else s

/-! Stream channels (R111, R127) -/

/-- Does the comparator of chord n pass a crossing of this polarity (R111)? It is armed when the output, since its last crossing of zero,
went beyond half of HYST on the side the crossing comes from; `swing` is how far it went, in µV. -/
def State.passes (s : State) (n : Nat) (rising : Bool) (swing : Nat) : Bool :=
  let p := s.fget (F.AFE_RX_POL n)
  let h := min 40 (s.fget (F.AFE_RX_HYST n))
  (p ≥ 2 || (p == 0) == rising) && (h == 0 || 1000 * h < 2 * swing)

/-- Stamp a crossing into a direction's queue (R127): stamps so far and the last one, whether the port is RXB. A crossing after the 64th
stamp counts in FULL, also within the dead time of that stamp, where the spec does not choose (DESIGN CHOICE, log 145). -/
def State.streamStamp (s : State) (h : Shot) (c : ShotChord) (port stamp : Nat) (isB : Bool) : State :=
  let n := if isB then c.nstB else c.nstA
  let last := if isB then c.lastB else c.lastA
  if n ≥ 64 then s.addSat (F.TIU_STRM_FULL port) 1
  else if n > 0 ∧ stamp < last + 533 then s.addSat (F.TIU_STRM_DEAD port) 1
  else
    let s := s.writeBytes (slotAddr c.slot + (if isB then 0x300 else 0) + 4 * n) (leBytes 4 stamp)
    let s := s.statTake port 0 stamp
    let s := if n > 0 then s.statTake port 1 (stampDiff stamp last) else s
    let c' := if isB then { c with nstB := n + 1, lastB := stamp } else { c with nstA := n + 1, lastA := stamp }
    { s with afe := { s.afe with shot := some { h with chords := h.chords.map fun x => if x.slot == c.slot then c' else x } } }

/-- A comparator crossing on a port at a stamp from the shot's origin (R111, R127): stamped between the window's open and close
while the ring is locked. 62.5 ns are 1,664 fine LSB. -/
def State.crossing (s : State) (port stamp : Nat) (rising : Bool) (swing : Nat) : State :=
  match s.afe.shot with
  | none => s
  | some h =>
    match h.chords.find? fun c => match s.chordCfg c.chord with
      | some g => g.portA == port || g.portB == port
      | none => false with
    | none => s
    | some c =>
      let d := s.fget (F.AFE_SLOT_CTL_DECIM c.slot)
      let lo := c.opened * 1664
      let hi := lo + 512 * 2 ^ d * 1664
      let isB := match s.chordCfg c.chord with
        | some g => g.portB == port
        | none => false
      if !s.fbit F.TIU_STATUS_LOCK || c.unlocked || !s.passes c.chord rising swing || stamp < lo || hi < stamp then s
      else s.streamStamp h c port stamp isB

/-! Ageing (R141 to R143) -/

/-- The ageing a in ppb at h hours (R142). -/
def ageingPpb (a : Int) (b h : Nat) : Int :=
  if b = 0 then 0 else clampInt (-100000) 100000 (Ln.scaledHalfAway a 0 (b + h) b)

/-- The scale of an ageing a (R142). -/
def ageingScale (a : Int) : Nat := (roundHalfUpInt (2 ^ 30 * 10 ^ 9) (10 ^ 9 + a)).toNat

/-- Evaluate R142: the coefficients and a are reported; the new scale waits for S4 of the next mark (R143). -/
def State.evalAgeing (s : State) : State :=
  let s := s.touchCoef 0x008 8
  let a := ageingPpb s.coefTiuA s.coefTiuB (s.regN Reg.TIU_HOURS)
  let s := s.setRegs [(Reg.TIU_AGE_A, unsigned 32 s.coefTiuA), (Reg.TIU_AGE_B, s.coefTiuB), (Reg.TIU_AGE_PPB, unsigned 32 a)]
  { s with tiu := { s.tiu with nextScale := some (ageingScale a) } }

/-- S4: a new scale takes effect (R143). -/
def State.applyScale (s : State) : State :=
  match s.tiu.nextScale with
  | some v => { s.setRegN Reg.TIU_SCALE v with tiu := { s.tiu with nextScale := none } }
  | none => s

end Sys2Proof.Machine
end

