-- ==== Sys2Proof/Machine/Tmu.lean ====
section
/-! DEFINITION. The thermal and pressure unit (R193 to R213): the cycles of a conversion, resistances, temperatures, pressure, the
states of the elements and the held values. Values are exact rationals until the rounding the rule names; only the irrational
roots of R201 are cut, far below the 1e-9 K that R201 leaves open. -/

namespace Sys2Proof.Machine

abbrev elNONE : Nat := 0
abbrev elOK : Nat := 1
abbrev elOPEN : Nat := 2
abbrev elSHORT : Nat := 3
abbrev elRANGE : Nat := 4
abbrev elLEAD : Nat := 5
abbrev elREF_BAD : Nat := 6
abbrev elPOISON : Nat := 7
abbrev elCOEF : Nat := 8

/-- A rational rounded to nearest, halves up. -/
def ratUp (x : Rat) : Int := (x + 1 / 2).floor

/-- A rational rounded to nearest, halves away from zero. -/
def ratAway (x : Rat) : Int := if x < 0 then -(ratUp (-x)) else ratUp x

/-! Wiring (R193, R194) -/

def State.sensType (s : State) (t : Nat) : Nat :=
  match s.image with
  | some i => i.sensTypes.getD t 0
  | none => 0

def State.sensWire (s : State) (t : Nat) : Nat :=
  match s.image with
  | some i => i.sensWires.getD t 0
  | none => 0

/-- Is thermometer t four-wire? -/
def State.fourWire (s : State) (t : Nat) : Bool := s.sensType t != 0 && (s.sensWire t).testBit 0

/-- Is element i configured (0 to 3 thermometers, 4 the pressure sensor)? -/
def State.elemSet (s : State) (i : Nat) : Bool :=
  if i < 4 then s.sensType i != 0 else i == 4 && (match s.image with
    | some m => m.press == 1
    | none => false)

/-- Mask of the configured elements. -/
def State.elemMask (s : State) : Nat := maskOf ((List.range 5).filter s.elemSet)

/-- The configured thermometer of a role: 0 forward, 1 return (R84); the lowest-numbered where a gas image has several (DESIGN CHOICE,
log 201). -/
def State.roleThermo (s : State) (role : Nat) : Option Nat :=
  (List.range 4).find? fun t => s.sensType t != 0 && bitsOf (s.sensWire t) 4 2 == role

/-- Discharge paths of an element (R193). -/
def State.pathsOf (s : State) (i : Nat) : Nat := if i = 4 then 2 else if s.fourWire i then 3 else 1

/-- The elements of a mask in the order of conversion, with their first path among the paths of a repetition. -/
def State.pathPlan (s : State) (mask : Nat) : List (Nat × Nat) :=
  ((maskList 5 mask).foldl (fun (a : List (Nat × Nat) × Nat) i => (a.1 ++ [(i, a.2)], a.2 + s.pathsOf i)) ([], 0)).1

/-- Paths of a repetition. -/
def State.pathCount (s : State) (mask : Nat) : Nat := ((maskList 5 mask).map s.pathsOf).sum

/-! Times (R195 to R197) -/

def State.tchg (s : State) : Nat := min 95 (max 5 (s.fget F.TMU_CFG_TCHG))
def State.tdmax (s : State) : Nat := min 300 (max 50 (s.fget F.TMU_CFG_TDMAX))
def State.navg (s : State) : Nat := s.fget F.TMU_CFG_NAVG + 1

/-- Cycles of a conversion of a mask with n repetitions (R196). -/
def State.cyclesOf (s : State) (mask n : Nat) : Nat := n * (1 + s.pathCount mask) + 1

/-- Conversion time in µs of a mask; 0 for no configured element (R197, R209). -/
def State.convUs (s : State) (mask n : Nat) : Nat :=
  if mask = 0 then 0 else 50 + s.cyclesOf mask n * (s.tchg + s.tdmax + 5)

/-- Cycles of the conversion in progress that are still to come. -/
def State.cyclesLeft (s : State) : Nat :=
  match s.tmu.conv with
  | some c => s.cyclesOf c.mask c.reps - c.times.length
  | none => 0

def State.setTmu (s : State) (f : Tmu → Tmu) : State := { s with tmu := f s.tmu }

/-- The TMU arms channel 20 for the next discharge (R136, R195), while one is to come: COUNT 1 and HOLD 0 (DESIGN CHOICE, log 198). -/
def State.armDischarge (s : State) : State :=
  if s.cyclesLeft = 0 then s
  else
    let s := s.setRegN (Reg.TIU_EV_CFG 4) 0
    let s := s.fsetAll [(F.TIU_EV_CFG_MODE 4, 1), (F.TIU_EV_CFG_EDGE 4, 1), (F.TIU_EV_CFG_COUNT 4, 1)]
    (s.evClear 4 none).evEnter 4 evARMED

/-- Start a conversion (R196). -/
def State.startConv (s : State) (why : ConvWhy) (mask n : Nat) : State :=
  ((s.setTmu fun t => { t with conv := some { why := why, mask := mask, reps := n } }).fset F.TMU_STATUS_BUSY 1).armDischarge

/-- A discharge ends with a stamp, or times out (R195). -/
def State.endCycle (s : State) (d : Option Int) : State :=
  match s.tmu.conv with
  | some c => (s.setTmu fun t => { t with conv := some { c with times := c.times ++ [d] } }).armDischarge
  | none => s

/-- The comparator falls: channel 20, in RUN and locked, stamps the edge, its statistics unit takes the stamp, and the TMU takes the
result from the queue (R126, R128, R136, R138, R195). -/
def State.dischargeEdge (s : State) (stamp : Nat) (rising : Bool) : State :=
  if s.cyclesLeft = 0 || !s.evStamps 4 rising then s
  else
    let s := s.statTake 20 0 stamp
    let s := (s.fset (F.TIU_EV_FLG_RESULTS 4) 1).evEnter 4 evDONE
    s.endCycle (some ((stamp : Int) - s.fget F.TMU_TRIM_TDEL))

/-- A discharge reaches TDMAX without an edge (R195); channel 20 is IDLE then (DESIGN CHOICE, log 198). -/
def State.dischargeTimeout (s : State) : State :=
  if s.cyclesLeft = 0 then s else (s.evEnter 4 evIDLE).endCycle none

/-- A conversion ends without results (R213). -/
def State.abandonConv (s : State) : State :=
  match s.tmu.conv with
  | none => s
  | some _ =>
    let s := s.setTmu fun t => { t with conv := none }
    let s := if s.evState 4 = evARMED ∨ s.evState 4 = evRUN then s.evEnter 4 evIDLE else s
    (s.fset F.TMU_STATUS_BUSY 0).addSat F.TMU_CNT_ABANDONED 1

/-! Resistances (R198 to R200) -/

/-- The discharge time of cycle i. -/
def Conv.time (c : Conv) (i : Nat) : Option Int := c.times.getD i none

/-- The reference times, none where one timed out. -/
def State.refTimes (s : State) (c : Conv) : Option (List Int) :=
  (List.range (c.reps + 1)).mapM fun r => c.time (r * (1 + s.pathCount c.mask))

/-- Is the reference of a conversion bad (R198)? A reference resistor of 0 is too. -/
def State.refBad (s : State) (c : Conv) : Bool :=
  s.regN Reg.TMU_RREF == 0 ||
    match s.refTimes c with
    | none => true
    | some l => l.any (· ≤ 0) || (l.zip (l.drop 1)).any fun p => 256 * (p.2 - p.1).natAbs > p.1.natAbs

/-- Mean total resistance of path j of a repetition in Ω, none where it timed out (R199). -/
def State.meanPath (s : State) (c : Conv) (j : Nat) : Option Rat :=
  let w := 1 + s.pathCount c.mask
  let rr : Rat := ((s.regN Reg.TMU_RREF + s.fget F.TMU_TRIM_RS * 1000 : Nat) : Rat) / 1000000
  let one := fun r => do
    let a ← c.time (r * w)
    let b ← c.time ((r + 1) * w)
    let d ← c.time (r * w + 1 + j)
    pure (rr * (d : Rat) / (((a + b : Int) : Rat) / 2))
  ((List.range c.reps).mapM one).map fun l => l.sum / (c.reps : Rat)

/-- Switch resistance and lead of thermometer t in Ω. -/
def State.rsOhm (s : State) : Rat := (s.fget F.TMU_TRIM_RS : Rat) / 1000
def State.leadOhm (s : State) (t : Nat) : Rat := (s.fget (F.TMU_LEAD_LEAD t) : Rat) / 1000

/-- The element resistance of thermometer t whose first path is j: none where a path timed out (R199). -/
def State.elemOhm (s : State) (c : Conv) (t j : Nat) : Option Rat :=
  if s.fourWire t then do
    let f ← s.meanPath c j
    let h ← s.meanPath c (j + 1)
    let l ← s.meanPath c (j + 2)
    pure (f - h / 2 - l / 2)
  else (s.meanPath c j).map fun m => m - 2 * s.rsOhm - s.leadOhm t

/-- Is a lead loop of a four-wire thermometer bad (R200)? -/
def State.leadBad (s : State) (c : Conv) (j : Nat) : Bool :=
  [j + 1, j + 2].any fun q =>
    match s.meanPath c q with
    | none => true
    | some m =>
      let loop := m - 2 * s.rsOhm
      decide (loop < 0) || decide ((s.fget F.TMU_LIMIT_LOOPMAX : Rat) < loop)

/-! Temperatures (R201) -/

/-- Root of a nonnegative rational, cut at 2^-160. -/
def ratSqrt (x : Rat) : Rat := (isqrt 400 (x * ((2 ^ 320 : Nat) : Rat)).floor.toNat : Rat) / ((2 ^ 160 : Nat) : Rat)

/-- Coefficient i of thermometer t as a signed number. -/
def State.cvd (s : State) (t i : Nat) : Int :=
  if i < 2 then s.coefTmu (4 * t + i) else signed 32 (s.coefTmu (4 * t + i))

/-- A polynomial by its coefficients, the constant first and the last of them not 0. -/
abbrev Poly := List Rat

/-- Drop the leading coefficients that are 0. -/
def polyTrim (p : Poly) : Poly := (p.reverse.dropWhile (· == 0)).reverse

/-- The value at a point. -/
def polyAt (p : Poly) (t : Rat) : Rat := p.foldr (fun c v => c + t * v) 0

/-- The derivative. -/
def polyDeriv (p : Poly) : Poly := (((List.range p.length).zip p).map fun x => (x.1 : Rat) * x.2).tail

/-- Quotient and remainder of a by d; each round clears the leading coefficient of a. -/
def polyDiv (d : Poly) : Nat → Poly → Poly → Poly × Poly
  | 0, q, a => (q, a)
  | n + 1, q, a =>
    if a.length < d.length ∨ d = [] then (q, a)
    else
      let k := a.length - d.length
      let c := a.getLastD 0 / d.getLastD 1
      let low := (((List.range (a.length - 1)).zip a).map fun x => if k ≤ x.1 then x.2 - c * d.getD (x.1 - k) 0 else x.2)
      polyDiv d n (polyTrim (q.zipWith (· + ·) (List.replicate k 0 ++ [c] ++ List.replicate (q.length - k - 1) 0))) (polyTrim low)

/-- The chain of Sturm of p and r: every remainder with its sign turned, down to the last that is not 0. -/
def sturmFrom : Nat → Poly → Poly → List Poly
  | 0, p, _ => [p]
  | n + 1, p, r => if r = [] then [p] else p :: sturmFrom n r ((polyDiv r 8 [] p).2.map (- ·))

def sturm (p : Poly) : List Poly := sturmFrom 8 p (polyDeriv p)

/-- Changes of sign along the chain at a point. -/
def signChanges (l : List Poly) (t : Rat) : Nat :=
  let v := (l.map fun p => polyAt p t).filter (· != 0)
  ((v.zip v.tail).filter fun x => decide (x.1 < 0) != decide (x.2 < 0)).length

/-- The root number i from lo on, by halving: the upper end of an interval that holds it. -/
def sturmRoot (l : List Poly) (v i : Nat) : Nat → Rat → Rat → Rat
  | 0, _, hi => hi
  | n + 1, lo, hi =>
    let m := (lo + hi) / 2
    if i < v - signChanges l m then sturmRoot l v i n lo m else sturmRoot l v i n m hi

/-- The different roots of w = 1 + a t + b t^2 + c (t - 100) t^3 from -200 to 0, a multiple one once: those of the polynomial without its
multiple factors, told apart by its Sturm chain. -/
def cvdRoots (a b c w : Rat) : List Rat :=
  let f := polyTrim [1 - w, a, b, -100 * c, c]
  let g := (sturm f).getLastD [1]
  let l := sturm (polyDiv g 8 (List.replicate 5 0) f).1
  let v := signChanges l (-200)
  (if polyAt f (-200) = 0 then [-200] else []) ++ (List.range (v - signChanges l 0)).map fun i => sturmRoot l v i 128 (-200) 0

/-- The temperature in °C of a resistance ratio under coefficients A, B, C; none where no root exists (R201). Where several lie in the
range the spec does not say which, so it is a free value among them (DESIGN CHOICE, log 153). -/
def cvdTemp (a b c : Rat) (w : Rat) : Option Rat :=
  if 1 ≤ w then
    if b = 0 then some ((w - 1) / a)
    else
      let disc := a * a - 4 * b * (1 - w)
      if disc < 0 then none else some ((-a + ratSqrt disc) / (2 * b))
  else
    match cvdRoots a b c w with
    | [] => none
    | [x] => some x
    | l => l[Config.cvdRoot a b c w % l.length]?

/-- The temperature of thermometer t at a resistance in Ω. -/
def State.tempOf (s : State) (t : Nat) (r : Rat) : Option Rat :=
  cvdTemp ((s.cvd t 1 : Rat) / ((10 ^ 12 : Nat) : Rat)) ((s.cvd t 2 : Rat) / ((10 ^ 15 : Nat) : Rat))
    ((s.cvd t 3 : Rat) / ((10 ^ 20 : Nat) : Rat)) (r * 1000000 / (s.cvd t 0 : Rat))

/-! Elements (R203, R205, R206) -/

/-- Does an element lack coefficients (R203)? -/
def State.elemCoefBad (s : State) (i : Nat) : Bool :=
  if i < 4 then s.cvd i 0 == 0 || s.cvd i 1 == 0 else s.coefTmu 0x11 == 0

/-- Is the reference or a trim value poisoned, which every resistance reads (R206)? -/
def State.refPoison (s : State) : Bool := s.regBad Reg.TMU_RREF || s.regBad Reg.TMU_TRIM

/-- Is an item that an element reads poisoned (R206): its COEF entries, the reference and trim, and for a thermometer the limits and,
two-wire, its lead? -/
def State.elemPoison (s : State) (i : Nat) : Bool :=
  s.refPoison || (i < 4 && (s.regBad Reg.TMU_LIMIT || (!s.fourWire i && s.regBad (Reg.TMU_LEAD i)))) ||
    (if i < 4 then (List.range 4).map (4 * i + ·) else (List.range 6).map (0x10 + ·)).any fun k => s.coefBad (0x210 + 4 * k)

/-- The device reads the COEF entries of an element. -/
def State.touchElem (s : State) (i : Nat) : State :=
  if i < 4 then s.touchCoef (0x210 + 16 * i) 16 else s.touchCoef 0x250 24

/-- What a conversion gives for a thermometer: its state, its resistance and its exact temperature. -/
structure ThermoOut where
  state : Nat
  r : Option Rat := none
  t : Option Rat := none

/-- Evaluate thermometer t whose first path is j. A resistance that reads a poisoned item is shown as formed from what is stored (DESIGN
CHOICE, log 199). -/
def State.thermo (s : State) (c : Conv) (t j : Nat) : ThermoOut :=
  let r := s.elemOhm c t j
  if s.refBad c then ⟨elREF_BAD, none, none⟩
  else if s.elemCoefBad t then ⟨elCOEF, r, none⟩
  else if s.elemPoison t then ⟨elPOISON, r, none⟩
  else if (s.meanPath c j).isNone then ⟨elOPEN, none, none⟩
  else if s.fourWire t && s.leadBad c j then ⟨elLEAD, r, none⟩
  else
    match r with
    | none => ⟨elOPEN, none, none⟩
    | some x =>
      if x * 1000000 * 256 < (s.fget F.TMU_LIMIT_SHORT * s.cvd t 0 : Int) then ⟨elSHORT, r, none⟩
      else
        match s.tempOf t x with
        | none => ⟨elRANGE, r, none⟩
        | some y =>
          let q := ratAway (y * 10000)
          if q < -500000 ∨ 2000000 < q then ⟨elRANGE, r, none⟩ else ⟨elOK, r, some y⟩

/-- The pressure in Pa from the imbalance and the temperature (R205). -/
def State.pressureOf (s : State) (u t : Rat) : Rat :=
  let k := fun i => ((signed 32 (s.coefTmu i) : Int) : Rat)
  k 0x10 + k 0x11 * u + k 0x12 * u * u + k 0x13 * u * u * u + (t - 20) * (k 0x14 + k 0x15 * u) / 100

/-- What a conversion gives for the pressure sensor: state, the sum and difference of the arms where both were measured, and the
pressure in 0.01 Pa before its range is judged. -/
structure PressOut where
  state : Nat
  arms : Option (Rat × Rat) := none
  p : Option Int := none

/-- Sum and difference of the two arms whose first path is j; none where no imbalance is formed (R199, R205, R206). -/
def State.arms (s : State) (c : Conv) (j : Nat) : Option (Rat × Rat) :=
  if s.refBad c || s.refPoison then none
  else
    match s.meanPath c j, s.meanPath c (j + 1) with
    | some p, some n => some (p + n - 2 * s.rsOhm, p - n)
    | _, _ => none

/-- Evaluate the pressure sensor whose first path is j at a temperature (R203, R205). -/
def State.press (s : State) (c : Conv) (j : Nat) (t : Rat) : PressOut :=
  let a := s.arms c j
  if s.refBad c then ⟨elREF_BAD, none, none⟩
  else if s.elemCoefBad 4 then ⟨elCOEF, a, none⟩
  else if s.elemPoison 4 then ⟨elPOISON, a, none⟩
  else
    match a with
    | none => ⟨elOPEN, none, none⟩
    | some (sum, diff) =>
      if sum + diff < 20 ∨ sum - diff < 20 then ⟨elSHORT, a, none⟩
      else
        let q := ratUp (100 * s.pressureOf (diff / sum) t)
        ⟨if q < 0 ∨ 2 ^ 32 - 1 < q then elRANGE else elOK, a, some q⟩

/-! Results (R196, R199, R203, R207) -/

/-- Give an element its new state and its event bits (R203). -/
def State.setElem (s : State) (i st : Nat) : State :=
  let old := s.tmu.states.getD i 0
  let s := s.setTmu fun t => { t with states := setAt t.states i st }
  let s := s.when (st != elOK) fun s => s.fsetBit F.TMU_EVT_FAULT i
  s.when (st == elOK && old != elOK && old != elNONE) fun s => s.fsetBit F.TMU_EVT_BACK i

/-- Record the resistance of thermometer t: rounded half up in µΩ, all ones when none was formed; one that the register cannot hold
is a free value (R199). -/
def State.setOhm (s : State) (t : Nat) (r : Option Rat) : State :=
  match r with
  | none => s.setTmu fun m => { m with r := setAt m.r t 0xFFFFFFFF }
  | some x =>
    let v := s.fitU 32 (ratUp (x * 1000000))
    v.2.setTmu fun m => { m with r := setAt m.r t v.1 }

/-- Results of the thermometers of a conversion, with the exact temperatures of those that ended OK. -/
def State.thermoResults (s : State) (c : Conv) (hold : Bool) : List (Nat × Nat) → List (Nat × Rat) × State
  | [] => ([], s)
  | (i, j) :: rest =>
    if i = 4 then s.thermoResults c hold rest
    else
      let o := s.thermo c i j
      let s := ((s.touchElem i).setElem i o.state).setOhm i o.r
      let s := s.when (o.state == elPOISON) State.consumed
      match o.t with
      | some y =>
        let s := if hold then s.setTmu fun m => { m with t := setAt m.t i (some (ratAway (y * 10000))) } else s
        let q := s.thermoResults c hold rest
        ((i, y) :: q.1, q.2)
      | none => s.thermoResults c hold rest

/-- ΔT of a conversion; a gas image has none (R202). -/
def State.deltaResult (s : State) (temps : List (Nat × Rat)) : State :=
  if s.isGas then s else
  match s.roleThermo 0, s.roleThermo 1 with
  | some f, some r =>
    match temps.find? (·.1 == f), temps.find? (·.1 == r) with
    | some a, some b =>
      let at_ := s.fget F.SYS_EPOCH_EPOCH + s.regN Reg.ROT_NUM % 2 ^ 24 * 2 ^ 8
      s.setTmu fun m => { m with dt := some (ratAway ((a.2 - b.2) * 10000)), dtAt := at_ }
    | _, _ => s
  | _, _ => s

/-- The temperature of the pressure formula: the forward one of this conversion, else the last valid, else 20 °C (R205). -/
def State.pressTemp (s : State) (temps : List (Nat × Rat)) : Rat × Bool :=
  match s.roleThermo 0 with
  | none => (20, true)
  | some f =>
    match temps.find? (·.1 == f) with
    | some a => (a.2, false)
    | none =>
      match s.tmu.t.getD f none with
      | some q => ((q : Rat) / 10000, false)
      | none => (20, true)

/-- Result of the pressure sensor (R205): an imbalance that a sum of 0 leaves open is a free value. P_NOTEMP follows every pressure that
is formed, in range or not. -/
def State.pressResult (s : State) (c : Conv) (j : Nat) (hold : Bool) (temps : List (Nat × Rat)) : State :=
  let t := s.pressTemp temps
  let o := s.press c j t.1
  let s := (s.touchElem 4).setElem 4 o.state
  let s := s.when (o.state == elPOISON) State.consumed
  let s := match o.arms with
    | some (sum, diff) =>
      let v : Int × State := if sum = 0 then (signed 32 s.draw.1, s.draw.2)
        else (satSigned 32 (ratAway (diff / sum * ((2 ^ 31 : Nat) : Rat))), s)
      v.2.setTmu fun m => { m with u := v.1 }
    | none => s
  match o.p with
  | some p =>
    let s := s.fset F.TMU_STATUS_P_NOTEMP (b2n t.2)
    if hold && o.state == elOK then s.setTmu fun m => { m with p := some p.toNat } else s
  | none => s

/-- Write the results of the conversion in progress (R196, R203, R207, R208): held values come from every conversion but the one of
APPLY1. -/
def State.finishConv (s : State) (c : Conv) : State :=
  let hold := c.why != .apply1
  let plan := s.pathPlan c.mask
  let r := s.thermoResults c hold plan
  let s := r.2
  let s := if hold && !s.refBad c then s.deltaResult r.1 else s
  let s := match plan.find? (·.1 == 4) with
    | some e => s.pressResult c e.2 hold r.1
    | none => s
  let rot := s.regN Reg.ROT_NUM
  let s := s.setTmu fun m => { m with conv := none, rot := rot }
  (s.fset F.TMU_STATUS_BUSY 0).addWrap F.TMU_STATUS_SEQ 1

/-- The result word of a CONVERT (R212). -/
def State.convWord (s : State) (mask : Nat) : Nat :=
  let ok := (maskList 5 mask).filter fun i => s.tmu.states.getD i 0 == elOK
  let bad := (maskList 5 mask).filter fun i => s.tmu.states.getD i 0 != elOK
  maskOf ok + maskOf bad * 2 ^ 8 + s.fget F.TMU_STATUS_SEQ * 2 ^ 16

/-! Snapshot, checks and apply -/

/-- A read of TMU_STATUS takes the snapshot (R203); TMU_DT of a gas image reads zero (R202). -/
def State.tmuSnapshot (s : State) : State :=
  let m := s.tmu
  let st := (List.range 5).foldl (fun v i => v + m.states.getD i 0 * 2 ^ (4 * i)) 0
  let held := maskOf ((List.range 5).filter fun i => if i < 4 then (m.t.getD i none).isSome else m.p.isSome)
  let s := s.setRegs [(Reg.TMU_STATE, st), (Reg.TMU_VALID, held + b2n m.dt.isSome * 32), (Reg.TMU_DT, if s.isGas then 0 else unsigned 32 (m.dt.getD 0)),
    (Reg.TMU_DT_AT, m.dtAt), (Reg.TMU_P, m.p.getD 0), (Reg.TMU_U, unsigned 32 m.u), (Reg.TMU_ROT, m.rot)]
  (List.range 4).foldl (fun t i => t.setRegs
    [(Reg.TMU_T i, unsigned 32 ((m.t.getD i none).getD 0)), (Reg.TMU_R i, m.r.getD i 0)]) s

/-- The check of the coefficients at reset and at each apply (R204). -/
def State.checkTmuCoefs (s : State) : State :=
  ((List.range 5).foldl (fun (t : State) (i : Nat) => if t.elemSet i then t.touchElem i else t) s).fset F.TMU_STATUS_COEF_BAD (b2n ((List.range 5).any fun i => s.elemSet i && s.elemCoefBad i))

/-- What an image apply does to the unit (R208). -/
def State.tmuApply (s : State) : State :=
  (s.setTmu fun m => { m with states := List.replicate 5 0, t := List.replicate 4 none, dt := none, dtAt := 0, p := none }).checkTmuCoefs

/-- The last valid temperature of thermometer t (R207). -/
def State.heldTemp (s : State) (t : Nat) : Option Int := s.tmu.t.getD t none

/-- The temperature at the flow sensor (R154): the forward thermometer, or the return one where FLOW_POS says so. -/
def State.flowTemp (s : State) : Option Int :=
  let role := match s.image with
    | some i => if i.kind = 4 then 0 else i.flowPos
    | none => 0
  (s.roleThermo role).bind s.heldTemp

/-- The pressure of the last valid conversion in 0.01 Pa (R207). -/
def State.heldPress (s : State) : Option Nat := s.tmu.p

end Sys2Proof.Machine
end

