-- ==== Sys2Proof/Machine/Ledger.lean ====
section
/-! DEFINITION. The ledger step (R215 to R230): accumulators with wrap and residue, endpoints, volume, heat and gas energy, conditions
and error time, tariffs, host increments, and the pulse outputs (R238, R239). -/

namespace Sys2Proof.Machine

/-! Accumulators (R215 to R220) -/

abbrev acFVOL : Nat := 0
abbrev acRVOL : Nat := 1
abbrev acSVOL : Nat := 2
abbrev acHEAT : Nat := 3
abbrev acCOOL : Nat := 4
abbrev acBVOL : Nat := 5
abbrev acGASE : Nat := 6
abbrev acOPTIME : Nat := 7
abbrev acERRTIME : Nat := 8
/-- The tariff energy and volume bins. -/
abbrev acTE (b : Nat) : Nat := 9 + b
abbrev acTV (b : Nat) : Nat := 13 + b

def State.acc (s : State) (a : Nat) : Acc := s.ldg.acc.getD a {}

def State.setLdg (s : State) (f : Ldg → Ldg) : State := { s with ldg := f s.ldg }

/-- Add whole units to an accumulator: modulo 2^96 with the carry in the wrap count (R216). -/
def Acc.addUnits (a : Acc) (n : Nat) : Acc :=
  { a with v := (a.v + n) % 2 ^ 96, wrap := (a.wrap + (a.v + n) / 2 ^ 96) % 256 }

/-- The pulse source that follows accumulator a (R238). -/
def pulseSource (a : Nat) : Nat :=
  if a = acFVOL then 1 else if a = acRVOL then 2 else if a = acHEAT then 3 else if a = acCOOL then 4
  else if a = acBVOL then 5 else if a = acGASE then 6 else 0

def State.pulse (s : State) (p : Nat) : Pulse := s.ldg.pulses.getD p {}
def State.setPulse (s : State) (p : Nat) (v : Pulse) : State := s.setLdg fun l => { l with pulses := setAt l.pulses p v }

/-- PULSp_SRC of the active image. -/
def State.pulseSrc (s : State) (p : Nat) : Nat :=
  match s.image with
  | some i => i.pulsSrc.getD p 0
  | none => 0

/-- Feed n units to pulse output p (R238). -/
def State.feedPulse (s : State) (p n : Nat) : State :=
  let wt := s.regN (Reg.LDG_PULSE_WT p)
  let u := s.pulse p
  if wt = 0 then s.setPulse p { u with res := 0 }
  else
    let r := u.res + n
    let s := s.setPulse p { u with res := r % wt }
    let b := s.fget (F.LDG_PULSE_ST_BACKLOG p) + r / wt
    if b > 65535 then
      let f := if p = 0 then F.LDG_EVT_POVF0 else F.LDG_EVT_POVF1
      let s := s.addSat (if p = 0 then F.LDG_PULSE_LOST_LOST0 else F.LDG_PULSE_LOST_LOST1) (b - 65535)
      let s := s.fset (F.LDG_PULSE_ST_BACKLOG p) 65535
      if s.fbit f then s else (s.fset f 1).raise F.SYS_IRQ_PULSE_OVF
    else s.fset (F.LDG_PULSE_ST_BACKLOG p) b

/-- Add whole units to accumulator a and to the pulse outputs that follow it. -/
def State.addUnits (s : State) (a n : Nat) : State :=
  let s := s.setLdg fun l => { l with acc := setAt l.acc a ((l.acc.getD a {}).addUnits n) }
  let src := pulseSource a
  if src = 0 then s
  else (List.range 2).foldl (fun t p => if t.pulseSrc p = src then t.feedPulse p n else t) s

/-- Add an exact increment x ≥ 0 to accumulator a through its residue (R220). -/
def State.addExact (s : State) (a : Nat) (x : Rat) : State :=
  let c := s.acc a
  let xf := (x * ((2 ^ 32 : Nat) : Rat)).floor.toNat + c.r
  let s := s.setLdg fun l => { l with acc := setAt l.acc a { c with r := xf % 2 ^ 32 } }
  s.addUnits a (xf / 2 ^ 32)

/-- Word w of accumulator a (R216). -/
def State.accWord (s : State) (a w : Nat) : Nat :=
  let c := s.acc a
  if w = 3 then c.wrap * 2 ^ 24 else c.v / 2 ^ (32 * w) % 2 ^ 32

/-- A read of W0 takes the snapshot of accumulator a (R217). -/
def State.accSnapshot (s : State) (a : Nat) : State :=
  s.setRegs [(Reg.LDG_ACC_W0 a, s.accWord a 0), (Reg.LDG_ACC_W1 a, s.accWord a 1), (Reg.LDG_ACC_W2 a, s.accWord a 2),
    (Reg.LDG_ACC_W3 a, s.accWord a 3)]

/-! Volume (R222) -/

/-- The volumes of an interval of d ns between flows qa and qb (pL/s), forward and reverse in nL, and whether it is split. -/
def volumes (qa qb : Int) (d : Nat) : Rat × Rat × Bool :=
  let k : Rat := (d : Rat) / ((2 * 10 ^ 12 : Nat) : Rat)
  if 0 ≤ qa ∧ 0 ≤ qb then (((qa + qb : Int) : Rat) * k, 0, false)
  else if qa ≤ 0 ∧ qb ≤ 0 then (0, ((-(qa + qb) : Int) : Rat) * k, false)
  else
    let g : Rat := ((qa - qb).natAbs : Rat)
    (((max qa qb ^ 2 : Int) : Rat) * k / g, ((min qa qb ^ 2 : Int) : Rat) * k / g, true)

/-! Heat (R224, R225) -/

/-- Pressure of a heat-coefficient table in 0.01 MPa. -/
def kPress (pr : Nat) : Nat := [60, 100, 160, 250].getD pr 160

/-- Entry (i, j) of the heat-coefficient ROM; grid indices are clamped to 0 to 30 (R224). -/
def kEntry (pos pr : Nat) (i j : Int) : Nat :=
  let c := fun (x : Int) => 27315 + 500 * (clampInt 0 30 x).toNat
  Water.heatK pos (kPress pr) (c i) (c j)

/-- The weights of cubic convolution (R224). -/
def cubicW (a : Int) (s : Rat) : Rat :=
  if a = -1 then (-(s * s * s) + 2 * s * s - s) / 2
  else if a = 0 then (3 * s * s * s - 5 * s * s + 2) / 2
  else if a = 1 then (-(3 * s * s * s) + 4 * s * s + s) / 2
  else (s * s * s - s * s) / 2

/-- Grid index and fraction of a temperature in 0.1 mK. -/
def kGrid (t : Int) : Int × Rat :=
  let x : Rat := ((clampInt 0 1500000 t : Int) : Rat) / 50000
  let i := min x.floor 29
  (i, x - (i : Rat))

/-- The heat coefficient at the flow sensor's temperature ts and ΔT, both in 0.1 mK (R224). -/
def heatCoef (pos pr : Nat) (ts dt : Int) : Int :=
  let tf := if pos = 0 then ts else ts + dt
  let tr := if pos = 0 then ts - dt else ts
  let x := kGrid tf
  let y := kGrid tr
  let offs : List Int := [-1, 0, 1, 2]
  ratUp ((offs.map fun a => (offs.map fun b =>
    cubicW a x.2 * cubicW b y.2 * (kEntry pos pr (x.1 + a) (y.1 + b) : Rat)).sum).sum)

/-- LDG_KTAB_VAL: the ROM entry the index register selects; zero for an index of 31. -/
def State.ktabValue (s : State) : Nat :=
  let i := s.fget F.LDG_KTAB_IDX_I
  let j := s.fget F.LDG_KTAB_IDX_J
  if i = 31 ∨ j = 31 then 0 else kEntry (s.fget F.LDG_KTAB_IDX_POS) (s.fget F.LDG_KTAB_IDX_PRESS) i j

/-- Image fields of the ledger. -/
def State.flowPos (s : State) : Nat :=
  match s.image with
  | some i => i.flowPos
  | none => 0

def State.tariffSrc (s : State) : Nat :=
  match s.image with
  | some i => i.tariffSrc
  | none => 0

def State.gasZ (s : State) : Nat :=
  match s.image with
  | some i => i.gasZ
  | none => 0

/-- Does a thermometer of a role hold state OK? -/
def State.roleOk (s : State) (role : Nat) : Bool :=
  match s.roleThermo role with
  | some t => s.tmu.states.getD t 0 == elOK
  | none => false

/-- The condition of heat and cooling energy (R227, R34). -/
def State.tempOk (s : State) : Bool :=
  s.tmu.dt.isSome && s.roleOk 0 && s.roleOk 1 && (!s.hostTherm || s.tmu.dtAt % 256 == s.fget F.SYS_EPOCH_EPOCH)

/-! Gas (R226) -/

/-- Z-table entry (i, j). -/
def State.zEntry (s : State) (i j : Nat) : Nat :=
  let k := 8 * i + j / 2
  if j % 2 = 0 then s.fget (F.LDG_GAS_Z_ZEVEN k) else s.fget (F.LDG_GAS_Z_ZODD k)

def State.pAx (s : State) (j : Nat) : Int := s.regN (Reg.LDG_GAS_PAX j)
def State.tAx (s : State) (j : Nat) : Int := s.fsgn (F.LDG_GAS_TAX_T j)

/-- Is the Z table invalid (R226)? -/
def State.zTabBad (s : State) : Bool :=
  s.gasZ != 0 && (((List.range 15).any fun j => s.pAx (j + 1) ≤ s.pAx j || s.tAx (j + 1) ≤ s.tAx j) ||
    (List.range 16).any fun i => (List.range 16).any fun j => s.zEntry i j == 0)

/-- The bracket of x on an axis, clamped to its ends: index and fraction. -/
def axisAt (ax : Nat → Int) (x : Int) : Nat × Rat :=
  let x := min (max x (ax 0)) (ax 15)
  let i := ((List.range 15).filter fun j => ax j ≤ x).foldl max 0
  let w := ax (i + 1) - ax i
  (i, if w = 0 then 0 else ((x - ax i : Int) : Rat) / (w : Rat))

/-- The compressibility at p (0.01 Pa) and T (0.1 mK) (R226). -/
def State.compress (s : State) (p t : Int) : Rat :=
  if s.gasZ = 0 then (s.regN Reg.LDG_GAS_ZC : Rat) / ((2 ^ 30 : Nat) : Rat)
  else
    let a := axisAt s.pAx p
    let b := axisAt s.tAx t
    let z := fun i j => (s.zEntry i j : Rat)
    ((1 - a.2) * ((1 - b.2) * z a.1 b.1 + b.2 * z a.1 (b.1 + 1)) +
      a.2 * ((1 - b.2) * z (a.1 + 1) b.1 + b.2 * z (a.1 + 1) (b.1 + 1))) / ((2 ^ 15 : Nat) : Rat)

/-- The base-volume factor c; none where it is invalid (R226). -/
def State.gasFactor (s : State) (t : Int) (p : Nat) : Option Nat :=
  let tk : Rat := ((2731500 + t : Int) : Rat)
  let tb : Rat := ((2731500 + s.fsgn F.LDG_GAS_TB_TB : Int) : Rat)
  let z := s.compress p t
  let den : Rat := (s.regN Reg.LDG_GAS_PB : Rat) * tk * z
  if den = 0 then none
  else
    let zb : Rat := (s.regN Reg.LDG_GAS_ZB : Rat) / ((2 ^ 30 : Nat) : Rat)
    let c := ratUp (((2 ^ 24 * p : Nat) : Rat) * tb * zb / den)
    if 0 ≤ c ∧ c < 2 ^ 32 then some c.toNat else none

/-- The factor of a step under the conditions of R227; none gives E_GAS. -/
def State.gasReady (s : State) : Option Nat :=
  match s.roleThermo 0 with
  | none => none
  | some f =>
    match s.heldTemp f, s.heldPress with
    | some t, some p =>
      if s.tmu.states.getD f 0 == elOK && s.tmu.states.getD 4 0 == elOK && !(s.gasZ == 1 && s.fbit F.LDG_STATUS_ZTAB_BAD) then
        s.gasFactor t p
      else none
    | _, _ => none

/-- The calorific value of a step in bin b (R188, R226). -/
def State.calorific (s : State) (b : Nat) : Nat :=
  let cv := s.regN (Reg.LDG_CV (if s.tariffSrc = 0 then 0 else b))
  if s.fbit F.FLW_H2_CFG_STEER && s.fbit F.FLW_STATUS_H2_VALID then
    let xf := (s.flw.xf.fdiv 256).toNat
    roundNat ((10000 - xf) * cv + xf * s.regN Reg.FLW_H2_CVH) 10000
  else cv

/-! Tariffs (R229) -/

/-- Does a TARIFF entry match the live time? -/
def State.tariffHit (s : State) (e : TariffEntry) : Bool :=
  let h := Cal.ofBcd (s.regN Reg.RTC_HOUR)
  e.months.testBit (Cal.ofBcd (s.regN Reg.RTC_MONTH)) && e.wdays.testBit (s.regN Reg.RTC_WDAY) && e.fromHour ≤ h && h < e.toHour

/-- The bin in force, whether an entry matched, and its index (R229). -/
def State.tariffNow (s : State) : Nat × Bool × Nat :=
  match s.tariffSrc with
  | 1 => (s.fget F.LDG_TARIFF_SEL_BIN, false, 0)
  | 2 =>
    let l := match s.image with
      | some i => i.tariff
      | none => []
    match (List.range l.length).find? fun k => match l[k]? with
      | some e => s.tariffHit e
      | none => false with
    | some k => ((l[k]?.map (·.bin)).getD 0, true, k)
    | none => (0, false, 0)
  | _ => (0, false, 0)

/-- Report the bin in force. -/
def State.setTariff (s : State) : State :=
  let t := s.tariffNow
  s.fsetAll [(F.LDG_TARIFF_BIN, t.1), (F.LDG_TARIFF_MATCH, b2n t.2.1), (F.LDG_TARIFF_ENTRY, t.2.2)]

/-! Poison (R227, R322) -/

/-- Does the bin in force come from a poisoned register? -/
def State.tariffBad (s : State) : Bool := s.tariffSrc == 1 && s.regBad Reg.LDG_TARIFF_SEL

/-- Do quantities go to the tariff bins too (R229)? -/
def State.binned (s : State) : Bool := s.tariffSrc != 0 && !s.tariffBad

/-- Does the base volume read a poisoned item: a gas register, or with GAS_Z = 1 an axis or Z-table entry? -/
def State.basePoison (s : State) : Bool :=
  ([Reg.LDG_GAS_PB, Reg.LDG_GAS_TB, Reg.LDG_GAS_ZB] ++
    (if s.gasZ = 0 then [Reg.LDG_GAS_ZC]
      else (List.range 16).map Reg.LDG_GAS_PAX ++ (List.range 16).map Reg.LDG_GAS_TAX ++ (List.range 128).map Reg.LDG_GAS_Z)).any s.regBad

/-- Is the calorific value in force poisoned? -/
def State.cvPoison (s : State) : Bool :=
  s.regBad (Reg.LDG_CV (if s.tariffSrc = 0 then 0 else s.fget F.LDG_TARIFF_BIN)) || s.tariffBad

/-- Is an item that some quantity of the step reads poisoned? -/
def State.energyPoison (s : State) : Bool :=
  s.tariffBad || (if s.ledgerKind = 4 then s.basePoison || s.cvPoison else s.regBad Reg.LDG_HC)

/-- Mark a step whose quantities read poison. -/
def State.poisonStep (s : State) : State := (s.fset F.LDG_LASTSTEP_E_POISON 1).consumed

/-- Add to an energy accumulator and its tariff bin. -/
def State.addEnergy (s : State) (a : Nat) (x : Rat) (binned : Bool) : State :=
  let s := s.addExact a x
  if binned && s.binned then s.addExact (acTE (s.fget F.LDG_TARIFF_BIN)) x else s

/-! The step (R221 to R228) -/

/-- What the interval of a step is (R221). -/
structure Interval where
  qa : Int
  qb : Int
  subst : Bool        -- adds to SVOL (R223)
  deriving DecidableEq, Repr

/-- Energy of an interval's forward volume: causes and the state after (R225 to R227); a quantity that reads poison is skipped. -/
def State.energyStep (s : State) (vf : Rat) : State :=
  let s := s.when s.energyPoison State.poisonStep
  let kind := s.ledgerKind
  if kind = 4 then
    match s.gasReady with
    | none => s.fset F.LDG_LASTSTEP_E_GAS 1
    | some c =>
      if s.basePoison then s
      else
        let s := s.setRegN Reg.LDG_CORR c
        let vb := vf * (c : Rat) / ((2 ^ 24 : Nat) : Rat)
        let s := s.addExact acBVOL vb
        let s := if s.binned then s.addExact (acTV (s.fget F.LDG_TARIFF_BIN)) vb else s
        if s.cvPoison then s
        else
          let cv := s.calorific (s.fget F.LDG_TARIFF_BIN)
          (s.setRegN Reg.LDG_CVUSED cv).addEnergy acGASE (vb * (cv : Rat) / 1000) true
  else
    let s := if s.binned then s.addExact (acTV (s.fget F.LDG_TARIFF_BIN)) vf else s
    if !s.tempOk then s.fset F.LDG_LASTSTEP_E_TEMP 1
    else if s.regBad Reg.LDG_HC then s
    else
      let dt := s.tmu.dt.getD 0
      let ts := (s.flowTemp).getD 0
      let k := heatCoef s.flowPos (s.fget F.LDG_HC_PRESS) ts dt
      let s := s.setRegN Reg.LDG_K (unsigned 32 k)
      let e : Rat := (k : Rat) * vf * (dt.natAbs : Rat) / ((10 ^ 13 : Nat) : Rat)
      let lim : Int := s.fget F.LDG_HC_DTMIN
      if dt > lim ∧ (kind = 1 ∨ kind = 3) then s.addEnergy acHEAT e true
      else if dt < -lim ∧ (kind = 2 ∨ kind = 3) then s.addEnergy acCOOL e (kind == 2)
      else s

/-- Integrate an interval of d ns (R222, R223, R225, R226). -/
def State.integrate (s : State) (iv : Interval) (d : Nat) : State :=
  let v := volumes iv.qa iv.qb d
  let s := s.fsetAll [(F.LDG_LASTSTEP_INTEGRATED, 1), (F.LDG_LASTSTEP_SPLIT, b2n v.2.2), (F.LDG_LASTSTEP_SUBST, b2n iv.subst)]
  let s := (s.addExact acFVOL v.1).addExact acRVOL v.2.1
  let s := if iv.subst then s.addExact acSVOL (v.1 + v.2.1) else s
  s.energyStep v.1

/-- The conditions of energy where no volume is integrated (R227): only the cause bits. -/
def State.energyCauses (s : State) : State :=
  let s := s.when s.energyPoison State.poisonStep
  if s.ledgerKind = 4 then (if s.gasReady.isNone then s.fset F.LDG_LASTSTEP_E_GAS 1 else s)
  else if !s.tempOk then s.fset F.LDG_LASTSTEP_E_TEMP 1 else s

/-- Whole LFT in a time of 1/64 ns units, as corrected nanoseconds (R59, R235). -/
def correctedNs (lft : Nat) (c : Int) : Nat := (roundHalfUpInt (lft * 10 ^ 17) (32768 * (10 ^ 8 + c))).toNat

/-- The rate correction c in force, in 0.01 ppm (R59). -/
def State.rateCorr (s : State) : Int := s.fsgn F.RTC_CORR_C

/-- The time a step without a previous shot instant takes after a power-fail warning: from the end of the last accounted interval to
the instant reached (R235), in ns. `rotEnd` is the mark, in 1/64 ns from the mark before. -/
def State.pfStepNs (s : State) (rotEnd : Nat) : Nat :=
  match s.ldg.lastEnd with
  | none => 0
  | some e =>
    let to_ : Int := match s.ldg.shotAt with
      | some a => if e < a then a else rotEnd
      | none => rotEnd
    correctedNs ((to_ - e).toNat / 1953125) s.rateCorr

/-- Add time to OPTIME. -/
def State.addOptime (s : State) (ns : Nat) : State := s.addUnits acOPTIME ns

/-- Add error time once and mark the step (R227). -/
def State.addErrtime (s : State) (ns : Nat) : State := (s.addUnits acERRTIME ns).fset F.LDG_LASTSTEP_ERROR 1

/-- Has the step a cause that adds error time? -/
def State.stepCauses (s : State) : Bool :=
  s.fbit F.LDG_LASTSTEP_E_FLOW || s.fbit F.LDG_LASTSTEP_E_TEMP || s.fbit F.LDG_LASTSTEP_E_GAS ||
    s.fbit F.LDG_LASTSTEP_E_POISON || s.fbit F.LDG_LASTSTEP_E_HOST

/-- The endpoint that the rotation's own flow leaves: none unless it is VALID (R221). -/
def State.flowEndpoint (s : State) : Option Endpoint :=
  if s.flw.stepped && s.fget F.FLW_STATUS_STATE == flVALID then
    some ⟨s.flw.live.q, s.fbit F.FLW_STATUS_SUBST || s.fbit F.FLW_STATUS_FALLBACK⟩
  else none

/-- The step of hardware flow (R221): d is the corrected duration, `rotEnd` the mark. -/
def State.hardwareStep (s : State) (d rotEnd : Nat) : State :=
  if !s.ldg.prevShot then
    let s := s.fset F.LDG_LASTSTEP_NO_PREV 1
    let s := if s.ldg.afterPf then
        let t := s.pfStepNs rotEnd
        (s.addOptime t).addErrtime t
      else s.addOptime d
    s.setLdg fun l => { l with prev := s.flowEndpoint }
  else
    let s := s.addOptime d
    let st := if s.flw.stepped then s.fget F.FLW_STATUS_STATE else flNOFLOW
    let here := s.flowEndpoint
    let s :=
      match here with
      | some b =>
        let a := s.ldg.prev.getD b
        let s := s.integrate ⟨a.q, b.q, a.subst || b.subst⟩ d
        s.setLdg fun l => { l with prev := some b }
      | none =>
        let s := s.fset F.LDG_LASTSTEP_E_FLOW 1
        if st = flHOLD then
          let q := s.flw.valid.q
          let mark := s.fbit F.FLW_STATUS_SUBST || s.fbit F.FLW_STATUS_FALLBACK
          let s := s.integrate ⟨q, q, false⟩ d
          s.setLdg fun l => { l with prev := some ⟨q, mark⟩ }
        else s.energyCauses.setLdg fun l => { l with prev := none }
    if s.stepCauses then s.addErrtime d else s

/-! Host increments (R230) -/

/-- The accumulator of a pair of words of the increment set. -/
def hostAcc (i : Nat) : Nat := [acFVOL, acRVOL, acSVOL, acHEAT, acCOOL, acBVOL, acGASE].getD i 0

/-- Does the ledger feed an accumulator (R215)? -/
def State.feeds (s : State) (a : Nat) : Bool :=
  let k := s.ledgerKind
  if a ≤ 2 then true
  else if a = acHEAT then k == 1 || k == 3
  else if a = acCOOL then k == 2 || k == 3
  else k == 4 && s.hasGas

/-- Book one increment: its accumulator, and the bin in force for the forward volume and the energy of the kind (R230). -/
def State.bookHost (s : State) (i inc : Nat) : State :=
  let a := hostAcc i
  if !s.feeds a then (if inc = 0 then s else s.fset F.LDG_EVT_HOSTIGN 1)
  else
    let s := s.addUnits a inc
    let b := s.fget F.LDG_TARIFF_BIN
    if !s.binned then s
    else if a = (if s.ledgerKind = 4 then acBVOL else acFVOL) then s.addUnits (acTV b) inc
    else if a = (if s.ledgerKind = 4 then acGASE else if s.ledgerKind = 2 then acCOOL else acHEAT) then s.addUnits (acTE b) inc
    else s

/-- The step of host-assisted flow (R230). -/
def State.hostStep (s : State) (d rotEnd : Nat) : State :=
  let noPrev := !s.ldg.prevShot
  let s := s.fset F.LDG_LASTSTEP_NO_PREV (b2n noPrev)
  let t := if noPrev && s.ldg.afterPf then s.pfStepNs rotEnd else d
  let s := s.addOptime t
  let s :=
    match s.ldg.hostSet with
    | some (ws, err) =>
      let s := s.when s.tariffBad State.poisonStep
      let s := (List.range 7).foldl (fun u i => u.bookHost i (ws.getD (2 * i) 0 + ws.getD (2 * i + 1) 0 * 2 ^ 32)) s
      let s := s.fset F.LDG_LASTSTEP_INTEGRATED 1
      if err then s.fset F.LDG_LASTSTEP_E_HOST 1 else s
    | none => if noPrev then s else (s.fset F.LDG_EVT_NOSET 1).fset F.LDG_LASTSTEP_E_HOST 1
  if s.stepCauses || (noPrev && s.ldg.afterPf) then s.addErrtime t else s

/-! The clear (R219) and the whole of S3 -/

/-- The zero state of a clear (R219). -/
def State.ledgerZero (s : State) : State :=
  let s := s.setLdg fun l => { l with acc := List.replicate 17 {}, prev := none, pulses := l.pulses.map fun p => { p with res := 0 } }
  s.fsetAll [(F.LDG_PULSE_ST_BACKLOG 0, 0), (F.LDG_PULSE_ST_BACKLOG 1, 0)]

/-- After a step: the end of the last accounted interval, and whether a previous shot instant exists (R29, R235). `shotRot` says
whether the rotation counts as having a shot instant when none was noted (host shots under host flow). -/
def State.afterStep (s : State) (rotEnd : Nat) (shotRot : Bool) : State :=
  let l := s.ldg
  let late := match l.shotAt, l.lastEnd with
    | some a, some e => decide (e < (a : Int))
    | some _, none => true
    | none, _ => false
  let here : Bool := late || shotRot
  let end_ : Int := match l.shotAt with
    | some a => if late then a else rotEnd
    | none => rotEnd
  s.setLdg fun l => { l with lastEnd := some end_, prevShot := l.prevShot || here, afterPf := l.afterPf && !here }

/-- A mark without a step: the rotation it ends enters no time (R228), and the next interval begins at the mark. -/
def State.noStep (s : State) (rotEnd : Nat) : State := s.setLdg fun l => { l with lastEnd := some (rotEnd : Int) }

/-- S3 of the mark (R55): the clear or the ledger step. The flag says whether a step ran. -/
def State.ledgerS3 (s : State) (d rotEnd : Nat) (shotRot : Bool) : Bool × State :=
  if s.ldg.clearReq then
    let s := s.ledgerZero.fset F.LDG_EVT_CLEARED 1
    (false, (s.setLdg fun l => { l with clearReq := false, due := if l.due.contains 3 then l.due else 3 :: l.due }).afterStep rotEnd shotRot)
  else
    let s := s.setTariff
    let s := s.setRegs [(Reg.LDG_LASTSTEP, 0), (Reg.LDG_ROT, s.regN Reg.ROT_NUM)]
    let s := (List.range 2).foldl (fun (t : State) (p : Nat) => if t.pulseSrc p = 0 then t else t.feedPulse p 0) s
    let s := if s.hostFlow then s.hostStep d rotEnd else s.hardwareStep d rotEnd
    (true, s.afterStep rotEnd shotRot)

/-- S1: the increment set is sampled if GO reads 1, and GO clears (R55, R230). -/
def State.sampleHostSet (s : State) : State :=
  if s.fbit F.LDG_HOSTINC_GO_GO then
    let ws := (List.range 14).map fun w => s.regN (Reg.LDG_HOSTINC_W w)
    (s.setLdg fun l => { l with hostSet := some (ws, s.fbit F.LDG_HOSTINC_FLAGS_ERR) }).fset F.LDG_HOSTINC_GO_GO 0
  else s.setLdg fun l => { l with hostSet := none }

/-- A device fault clears the previous shot instant (R58). -/
def State.clearPrevShot (s : State) : State := s.setLdg fun l => { l with prevShot := false, shotAt := none }

/-- The partial interval of a power-fail warning at time t (1/64 ns from the mark) (R235 step 2): an endpoint's flow held constant.
Cause bits of the step say which quantity was not formed; the length is error time in any case. The idle rotation has no time to account
(R228). -/
def State.partialStep (s : State) (t : Nat) : State :=
  let len := match s.ldg.lastEnd, s.image with
    | some e, some _ => correctedNs (((t : Int) - e).toNat / 1953125) s.rateCorr
    | _, _ => 0
  let s := s.setTariff
  let s := s.setRegN Reg.LDG_LASTSTEP 0
  let s := match s.ldg.prev with
    | some p => s.integrate ⟨p.q, p.q, p.subst⟩ len
    | none => s
  let s := (s.addOptime len).addErrtime len
  let s := s.fset F.LDG_LASTSTEP_PARTIAL 1
  let later := fun (o : Option Nat) => match o with
    | some a => if t < a then some a else none
    | none => none
  s.setLdg fun l => { l with prevShot := false, prev := none, lastEnd := some (t : Int), afterPf := true, shotAt := later l.shotAt }

/-! Pulse emitter (R239) -/

/-- S6: period and width for the next rotation of n LFT. -/
def State.setPulsePeriod (s : State) (n p : Nat) : State :=
  let b := s.fget (F.LDG_PULSE_ST_BACKLOG p)
  if b = 0 then s.fset (F.LDG_PULSE_PER_PER p) 0
  else
    let per := max 66 (n / b)
    let wms := min 250 (max 1 (s.fget (F.LDG_PULSE_CFG_WIDTH p)))
    let s := s.fset (F.LDG_PULSE_PER_PER p) per
    s.setPulse p { s.pulse p with width := min (roundNat (wms * 32768) 1000) (per / 2) }

/-- A pulse starts: its leading edge lowers the backlog by 1. -/
def State.pulseStart (s : State) (p : Nat) : State :=
  let b := s.fget (F.LDG_PULSE_ST_BACKLOG p)
  if b = 0 ∨ s.fget (F.LDG_PULSE_PER_PER p) = 0 ∨ s.pulseSrc p = 0 ∨ (s.pulse p).active then s
  else (s.fset (F.LDG_PULSE_ST_BACKLOG p) (b - 1)).setPulse p { s.pulse p with active := true }

/-- The pulse's active width ends. -/
def State.pulseEnd (s : State) (p : Nat) : State := s.setPulse p { s.pulse p with active := false }

/-- The level of pulse pin p: active level POL (R239). -/
def State.pulsePin (s : State) (p : Nat) : Bool := (s.pulse p).active != s.fbit (F.LDG_PULSE_CFG_POL p)

end Sys2Proof.Machine
end

