-- ==== Sys2Proof/Machine/LedgerNvm.lean ====
section
/-! DEFINITION. The ledger's commits to ledger NVM and the restore (R231 to R237): the records, programming and verify, the page
erase ahead of the write position, and what a reset finds in the ring. -/

namespace Sys2Proof.Machine

/-- Host address of record position r (R232). -/
def recordAddr (r : Nat) : Nat := 0x300000 + 64 * (r % 1024)

/-! Records (R233) -/

/-- A record from its part, SEQ and payload of 44 bytes: header and CRC. -/
def ledgerRecord (part seq hours rot : Nat) (payload : List Byte) : List Byte :=
  let b := leBytes 1 0x4C ++ leBytes 1 part ++ leBytes 2 1 ++ leBytes 4 seq ++ leBytes 4 hours ++ leBytes 4 rot ++ sliceBytes payload 0 44
  b ++ leBytes 4 (crc32 b)

/-- The payload of part 0. -/
def State.part0 (s : State) (cause : Nat) : List Byte :=
  leBytes 1 cause ++ leBytes 1 (s.fget F.LDG_TARIFF_BIN) ++ leBytes 2 (s.fget (F.LDG_PULSE_ST_BACKLOG 0)) ++
    leBytes 2 (s.fget (F.LDG_PULSE_ST_BACKLOG 1)) ++ leBytes 1 (s.fget F.SYS_EPOCH_EPOCH) ++ leBytes 1 0 ++
    leBytes 4 (s.pulse 0).res ++ leBytes 4 (s.pulse 1).res ++
    ([Reg.RTC_SEC, Reg.RTC_MIN, Reg.RTC_HOUR, Reg.RTC_DAY, Reg.RTC_MONTH, Reg.RTC_YEAR, Reg.RTC_CENT].map fun a =>
      BitVec.ofNat 8 (s.regN a)) ++ leBytes 1 0 ++ leBytes 4 (s.regN Reg.STI_ACTIVE_MCRC)

/-- The payload of parts 1 to 6: three accumulators each, the last slot of part 6 zero. -/
def State.partN (s : State) (p : Nat) : List Byte :=
  let l := (List.range 3).map fun i => s.acc (3 * (p - 1) + i)
  (l.map fun a => leBytes 12 a.v).flatten ++ (l.map fun a => BitVec.ofNat 8 a.wrap)

/-- The seven records of a commit (R232). -/
def State.commitRecords (s : State) (seq cause : Nat) : List (List Byte) :=
  (List.range 7).map fun p =>
    ledgerRecord p seq (s.regN Reg.TIU_HOURS) (s.regN Reg.ROT_NUM) (if p = 0 then s.part0 cause else s.partN p)

/-- Start a commit under the next SEQ (R232, R234); the commit interval begins again. A commit that starts after the power-fail commit, its
repeat among them, ends the time in which a further warning is ignored (R235). -/
def State.startCommit (s : State) (cause : Nat) (op : Option Nat) : State :=
  let seq := s.ldg.seqUsed + 1
  let recs := s.commitRecords seq cause
  s.setLdg fun l => { l with seqUsed := seq, commit := some { seq := seq, cause := cause, records := recs, op := op },
                                periodic := false, perDue := false, pfIgnore := false }

/-! The ring -/

/-- Does a record position hold no programmed symbol (R315)? -/
def State.recErased (s : State) (r : Nat) : Bool :=
  (List.range 4).all fun w => (s.symsAt (recordAddr r + 16 * w)).all (· == 255)

/-- Bytes erased ahead of record position p, pages whose erase was abandoned not counted (R234): the fuel bounds the positions. -/
def State.erasedFrom (s : State) (p : Nat) : Nat → Nat
  | 0 => 0
  | n + 1 =>
    if s.recErased (p % 1024) && !s.ldg.torn.contains (p % 1024 / 32) then 64 + s.erasedFrom (p + 1) n else 0

def State.erasedAhead (s : State) : Nat := s.erasedFrom (s.fget F.LDG_NVMPOS_POS) 1024

/-- The next page to erase: the first that is not erased ahead of the write position. -/
def State.nextErasePage (s : State) : Nat := (s.fget F.LDG_NVMPOS_POS + s.erasedAhead / 64) % 1024 / 32

/-- Does the ring need an erase after a commit (R234)? -/
def State.wantErase (s : State) : State :=
  if s.ldg.erase.isNone && s.erasedAhead < 4096 then s.setLdg fun l => { l with erase := some s.nextErasePage } else s

/-- An erase of a ledger NVM page completes (R234). -/
def State.eraseLedgerPage (s : State) : State :=
  match s.ldg.erase with
  | none => s
  | some p =>
    let s := s.eraseKeys (0x300000 + 0x800 * p) (0x300000 + 0x800 * (p + 1))
    s.setLdg fun l => { l with erase := none, torn := l.torn.filter (· != p) }

/-- Free values in every symbol of a word: what a failed program, or an erase cut short, leaves (R234, R235, R332). -/
def State.scrambleWord (s : State) (a : Nat) : State :=
  let v := s.draw
  v.2.setSymsAt (s.phys (a / 16 * 16)) ((leBytes 20 v.1).map (·.toNat))

/-- Scramble n words upwards. -/
def State.scrambleWords (s : State) (a : Nat) : Nat → State
  | 0 => s
  | n + 1 => (s.scrambleWord a).scrambleWords (a + 16) n

/-- The erase in progress is abandoned: its page is partly erased (R235). -/
def State.tearErase (s : State) : State :=
  match s.ldg.erase with
  | none => s
  | some p =>
    let s := s.scrambleWords (0x300000 + 0x800 * p) 128
    s.setLdg fun l => { l with erase := none, torn := if l.torn.contains p then l.torn else p :: l.torn }

/-- Does the word at a host address decode to these 16 bytes? -/
def State.verifyWord (s : State) (a : Nat) (d : List Nat) : Bool := s.peekWord a == d && !s.peekBad a

/-- Program the four words of a record; `bad` names one that fails verify (R234). -/
def State.programRecord (s : State) (a : Nat) (b : List Byte) (bad : Option Nat) : State :=
  (List.range 4).foldl (fun t w =>
    let d := (sliceBytes b (16 * w) 16).map (·.toNat)
    if bad = some w then t.scrambleWord (a + 16 * w) else t.writeWord (a + 16 * w) d) s

/-- The first word of a record that fails verify: the named one, or one that a flip mask spoiled. -/
def State.recordFails (s : State) (a : Nat) (b : List Byte) (bad : Option Nat) : Option Nat :=
  (List.range 4).find? fun w =>
    bad == some w || !s.verifyWord (a + 16 * w) ((sliceBytes b (16 * w) 16).map (·.toNat))

/-- How a record's program ended: the commit goes on, is complete, or failed verify. -/
inductive CommitEnd where
  | idle | more | done (c : LdgCommit) | failed (c : LdgCommit)
  deriving DecidableEq, Repr

/-- A record finishes programming and verify (R234). `us` is the time since the commit began, for the duration that a power-fail commit
reports (R235). -/
def State.programNext (s : State) (bad : Option Nat) (us : Nat) : CommitEnd × State :=
  match s.ldg.commit with
  | none => (.idle, s)
  | some c =>
    let a := recordAddr (s.fget F.LDG_NVMPOS_POS)
    let b := c.records.getD c.done []
    let s := s.programRecord a b bad
    let fail := s.recordFails a b bad
    let s := s.fset F.LDG_NVMPOS_POS ((s.fget F.LDG_NVMPOS_POS + 1) % 1024)
    match fail with
    | some w =>
      let s := s.logEvent (a + 16 * w) clsVERIFY .nvmProgram true 0 0
      let s := s.fset F.LDG_EVT_COMMIT_FAIL 1
      let again := if c.cause = 1 then 0 else c.cause
      (.failed c, (s.setLdg fun l => { l with commit := none, redo := l.redo ++ [again] }).wantErase)
    | none =>
      if c.done + 1 < 7 then (.more, s.setLdg fun l => { l with commit := some { c with done := c.done + 1 } })
      else
        let s := (s.setLdg fun l => { l with commit := none }).setRegN Reg.LDG_SEQ c.seq
        let s := if c.cause = 2 then s.fsetAll [(F.LDG_NVMPOS_PF_US, min 65535 us), (F.LDG_STATUS_PF_DONE, 1)] else s
        (.done c, s.wantErase)

/-- An NVM facet begins: failed commits are to be repeated in it, and a periodic commit whose interval has ended runs in it (R62, R234). -/
def State.ledgerFacet (s : State) : State := s.setLdg fun l => { l with due := l.due ++ l.redo, redo := [], perDue := l.periodic }

/-- Start a commit that is due when an NVM facet has room: a clear first, then repeats, then a waiting LEDGER_COMMIT or the periodic commit
(R219, R234). A repeat that is periodic work, or a periodic commit that is due, serves the waiting operation `op` with cause 1 (R237). -/
def State.commitIfDue (s : State) (op : Option Nat) : State :=
  if s.ldg.commit.isSome then s
  else
    match s.ldg.due with
    | 3 :: r => (s.setLdg fun l => { l with due := r }).startCommit 3 none
    | c :: r =>
      let s := s.setLdg fun l => { l with due := r }
      match op with
      | some i => if c = 0 then s.startCommit 1 (some i) else s.startCommit c none
      | none => s.startCommit c none
    | [] =>
      match op with
      | some i => s.startCommit 1 (some i)
      | none => if s.ldg.perDue then s.startCommit 0 none else s

/-! The restore (R231, R232, R236) -/

/-- A record of the ring that passes its decode and CRC. -/
structure RingRec where
  pos : Nat
  part : Nat
  seq : Nat
  hours : Nat
  data : List Byte
  deriving DecidableEq, Repr

/-- The record at position r when it passes decode, CRC, TYPE and FORMAT (R236). -/
def State.ringRecord (s : State) (r : Nat) : Option RingRec :=
  let a := recordAddr r
  if (List.range 4).any fun w => s.peekBad (a + 16 * w) then none
  else
    let b := s.peek a 64
    if leAt b 0 1 = 0x4C ∧ leAt b 2 2 = 1 ∧ crc32 (b.take 60) = leAt b 60 4 then
      some ⟨r, leAt b 1 1, leAt b 4 4, leAt b 8 4, b⟩
    else none

/-- The device reads the whole ring. -/
def State.touchRing (s : State) : State := s.touch 0x300000 0x10000

/-- Every valid record of the ring. -/
def State.ringRecords (s : State) : List RingRec := (List.range 1024).filterMap s.ringRecord

/-- The complete commit of a SEQ among records: its parts in order. -/
def commitOf (l : List RingRec) (seq : Nat) : Option (List RingRec) :=
  let m := l.filter fun r => r.seq == seq
  if m.length = 7 then (List.range 7).mapM fun p => m.find? (fun r => r.part == p) else none

/-- The newest complete commit (R236). -/
def newestCommit (l : List RingRec) : Option (List RingRec) :=
  let seqs := (l.filter fun r => (commitOf l r.seq).isSome).map (·.seq)
  if seqs.isEmpty then none else commitOf l (seqs.foldl max 0)

/-- Load the accumulators, backlogs and pulse residues of a commit (R236). -/
def State.loadCommit (s : State) (c : List RingRec) : State :=
  let p0 := (c.head?.map (·.data)).getD []
  let acc := (List.range 17).map fun a =>
    let d := ((c.drop (a / 3 + 1)).head?.map (·.data)).getD []
    (⟨leAt d (0x10 + 12 * (a % 3)) 12, leAt d (0x34 + a % 3) 1, 0⟩ : Acc)
  let s := s.setLdg fun l => { l with acc := acc, prev := none,
                                       pulses := [{ res := leAt p0 0x18 4 }, { res := leAt p0 0x1C 4 }] }
  s.fsetAll [(F.LDG_PULSE_ST_BACKLOG 0, leAt p0 0x12 2), (F.LDG_PULSE_ST_BACKLOG 1, leAt p0 0x14 2),
    (F.LDG_SEQ_SEQ, ((c.head?.map (·.seq)).getD 0))]

/-- Where the next commit goes after a reset: the first erased position after the newest record of the ring. -/
def State.findPos (s : State) (l : List RingRec) : Nat :=
  let top := l.foldl (fun (b : Option RingRec) r => match b with
    | some x => if x.seq < r.seq ∨ (x.seq = r.seq ∧ x.part < r.part) then some r else some x
    | none => some r) none
  let p := match top with
    | some r => r.pos + 1
    | none => 0
  (((List.range 1024).find? fun i => s.recErased ((p + i) % 1024)).map fun i => (p + i) % 1024).getD (p % 1024)

/-- The ring at every reset: the write position, and SEQ when the store was lost (R232). -/
def State.findRing (s : State) : State := s.touchRing.fset F.LDG_NVMPOS_POS (s.findPos s.ringRecords)

/-- The restore after the store lost its content (R236): the state after and whether RET_LOST is to be raised. `cold` says that AON lost
power, so that h comes from the ring too (R141). -/
def State.restoreLedger (s : State) (cold : Bool) : Bool × State :=
  let l := s.ringRecords
  let top := l.foldl (fun m r => max m r.seq) 0
  let s := (s.ledgerZero.setLdg fun g => { g with seqUsed := top, prevShot := false, pulses := List.replicate 2 {} })
  let hmax := l.foldl (fun m r => max m r.hours) 0
  match newestCommit l with
  | some c =>
    let s := (s.loadCommit c).fset F.LDG_STATUS_RESTORE 1
    (false, if cold then s.setRegN Reg.TIU_HOURS ((c.head?.map (·.hours)).getD 0) else s)
  | none =>
    let s := (if cold then s.setRegN Reg.TIU_HOURS hmax else s).setRegN Reg.LDG_SEQ 0
    if (List.range 1024).all s.recErased then (false, s.fset F.LDG_STATUS_RESTORE 2)
    else (true, s.fset F.LDG_STATUS_RESTORE 3)

end Sys2Proof.Machine
end

