-- ==== Sys2Proof/Machine/Crypto.lean ====
section
/-! DEFINITION. The ciphers and digests the spec names: AES-128, CCM* with an 8-octet MIC (R270), the key wrap of RFC 3394
(R275) and SHA-256 (R377, R389). -/

namespace Sys2Proof.Machine

/-! AES-128 -/

/-- Doubling in the field of AES. -/
def aesDouble (a : Nat) : Nat := if a < 128 then 2 * a else (2 * a - 256).xor 0x1B

/-- Product in the field of AES, by the bits of the second factor. -/
def aesMulFrom : Nat → Nat → Nat → Nat
  | 0, _, _ => 0
  | k + 1, a, b => (if b.testBit 0 then a else 0).xor (aesMulFrom k (aesDouble a) (b / 2))

/-- Product in the field of AES. -/
def aesMul (a b : Nat) : Nat := aesMulFrom 8 a b

/-- The S-box, the affine image of the field inverse, in rows of 16. -/
def aesSbox : List (List Nat) :=
  [ [0x63, 0x7C, 0x77, 0x7B, 0xF2, 0x6B, 0x6F, 0xC5, 0x30, 0x01, 0x67, 0x2B, 0xFE, 0xD7, 0xAB, 0x76],
    [0xCA, 0x82, 0xC9, 0x7D, 0xFA, 0x59, 0x47, 0xF0, 0xAD, 0xD4, 0xA2, 0xAF, 0x9C, 0xA4, 0x72, 0xC0],
    [0xB7, 0xFD, 0x93, 0x26, 0x36, 0x3F, 0xF7, 0xCC, 0x34, 0xA5, 0xE5, 0xF1, 0x71, 0xD8, 0x31, 0x15],
    [0x04, 0xC7, 0x23, 0xC3, 0x18, 0x96, 0x05, 0x9A, 0x07, 0x12, 0x80, 0xE2, 0xEB, 0x27, 0xB2, 0x75],
    [0x09, 0x83, 0x2C, 0x1A, 0x1B, 0x6E, 0x5A, 0xA0, 0x52, 0x3B, 0xD6, 0xB3, 0x29, 0xE3, 0x2F, 0x84],
    [0x53, 0xD1, 0x00, 0xED, 0x20, 0xFC, 0xB1, 0x5B, 0x6A, 0xCB, 0xBE, 0x39, 0x4A, 0x4C, 0x58, 0xCF],
    [0xD0, 0xEF, 0xAA, 0xFB, 0x43, 0x4D, 0x33, 0x85, 0x45, 0xF9, 0x02, 0x7F, 0x50, 0x3C, 0x9F, 0xA8],
    [0x51, 0xA3, 0x40, 0x8F, 0x92, 0x9D, 0x38, 0xF5, 0xBC, 0xB6, 0xDA, 0x21, 0x10, 0xFF, 0xF3, 0xD2],
    [0xCD, 0x0C, 0x13, 0xEC, 0x5F, 0x97, 0x44, 0x17, 0xC4, 0xA7, 0x7E, 0x3D, 0x64, 0x5D, 0x19, 0x73],
    [0x60, 0x81, 0x4F, 0xDC, 0x22, 0x2A, 0x90, 0x88, 0x46, 0xEE, 0xB8, 0x14, 0xDE, 0x5E, 0x0B, 0xDB],
    [0xE0, 0x32, 0x3A, 0x0A, 0x49, 0x06, 0x24, 0x5C, 0xC2, 0xD3, 0xAC, 0x62, 0x91, 0x95, 0xE4, 0x79],
    [0xE7, 0xC8, 0x37, 0x6D, 0x8D, 0xD5, 0x4E, 0xA9, 0x6C, 0x56, 0xF4, 0xEA, 0x65, 0x7A, 0xAE, 0x08],
    [0xBA, 0x78, 0x25, 0x2E, 0x1C, 0xA6, 0xB4, 0xC6, 0xE8, 0xDD, 0x74, 0x1F, 0x4B, 0xBD, 0x8B, 0x8A],
    [0x70, 0x3E, 0xB5, 0x66, 0x48, 0x03, 0xF6, 0x0E, 0x61, 0x35, 0x57, 0xB9, 0x86, 0xC1, 0x1D, 0x9E],
    [0xE1, 0xF8, 0x98, 0x11, 0x69, 0xD9, 0x8E, 0x94, 0x9B, 0x1E, 0x87, 0xE9, 0xCE, 0x55, 0x28, 0xDF],
    [0x8C, 0xA1, 0x89, 0x0D, 0xBF, 0xE6, 0x42, 0x68, 0x41, 0x99, 0x2D, 0x0F, 0xB0, 0x54, 0xBB, 0x16] ]

/-- The substitution of one byte. -/
def aesSub (a : Nat) : Nat := (aesSbox.getD (a / 16) []).getD (a % 16) 0

/-- The inverse S-box, in rows of 16. -/
def aesUnsbox : List (List Nat) :=
  [ [0x52, 0x09, 0x6A, 0xD5, 0x30, 0x36, 0xA5, 0x38, 0xBF, 0x40, 0xA3, 0x9E, 0x81, 0xF3, 0xD7, 0xFB],
    [0x7C, 0xE3, 0x39, 0x82, 0x9B, 0x2F, 0xFF, 0x87, 0x34, 0x8E, 0x43, 0x44, 0xC4, 0xDE, 0xE9, 0xCB],
    [0x54, 0x7B, 0x94, 0x32, 0xA6, 0xC2, 0x23, 0x3D, 0xEE, 0x4C, 0x95, 0x0B, 0x42, 0xFA, 0xC3, 0x4E],
    [0x08, 0x2E, 0xA1, 0x66, 0x28, 0xD9, 0x24, 0xB2, 0x76, 0x5B, 0xA2, 0x49, 0x6D, 0x8B, 0xD1, 0x25],
    [0x72, 0xF8, 0xF6, 0x64, 0x86, 0x68, 0x98, 0x16, 0xD4, 0xA4, 0x5C, 0xCC, 0x5D, 0x65, 0xB6, 0x92],
    [0x6C, 0x70, 0x48, 0x50, 0xFD, 0xED, 0xB9, 0xDA, 0x5E, 0x15, 0x46, 0x57, 0xA7, 0x8D, 0x9D, 0x84],
    [0x90, 0xD8, 0xAB, 0x00, 0x8C, 0xBC, 0xD3, 0x0A, 0xF7, 0xE4, 0x58, 0x05, 0xB8, 0xB3, 0x45, 0x06],
    [0xD0, 0x2C, 0x1E, 0x8F, 0xCA, 0x3F, 0x0F, 0x02, 0xC1, 0xAF, 0xBD, 0x03, 0x01, 0x13, 0x8A, 0x6B],
    [0x3A, 0x91, 0x11, 0x41, 0x4F, 0x67, 0xDC, 0xEA, 0x97, 0xF2, 0xCF, 0xCE, 0xF0, 0xB4, 0xE6, 0x73],
    [0x96, 0xAC, 0x74, 0x22, 0xE7, 0xAD, 0x35, 0x85, 0xE2, 0xF9, 0x37, 0xE8, 0x1C, 0x75, 0xDF, 0x6E],
    [0x47, 0xF1, 0x1A, 0x71, 0x1D, 0x29, 0xC5, 0x89, 0x6F, 0xB7, 0x62, 0x0E, 0xAA, 0x18, 0xBE, 0x1B],
    [0xFC, 0x56, 0x3E, 0x4B, 0xC6, 0xD2, 0x79, 0x20, 0x9A, 0xDB, 0xC0, 0xFE, 0x78, 0xCD, 0x5A, 0xF4],
    [0x1F, 0xDD, 0xA8, 0x33, 0x88, 0x07, 0xC7, 0x31, 0xB1, 0x12, 0x10, 0x59, 0x27, 0x80, 0xEC, 0x5F],
    [0x60, 0x51, 0x7F, 0xA9, 0x19, 0xB5, 0x4A, 0x0D, 0x2D, 0xE5, 0x7A, 0x9F, 0x93, 0xC9, 0x9C, 0xEF],
    [0xA0, 0xE0, 0x3B, 0x4D, 0xAE, 0x2A, 0xF5, 0xB0, 0xC8, 0xEB, 0xBB, 0x3C, 0x83, 0x53, 0x99, 0x61],
    [0x17, 0x2B, 0x04, 0x7E, 0xBA, 0x77, 0xD6, 0x26, 0xE1, 0x69, 0x14, 0x63, 0x55, 0x21, 0x0C, 0x7D] ]

/-- The inverse substitution of one byte. -/
def aesUnsub (a : Nat) : Nat := (aesUnsbox.getD (a / 16) []).getD (a % 16) 0

/-- Bytewise exclusive or. -/
def xorBytes (a b : List Nat) : List Nat := a.zipWith Nat.xor b

/-- The round constants of the key schedule. -/
def aesRcon : List Nat := [1, 2, 4, 8, 16, 32, 64, 128, 0x1B, 0x36]

/-- The next round key. -/
def aesNextKey (k : List Nat) (rc : Nat) : List Nat :=
  let g := fun i => k.getD i 0
  let w0 := xorBytes (k.take 4) [(aesSub (g 13)).xor rc, aesSub (g 14), aesSub (g 15), aesSub (g 12)]
  let w1 := xorBytes w0 ((k.drop 4).take 4)
  let w2 := xorBytes w1 ((k.drop 8).take 4)
  let w3 := xorBytes w2 ((k.drop 12).take 4)
  w0 ++ w1 ++ w2 ++ w3

/-- The round keys after `k`. -/
def aesKeysFrom (k : List Nat) : List Nat → List (List Nat)
  | [] => [k]
  | rc :: t => k :: aesKeysFrom (aesNextKey k rc) t

/-- The eleven round keys of a 16-byte key. -/
def aesKeys (k : List Nat) : List (List Nat) := aesKeysFrom k aesRcon

/-- The rows of the state, in column order, shifted left by their number times `d`. -/
def aesShift (d : Nat) (s : List Nat) : List Nat :=
  (List.range 16).map fun i => s.getD ((i + 4 * d * (i % 4)) % 16) 0

/-- One column multiplied by the circulant of (a, b, c, d). -/
def aesMixCol (a b c d : Nat) (v : List Nat) : List Nat :=
  let g := fun i => v.getD (i % 4) 0
  (List.range 4).map fun i =>
    ((aesMul (g i) a).xor (aesMul (g (i + 1)) b)).xor ((aesMul (g (i + 2)) c).xor (aesMul (g (i + 3)) d))

/-- Four columns. -/
def aesMix (a b c d : Nat) (s : List Nat) : List Nat :=
  ((List.range 4).map fun j => aesMixCol a b c d ((s.drop (4 * j)).take 4)).flatten

/-- The rounds from a state on. -/
def aesRounds : List (List Nat) → List Nat → List Nat
  | [], s => s
  | [k], s => xorBytes (aesShift 1 (s.map aesSub)) k
  | k :: t, s => aesRounds t (xorBytes (aesMix 2 3 1 1 (aesShift 1 (s.map aesSub))) k)

/-- AES-128 encryption of a 16-byte block. -/
def aesEnc (key block : List Nat) : List Nat :=
  match aesKeys key with
  | [] => block
  | k :: t => aesRounds t (xorBytes block k)

/-- The inverse rounds, the round keys from the last one on. -/
def aesUnrounds : List (List Nat) → List Nat → List Nat
  | [], s => s
  | k :: t, s =>
    let u := (aesShift 3 (xorBytes s k)).map aesUnsub
    match t with
    | [] => u
    | k1 :: t1 => aesUnroundsMix k1 t1 u
where
  /-- A middle round: add the key, unmix, unshift and unsubstitute. -/
  aesUnroundsMix (k : List Nat) : List (List Nat) → List Nat → List Nat
    | [], s => xorBytes s k
    | k1 :: t, s => aesUnroundsMix k1 t ((aesShift 3 (aesMix 14 11 13 9 (xorBytes s k))).map aesUnsub)

/-- AES-128 decryption of a 16-byte block. -/
def aesDec (key block : List Nat) : List Nat := aesUnrounds (aesKeys key).reverse block

/-! CCM* with L = 2 and an 8-octet MIC (R270) -/

/-- Pad with zeros to whole blocks. -/
def padBlocks (l : List Nat) : List Nat := l ++ List.replicate ((16 - l.length % 16) % 16) 0

/-- CBC-MAC from `x` over the first `n` blocks. -/
def cbcMac (key : List Nat) : Nat → List Nat → List Nat → List Nat
  | 0, _, x => x
  | n + 1, l, x => cbcMac key n (l.drop 16) (aesEnc key (xorBytes x (l.take 16)))

/-- Key stream block `i`. -/
def ccmStream (key nonce : List Nat) (i : Nat) : List Nat := aesEnc key (1 :: nonce ++ [i / 256 % 256, i % 256])

/-- The 8-octet MIC before its encryption: `a` authenticated data, `m` the message. -/
def ccmTag (key nonce a m : List Nat) : List Nat :=
  let flags := (if a.isEmpty then 0 else 64) + 3 * 8 + 1
  let b0 := flags :: nonce ++ [m.length / 256 % 256, m.length % 256]
  let ab := if a.isEmpty then [] else padBlocks ([a.length / 256 % 256, a.length % 256] ++ a)
  let l := b0 ++ ab ++ padBlocks m
  (cbcMac key (l.length / 16) l (List.replicate 16 0)).take 8

/-- Encrypt or decrypt a message with the key stream from block 1. -/
def ccmCrypt (key nonce m : List Nat) : List Nat :=
  ((List.range ((m.length + 15) / 16)).map fun i => xorBytes ((m.drop (16 * i)).take 16) (ccmStream key nonce (i + 1))).flatten

/-- The MIC as sent. -/
def ccmMic (key nonce a m : List Nat) : List Nat := xorBytes (ccmTag key nonce a m) (ccmStream key nonce 0)

/-- Secure a payload: the octets sent, the MIC after them; MIC-64 leaves the payload in the clear. -/
def ccmSecure (key nonce a m : List Nat) (enc : Bool) : List Nat :=
  if enc then ccmCrypt key nonce m ++ ccmMic key nonce a m
  else m ++ ccmMic key nonce (a ++ m) []

/-- Open secured octets: the payload where the MIC verifies. -/
def ccmOpen (key nonce a c : List Nat) (enc : Bool) : Option (List Nat) :=
  if c.length < 8 then none
  else
    let body := c.take (c.length - 8)
    let mic := c.drop (c.length - 8)
    if enc then
      let m := ccmCrypt key nonce body
      if ccmMic key nonce a m == mic then some m else none
    else if ccmMic key nonce (a ++ body) [] == mic then some body else none

/-! Key wrap (RFC 3394) of a 16-byte key -/

/-- The initial value of RFC 3394. -/
def wrapIv : List Nat := List.replicate 8 0xA6

/-- One step of the wrap: A, the two halves and the step number from 1. -/
def wrapStep (kek : List Nat) (x : List Nat × List Nat × List Nat) (t : Nat) : List Nat × List Nat × List Nat :=
  let r := if t % 2 = 1 then x.2.1 else x.2.2
  let b := aesEnc kek (x.1 ++ r)
  let a := xorBytes (b.take 8) [0, 0, 0, 0, 0, 0, 0, t]
  if t % 2 = 1 then (a, b.drop 8, x.2.2) else (a, x.2.1, b.drop 8)

/-- Wrap a 16-byte key into 24 bytes. -/
def wrapKey (kek key : List Nat) : List Nat :=
  let r := ((List.range 12).map (· + 1)).foldl (wrapStep kek) (wrapIv, key.take 8, key.drop 8)
  r.1 ++ r.2.1 ++ r.2.2

/-- One step of the unwrap. -/
def unwrapStep (kek : List Nat) (x : List Nat × List Nat × List Nat) (t : Nat) : List Nat × List Nat × List Nat :=
  let r := if t % 2 = 1 then x.2.1 else x.2.2
  let b := aesDec kek (xorBytes x.1 [0, 0, 0, 0, 0, 0, 0, t] ++ r)
  if t % 2 = 1 then (b.take 8, b.drop 8, x.2.2) else (b.take 8, x.2.1, b.drop 8)

/-- Unwrap 24 bytes into a 16-byte key; none where the integrity check fails. -/
def unwrapKey (kek w : List Nat) : Option (List Nat) :=
  let r := ((List.range 12).map fun i => 12 - i).foldl (unwrapStep kek) (w.take 8, (w.drop 8).take 8, (w.drop 16).take 8)
  if r.1 == wrapIv then some (r.2.1 ++ r.2.2) else none

/-! SHA-256 -/

/-- The fraction bits of a root: the low 32 bits of the integer root of p scaled (square roots of the primes start the state). -/
def sqrtFrac (p : Nat) : Nat := isqrt 40 (p * 2 ^ 64) % 2 ^ 32

/-- One bit of the cube root: keep the trial bit when its cube still fits. -/
def icbrtFrom (n : Nat) : Nat → Nat → Nat
  | 0, r => r
  | k + 1, r =>
    let t := r + 2 ^ k
    icbrtFrom n k (if t * t * t ≤ n then t else r)

/-- The fraction bits of the cube root of a prime. -/
def cbrtFrac (p : Nat) : Nat := icbrtFrom (p * 2 ^ 96) 36 0 % 2 ^ 32

/-- The first 64 primes. -/
def primes64 : List Nat :=
  [2, 3, 5, 7, 11, 13, 17, 19, 23, 29, 31, 37, 41, 43, 47, 53, 59, 61, 67, 71, 73, 79, 83, 89, 97, 101, 103, 107, 109, 113,
   127, 131, 137, 139, 149, 151, 157, 163, 167, 173, 179, 181, 191, 193, 197, 199, 211, 223, 227, 229, 233, 239, 241, 251,
   257, 263, 269, 271, 277, 281, 283, 293, 307, 311]

/-- Sum modulo 2^32. -/
def add32 (a b : Nat) : Nat := (a + b) % 2 ^ 32

/-- Right rotation of a 32-bit word. -/
def rotr (n a : Nat) : Nat := (a / 2 ^ n + a * 2 ^ (32 - n)) % 2 ^ 32

/-- Extend the message schedule by `n` words; the list holds the words so far, newest first. -/
def shaExtend : Nat → List Nat → List Nat
  | 0, w => w
  | n + 1, w =>
    let g := fun i => w.getD i 0
    let s0 := ((rotr 7 (g 14)).xor (rotr 18 (g 14))).xor (g 14 / 8)
    let s1 := ((rotr 17 (g 1)).xor (rotr 19 (g 1))).xor (g 1 / 1024)
    shaExtend n (add32 (add32 (g 15) s0) (add32 (g 6) s1) :: w)

/-- One round with its constant and schedule word. -/
def shaRound (v : List Nat) (kw : Nat × Nat) : List Nat :=
  let g := fun i => v.getD i 0
  let e := g 4
  let a := g 0
  let s1 := ((rotr 6 e).xor (rotr 11 e)).xor (rotr 25 e)
  let ch := (e.land (g 5)).xor ((0xFFFFFFFF - e).land (g 6))
  let t1 := add32 (add32 (g 7) s1) (add32 ch (add32 kw.1 kw.2))
  let s0 := ((rotr 2 a).xor (rotr 13 a)).xor (rotr 22 a)
  let mj := ((a.land (g 1)).xor (a.land (g 2))).xor ((g 1).land (g 2))
  [add32 t1 (add32 s0 mj), a, g 1, g 2, add32 (g 3) t1, e, g 5, g 6]

/-- Compress one 64-byte block with the round constants. -/
def shaBlock (ks : List Nat) (h : List Nat) (b : List Nat) : List Nat :=
  let w := (List.range 16).map fun i => ((b.drop (4 * i)).take 4).foldl (fun a x => a * 256 + x) 0
  h.zipWith add32 ((ks.zip (shaExtend 48 w.reverse).reverse).foldl shaRound h)

/-- Compress `n` blocks. -/
def shaBlocks (ks : List Nat) : Nat → List Nat → List Nat → List Nat
  | 0, _, h => h
  | n + 1, l, h => shaBlocks ks n (l.drop 64) (shaBlock ks h (l.take 64))

/-- SHA-256 of a list of bytes. -/
def sha256 (l : List Byte) : List Nat :=
  let m := l.map (·.toNat)
  let n := m.length
  let p := m ++ [0x80] ++ List.replicate ((119 - n % 64) % 64) 0 ++
    (List.range 8).map fun i => 8 * n / 256 ^ (7 - i) % 256
  let h := shaBlocks (primes64.map cbrtFrac) (p.length / 64) p ((primes64.take 8).map sqrtFrac)
  (h.map fun x => (List.range 4).map fun i => x / 256 ^ (3 - i) % 256).flatten

end Sys2Proof.Machine
end

