-- ==== Sys2Proof/Machine/OpTable.lean ====
section
/-! DEFINITION. The operation table (R305 to R307) and the duplicate window (R299, R300): entries, acceptance with its deadline
(R46, R306), completion with its record, and the records. -/

namespace Sys2Proof.Machine

/-! Operation codes (R304) -/

abbrev opSHOT : Nat := 1
abbrev opCONVERT : Nat := 2
abbrev opNVM_WRITE : Nat := 3
abbrev opSCRUB : Nat := 4
abbrev opRADIO_TX : Nat := 5
abbrev opRADIO_SCAN : Nat := 6
abbrev opLEDGER_COMMIT : Nat := 7
abbrev opSLINK_SET : Nat := 8
abbrev opSTI_LOAD : Nat := 9

/-! Recovery causes (R48) -/

abbrev upDEADLINE : Nat := 1
abbrev upDOMAIN_TO : Nat := 2
abbrev loNO_ACK : Nat := 1
abbrev loBAD_ACK : Nat := 2
abbrev loCCA_BUSY : Nat := 3
abbrev loVERIFY_FAIL : Nat := 4

/-- Entry i of the table. -/
def State.opE (s : State) (i : Nat) : OpEntry := s.hif.ops.getD i {}

/-- Store entry i. -/
def State.setOp (s : State) (i : Nat) (e : OpEntry) : State :=
  { s with hif := { s.hif with ops := setAt s.hif.ops i e } }

/-- Is entry i an ACTIVE operation of this type? -/
def State.opIs (s : State) (i type : Nat) : Bool := (s.opE i).st == .active && (s.opE i).type == type

/-- The ACTIVE entries of a type in order of acceptance (R62). -/
def State.activeOps (s : State) (type : Nat) : List Nat :=
  ((List.range 16).filter fun i => s.opIs i type).mergeSort fun i j => (s.opE i).acc ≤ (s.opE j).acc

/-- A parameter field of an entry. -/
def OpEntry.par (e : OpEntry) (off n : Nat) : Nat := leAt e.params off n

/-- The first FREE entry (R305). -/
def State.freeOp (s : State) : Option Nat := (List.range 16).find? fun i => (s.opE i).st == .free

/-- The least deadline in LFT for a lower full budget of B µs (R46). -/
def leastDeadline (b : Nat) : Nat := ceilDiv (max (5 * b) (4 * b + 400) * 32768) 4000000

/-- The effective deadline (R306): raised for RADIO_TX and NVM_WRITE. -/
def effDeadline (type host b : Nat) : Nat :=
  if type = opRADIO_TX ∨ type = opNVM_WRITE then max host (leastDeadline b) else host

/-- Enter an accepted operation into entry i (R305). -/
def State.enterOp (s : State) (i tag type flags deadline budget : Nat) (params : List Byte) : State :=
  let s := s.setOp i {
    st := .active, tag := tag, type := type, autorel := flags % 2 == 1, params := params,
    status := Sts.ACCEPTED, epoch := s.fget F.SYS_EPOCH_EPOCH, deadline := effDeadline type deadline budget,
    budget := budget, acc := s.hif.nextOrder }
  { s with hif := { s.hif with nextOrder := s.hif.nextOrder + 1 } }

/-- The bytes of a completion record (R307). -/
def OpEntry.record (e : OpEntry) (state : Nat) : List Byte :=
  leBytes 1 e.tag ++ leBytes 1 e.type ++ leBytes 1 e.status ++ leBytes 1 e.causes ++ leBytes 1 e.epoch ++ leBytes 1 state ++
    [0, 0] ++ leBytes 4 e.result ++ leBytes 4 e.deadline ++ leBytes 4 e.budget

/-- The final status and record go to the duplicate window as well (R299). -/
def winFinish (w : WinEntry) (e : OpEntry) : WinEntry :=
  if w.opcode = 3 ∧ w.tag = e.tag then { w with status := e.status, record := some (e.record 3) } else w

/-- Complete the ACTIVE operation of entry i (R305, R307, R310). -/
def State.complete (s : State) (i status upper lower result : Nat) : State :=
  let e := s.opE i
  if e.st ≠ .active then s
  else
    let e' := { e with
      st := .complete, status := status, causes := upper + 16 * lower, epoch := s.fget F.SYS_EPOCH_EPOCH,
      result := result, order := s.hif.nextOrder, expiring := false }
    let s := { s with hif := { s.hif with nextOrder := s.hif.nextOrder + 1, win := s.hif.win.map fun w => winFinish w e' } }
    (s.setOp i (if e.autorel then {} else e')).raise F.SYS_IRQ_OP_DONE

/-- Complete without causes and with a zero result word. -/
def State.completeAs (s : State) (i status : Nat) : State := s.complete i status 0 0 0

/-- Mark that the work of an operation has begun (R306). -/
def State.beginOp (s : State) (i : Nat) : State := s.setOp i { s.opE i with started := true }

/-- Has the deadline of a started operation passed, so that it ends at its next abort point (R306)? -/
def State.opExpiring (s : State) (i : Nat) : Bool := (s.opE i).st == .active && (s.opE i).expiring

/-- Every ACTIVE entry completes DISCARDED (R38). -/
def State.discardOps (s : State) : State :=
  (List.range 16).foldl (fun t i => t.completeAs i Sts.DISCARDED) s

/-- Free every entry (R305, a reset) and clear the duplicate window (R299). -/
def State.clearOps (s : State) : State := { s with hif := {} }

/-- Enter a frame in the duplicate window: the 16 most recent (R299). -/
def State.enterWin (s : State) (w : WinEntry) : State :=
  { s with hif := { s.hif with win := (w :: s.hif.win).take 16 } }

end Sys2Proof.Machine
end

