-- ==== Sys2Proof/Machine/Radio.lean ====
section
/-! DEFINITION. The radio's physical layer (R240 to R255): channels, power caps, airtimes, the duty-cycle governor, the start of a
transmission with its listen, the antenna pattern and the receive buffer. -/

namespace Sys2Proof.Machine

/-! Channels (R240) -/

/-- F0, spacing in kHz and the number of channels of a SUN FSK PHY in a band. -/
def chanPlan (phy band : Nat) : Nat × Nat × Nat :=
  if phy ≤ 1 then (if band = 0 then (863100, 200, 35) else (902100, 200, 130))
  else if band = 0 then (863200, 400, 17) else (902200, 400, 65)

/-- Is the PHY wireless M-Bus? -/
def isWm (phy : Nat) : Bool := phy == 0x10 || phy == 0x11

/-- Lower and upper edge in kHz of channel n. -/
def chanEdges (phy band n : Nat) : Nat × Nat :=
  if isWm phy then (868850, 869050)
  else
    let p := chanPlan phy band
    (p.1 + n * p.2.1 - p.2.1 / 2, p.1 + n * p.2.1 + p.2.1 / 2)

/-- Is the channel number in range (R240)? wM-Bus ignores it. -/
def chanOk (phy band n : Nat) : Bool := isWm phy || n < (chanPlan phy band).2.2

/-! Power (R242) -/

/-- The band-0 segments in kHz with their ERP caps. -/
def powerCaps : List (Nat × Nat × Option Nat) :=
  [(863000, 868000, some 14), (868000, 868600, some 14), (868600, 868700, none), (868700, 869200, some 14),
   (869200, 869400, none), (869400, 869650, some 27), (869650, 869700, none), (869700, 870000, some 7)]

/-- The caps of the segments a channel touches. -/
def capsTouched (e : Nat × Nat) : List (Option Nat) :=
  (powerCaps.filter fun g => e.1 < g.2.1 && g.1 < e.2).map (·.2.2)

/-- Does a channel touch a segment without a cap? -/
def touchesUncapped (phy band n : Nat) : Bool := band == 0 && (capsTouched (chanEdges phy band n)).any (·.isNone)

/-- Conducted power in dBm for a request, the antenna gain in half dB, and whether it is below the request. -/
def conducted (phy band n : Nat) (req gain : Int) : Int × Bool :=
  let caps := if band = 0 then (capsTouched (chanEdges phy band n)).filterMap id else []
  let p := caps.foldl (fun (m : Int) (c : Nat) => min m ((2 * (c : Int) - gain).fdiv 2)) (min req 20)
  (max p (-10), decide (max p (-10) < req))

/-! Airtimes (R244, R246) -/

/-- Data rate in kbps of a SUN FSK PHY. -/
def phyRate (phy : Nat) : Nat := if phy = 0 then 50 else if phy = 1 then 100 else if phy = 2 then 150 else 200

/-- Airtime in µs of a number of octets at the rate of the PHY. -/
def octetsUs (phy octets : Nat) : Nat := ceilDiv (8 * octets * 1000) (phyRate phy)

/-- Airtime of a SUN FSK frame with an L-octet PSDU and a preamble of P octets. -/
def sunAir (phy : Nat) (fec : Bool) (p l : Nat) : Nat :=
  octetsUs phy (if fec then p + 2 + 2 * (2 + l + 1) else p + 2 + (2 + l))

/-- t_pre (R260): preamble and SFD. -/
def tPre (phy p : Nat) : Nat := octetsUs phy (p + 2)

/-- t_body(L) (R260): PHR and PSDU. -/
def tBody (phy : Nat) (fec : Bool) (l : Nat) : Nat := octetsUs phy (if fec then 2 * (2 + l + 1) else 2 + l)

/-- Octets on air of a wM-Bus frame with this L-field. -/
def wmOctets (fmtB : Bool) (l : Nat) : Nat :=
  if fmtB then l + 1 else 12 + (l - 9) + 2 * ceilDiv (l - 9) 16

/-- Airtime of a wM-Bus frame of N octets: mode T1 or C1 by the PHY. -/
def wmAir (phy n : Nat) : Nat := if phy = 0x10 then (48 + 10 + 12 * n + 8) * 10 else (32 + 32 + 8 * n + 8) * 10

/-! Check fields (R243, R245). The spec names them and refers their computation to IEEE 802.15.4 and EN 13757-4, from which these are
taken (PRESUMED, log 154). -/

/-- The FCS of a SUN FSK frame: 4 octets, or 2. -/
def sunFcs (short : Bool) (l : List Byte) : List Byte :=
  if short then leBytes 2 (l.foldl (fun c b => crcShiftR 0x8408 8 (c.xor b.toNat)) 0)
  else leBytes 4 (crc32 (l ++ List.replicate (4 - l.length) 0))

/-- The CRC of a wM-Bus block, high octet first. -/
def wmCrc (l : List Byte) : List Byte :=
  (leBytes 2 ((l.foldl (fun c b => crcShift 16 0x3D65 8 (c.xor (b.toNat * 256))) 0).xor 0xFFFF)).reverse

/-- Cut octets into a first block of `a` and further ones of `b`; the fuel bounds the blocks. -/
def cutBlocks (a b : Nat) (l : List Byte) : Nat → List (List Byte)
  | 0 => []
  | n + 1 => if l.isEmpty then [] else l.take a :: cutBlocks b b (l.drop a) n

/-- Octets of the blocks without their CRC: format A 10, then 16 each; format B 126, then the rest. -/
def wmSizes (fmtB : Bool) : Nat × Nat := if fmtB then (126, 255) else (10, 16)

/-- A wM-Bus frame with its block CRCs. -/
def wmSeal (fmtB : Bool) (l : List Byte) : List Byte :=
  ((cutBlocks (wmSizes fmtB).1 (wmSizes fmtB).2 l l.length).map fun x => x ++ wmCrc x).flatten

/-- A wM-Bus frame without its block CRCs. -/
def wmStrip (fmtB : Bool) (l : List Byte) : List Byte :=
  ((cutBlocks ((wmSizes fmtB).1 + 2) ((wmSizes fmtB).2 + 2) l l.length).map fun x => x.take (x.length - 2)).flatten

/-- A frame whose check fields the device generates in their places: `b` says 2-octet FCS or format B (R252). -/
def sealFrame (wm b : Bool) (l : List Byte) : List Byte :=
  if wm then wmSeal b (wmStrip b l)
  else
    let d := l.take (l.length - if b then 2 else 4)
    d ++ sunFcs b d

/-! The active image's radio -/

/-- The RADIO section of the active image, on a part with a radio. -/
def State.radio (s : State) : Option RadioCfg :=
  if s.hasRadio then
    match s.image with
    | some i => i.radio
    | none => none
  else none

/-- PHY, band and FEC of the active image. -/
def State.phy (s : State) : Nat := match s.radio with | some r => r.phy | none => 0
def State.band (s : State) : Nat := match s.radio with | some r => r.band | none => 0
def State.fecOn (s : State) : Bool := match s.radio with | some r => r.opts.testBit 1 | none => false

/-- Do the check fields of a received frame pass: its symbols decode, and its FCS or every block CRC is right (R243, R245)? -/
def State.checksPass (s : State) (f : RxFrame) : Bool := f.ok && sealFrame (isWm s.phy) f.fmtB f.psdu == f.psdu

/-- A Lightline PSDU with its 4-octet FCS (R267). -/
def withFcs (l : List Byte) : List Byte := l ++ sunFcs false l

/-- Lightline role (R256). -/
def State.role (s : State) : Nat := match s.radio with | some r => r.role | none => 0

/-- MAC mode of the duty split: 0 hardware, 1 host-built, 2 raw PHY (R36). -/
def State.macMode (s : State) : Nat := s.fget F.SYS_DUTY_MAC

/-- Preamble octets used (RAD_PRE). -/
def State.preLen (s : State) : Nat := min 32 (max 4 (s.fget F.RAD_PRE_LEN))

/-- Listen time in units of 0.1 ms (R248). -/
def State.listenTenths (s : State) : Nat := min 50 (max 2 (s.fget F.RAD_LBT_LISTEN))

/-- Listens of a MAC attempt, at least one. -/
def State.lbtTries (s : State) : Nat := max 1 (s.fget F.RAD_LBT_TRIES)

/-- The sub-band that holds a channel whole, by its index. -/
def RadioCfg.subOf (r : RadioCfg) (n : Nat) : Option Nat :=
  let e := chanEdges r.phy r.band n
  (List.range r.subs.length).find? fun i =>
    match r.subs[i]? with
    | some b => b.low ≤ e.1 && e.2 ≤ b.high
    | none => false

/-- Is there a listen before a transmission on this channel (R248)? -/
def RadioCfg.listens (r : RadioCfg) (n : Nat) : Bool :=
  match r.subOf n with
  | some i =>
    match r.subs[i]? with
    | some b => b.lbt == 1
    | none => false
  | none => false

/-! Governor (R249 to R251) -/

/-- Used airtime of sub-band i. -/
def State.govUsed (s : State) (i : Nat) : Nat := (s.rad.bins.getD i []).sum

/-- Budget of sub-band i in µs. -/
def RadioCfg.budget (r : RadioCfg) (i : Nat) : Nat :=
  match r.subs[i]? with
  | some b => b.limit * 360000
  | none => 0

/-- Steady share of sub-band i in µs. -/
def RadioCfg.steady (r : RadioCfg) (i : Nat) : Nat := r.budget i * (100 - r.fogShare) / 100

/-- Add airtime to the current bin of sub-band i. -/
def State.govBook (s : State) (i t : Nat) : State :=
  let b := s.rad.bins.getD i []
  { s with rad := { s.rad with bins := setAt s.rad.bins i (setAt b 0 (min (2 ^ 32 - 1) (b.getD 0 0 + t))) } }

/-- May a transmission of airtime t go out in the sub-band of channel n (R250)? A channel in no sub-band has no budget. -/
def State.govAdmits (s : State) (r : RadioCfg) (n t : Nat) (fog : Bool) : Option Nat :=
  match r.subOf n with
  | none => none
  | some i => if s.govUsed i + t ≤ (if fog then r.budget i else r.steady i) then some i else none

/-- Admission with its booking (R250); a frame that a minute has admitted is booked already (R251). -/
def State.govEnter (s : State) (r : RadioCfg) (n t : Nat) (fog booked : Bool) : Option State :=
  if booked then some s else (s.govAdmits r n t fog).map fun i => s.govBook i t

/-- A minute boundary: the oldest bin leaves (R249). -/
def State.govMinute (s : State) : State :=
  { s with rad := { s.rad with bins := s.rad.bins.map fun b => (0 :: b).take 61 } }

/-- Bins of the sub-bands of a new image: the sum of the same bins of every old sub-band that overlaps (R251). -/
def govRemap (old new : List SubBand) (bins : List (List Nat)) : List (List Nat) :=
  (List.range 8).map fun j =>
    (List.range 61).map fun m =>
      match new[j]? with
      | none => 0
      | some b =>
        min (2 ^ 32 - 1) (((List.range old.length).map fun i =>
          match old[i]? with
          | some a => if a.low < b.high ∧ b.low < a.high then (bins.getD i []).getD m 0 else 0
          | none => 0).sum)

/-! Transmissions -/

/-- How the start of a transmission ends. -/
inductive TxStart where
  | started | nochan | refused
  deriving DecidableEq, Repr

/-- Start a transmission: refused on a channel without a cap (R242), admitted and booked by the governor (R250) unless that has been done
(R251), its power clamped, then its listen where the sub-band has one (R248). -/
def State.startTx (s : State) (why : TxWhy) (psdu : List Byte) (air chan : Nat) (req : Int) (fog lbt : Bool) (booked : Bool := false) :
    TxStart × State :=
  match s.radio with
  | none => (.nochan, s)
  | some r =>
    if touchesUncapped r.phy r.band chan then (.nochan, s.fset F.RAD_EVT_NOCHAN 1)
    else
      match s.govEnter r chan air fog booked with
      | none =>
        let s := s.fset F.RAD_EVT_GOV_REFUSED 1
        (.refused, if fog then s.addSat F.RAD_GOV_CNT_FOG 1 else s.addSat F.RAD_GOV_CNT_STEADY 1)
      | some s =>
        let p := conducted r.phy r.band chan req (s.fsgn F.RAD_ANT_GAIN)
        let s := s.when p.2 fun s => s.fset F.RAD_EVT_PWR_CLAMP 1
        (.started, { s with rad := { s.rad with
          job := some ⟨why, psdu, air, chan, p.1, fog, lbt && r.listens chan⟩, wait := none } })

/-- Is a listen or a transmission in progress? -/
def State.txBusy (s : State) : Bool := s.rad.job.isSome

/-- Stop a listen or transmission; what is booked stays booked (R250). -/
def State.cutTx (s : State) : State := { s with rad := { s.rad with job := none } }

/-- The end of a listen with its mean RSSI (R248): clear goes on air; busy is counted, and the sender learns of it. -/
def State.listenEnd (s : State) (j : TxJob) (rssi : Byte) : Bool × State :=
  let s := s.fset F.RAD_RSSI_CCA rssi.toNat
  if s.fsgn F.RAD_LBT_THRESH ≤ signed 8 rssi.toNat then
    (true, (s.addSat F.RAD_TXCNT_BUSY 1).cutTx)
  else (false, { s with rad := { s.rad with job := some { j with listen := false } } })

/-! The receive buffer (R255) -/

/-- Register that holds octets 4w to 4w + 3 of entry q. -/
abbrev rxWord (q w : Nat) : Nat := Reg.RAD_RXBUF (128 * q + w)

/-- Store octets into entry q from octet k on; octets beyond keep what they held. -/
def State.putRx (s : State) (q : Nat) : Nat → List Byte → State
  | _, [] => s
  | k, b :: t => (s.setRegN (rxWord q (k / 4)) (putBits (s.regN (rxWord q (k / 4))) (8 * (k % 4)) 8 b.toNat)).putRx q (k + 1) t

/-- The lowest free entry. -/
def State.freeRx (s : State) : Option Nat := (List.range 4).find? fun q => !s.fbit (F.RAD_RXD_FULL q)

/-- Deliver octets to the host: the lowest free entry, or dropped with RX_DROP. The word `d` holds the descriptor bits above FULL. -/
def State.deliverRx (s : State) (st : RxStart) (octets : List Byte) (d : Nat) : Bool × State :=
  match s.freeRx with
  | none => (false, s.fset F.RAD_EVT_RX_DROP 1)
  | some q =>
    let o := octets.take 512
    let s := s.putRx q 0 o
    let s := s.setRegN (Reg.RAD_RXD q) (o.length + 2 ^ 10 + d)
    let s := s.setRegN (Reg.RAD_RXT q) (st.lft % 2 ^ 18 + st.rot % 2 ^ 14 * 2 ^ 18)
    (true, s.raise F.SYS_IRQ_RX_FRAME)

/-- Free the entries of a mask. -/
def State.releaseRx (s : State) (m : Nat) : State := (maskList 4 m).foldl (fun t q => t.fset (F.RAD_RXD_FULL q) 0) s

/-! The registers that follow the governor -/

/-- The governor registers of the selected sub-band. -/
def State.govUsedNow (s : State) : Nat :=
  match s.radio with
  | some r => if s.fget F.RAD_GOV_SEL_SUB < r.subs.length then min (2 ^ 32 - 1) (s.govUsed (s.fget F.RAD_GOV_SEL_SUB)) else 0
  | none => 0

def State.govBudgetNow (s : State) : Nat :=
  match s.radio with
  | some r => r.budget (s.fget F.RAD_GOV_SEL_SUB)
  | none => 0

end Sys2Proof.Machine
end

