-- ==== Sys2Proof/Machine/Mesh.lean ====
section
/-! DEFINITION. Lightline (R256 to R288), first part: the image's mesh parameters, the schedule's radio windows, the event counter
and channel, the frame counter, frames built and read, the association table and the queues. -/

namespace Sys2Proof.Machine

/-! Roles and parameters -/

abbrev roleNONE : Nat := 0
abbrev roleBUOY : Nat := 1
abbrev roleKEEPER : Nat := 2

abbrev bsOFF : Nat := 0
abbrev bsSCAN : Nat := 1
abbrev bsJOIN : Nat := 2
abbrev bsASSOC : Nat := 3
abbrev bsDARK : Nat := 4
abbrev bsKEEPER : Nat := 5

/-- The LIGHTLINE section of the active image. -/
def State.light (s : State) : LightCfg :=
  match s.image with
  | some i => i.light.getD ⟨1, 1, 0, 0, 0, 0, 0, []⟩
  | none => ⟨1, 1, 0, 0, 0, 0, 0, []⟩

/-- The buoy's state (R276), or 5 for a running keeper. -/
def State.mst (s : State) : Nat := s.fget F.MSH_STATUS_STATE

/-- Set the state. -/
def State.setMst (s : State) (v : Nat) : State := s.fset F.MSH_STATUS_STATE v

/-- Does the MAC run a keeper, a buoy, or device-built wM-Bus frames (R256, R286)? -/
def State.isKeeper (s : State) : Bool := s.mst == bsKEEPER
def State.isBuoy (s : State) : Bool := s.role == roleBUOY && s.mst != bsOFF
def State.isWmMac (s : State) : Bool := s.radio.isSome && s.macMode == 0 && s.role == 0 && isWm s.phy

/-- Replace the mesh state. -/
def State.setMsh (s : State) (f : Msh → Msh) : State := { s with msh := f s.msh }

/-- Set a bit of MSH_EVT; a new setting raises MESH_EVT (R288). -/
def State.meshEvt (s : State) (f : Fld) : State :=
  if s.fbit f then s else (s.fset f 1).raise F.SYS_IRQ_MESH_EVT

/-! Settings as used -/

def State.tries (s : State) : Nat := min 8 (max 1 (s.fget F.MSH_RETRY_TRIES))
def State.ftries (s : State) : Nat := min 8 (s.fget F.MSH_RETRY_FTRIES)
def State.ttl (s : State) : Nat := max 1 (s.fget F.MSH_RETRY_TTL)
def State.jtries (s : State) : Nat := max 1 (s.fget F.MSH_RETRY_JTRIES)
def State.orphanMax (s : State) : Nat := max 1 (s.fget F.MSH_CFG_ORPHAN)
/-- Report interval in s; 0: none (MSH_REPORT). -/
def State.reportSecs (s : State) : Nat :=
  let i := s.fget F.MSH_REPORT_INTERVAL
  if i = 0 then 0 else min 86400 (max 60 i)

/-! The schedule (R60 to R63) -/

abbrev kIDLE : Nat := 0
abbrev kSHOT : Nat := 1
abbrev kCONV : Nat := 2
abbrev kECHO : Nat := 3
abbrev kFLASH : Nat := 4
abbrev kDATA : Nat := 5
abbrev kFLOOD : Nat := 6
abbrev kCONTEND : Nat := 7
abbrev kHOST : Nat := 8
abbrev kNVM : Nat := 9
abbrev kCONTINUE : Nat := 15

/-- The schedule word of facet n (R60). -/
def State.facetWord (s : State) (n : Nat) : Nat := s.regN (Reg.ROT_FACET n)

/-- The first entry of a kind. -/
def State.entryOf (s : State) (kind : Nat) : Option Nat := (List.range 64).find? fun n => facetKind (s.facetWord n) == kind

/-- Does the schedule hold an entry of a kind? -/
def State.hasEntry (s : State) (kind : Nat) : Bool := (s.entryOf kind).isSome

/-- Kind of the entry in progress: none between entries. -/
def State.nowKind (s : State) : Option Nat := s.rot.entry.map fun n => facetKind (s.facetWord n)

/-- Is an entry of this kind in progress? -/
def State.inKind (s : State) (kind : Nat) : Bool := s.nowKind == some kind

/-- LFT of a facet and of the nominal rotation (R50). -/
def State.facetLft (s : State) : Nat := 16 * 2 ^ s.fget F.ROT_CFG_K
def State.rotLft (s : State) : Nat := 1024 * 2 ^ s.fget F.ROT_CFG_K


/-- First LFT after the usable time of an entry: the mark lead, wherever this rotation's mark lies, ends the usable time of facet 63
and of a facet it falls into (R52, R54, R64). -/
def State.entryEnd (s : State) (n : Nat) : Nat :=
  let e := (n + facetSpan (s.facetWord n)) * s.facetLft
  min (min e (s.rotLft - 1)) (s.rot.len - 1)

/-- µs left of the usable time of the entry in progress, rounded down. -/
def State.leftUs (s : State) : Nat :=
  match s.rot.entry with
  | some n => (s.entryEnd n - s.rot.lft) * lftUnits / 64000
  | none => 0

/-! Event counter and channel (R261, R262) -/

/-- The event counter e. -/
def State.evt (s : State) : Nat := s.fget F.MSH_TIME_EVT

/-- The channel of event counter e. -/
def chanOf (l : LightCfg) (e : Nat) : Nat := l.map.getD ((e * l.hop + l.start) % max 1 l.n) 0

/-- Set e and the channel shown with it. -/
def State.setEvt (s : State) (e : Nat) : State :=
  (s.fset F.MSH_TIME_EVT e).fset F.MSH_TIME_CHAN (chanOf s.light (e % 65536))

/-- The cell rotation number C (R261). -/
def State.cellRot (s : State) : Nat := (s.regN Reg.ROT_NUM + s.regN Reg.MSH_CROT) % 2 ^ 32

/-- MVER of the image: bits [7:0] of the CRC-32 over N, HOP, START and the map (R267). -/
def LightCfg.mver (l : LightCfg) : Nat :=
  crc32 ((leBytes 1 l.n ++ leBytes 1 l.hop ++ leBytes 1 l.start) ++ (l.map.map fun x => BitVec.ofNat 8 x)) % 256

/-! The flash window (R264, R266) -/

/-- Window half-width in 1/64 ns for an elapsed time in 1/64 ns, m misses. -/
def State.winW (s : State) (el m : Nat) : Nat :=
  let w0 := s.fget F.MSH_WIN_BASE + ceilDiv (s.fget F.MSH_WIN_PPM * el) (64000 * 1000000)
  64000 * (2 ^ min m 2 * w0)

/-- w0 in µs at F rotations of the nominal period. -/
def winW0us (base ppm f rotLft : Nat) : Nat := base + ceilDiv (ppm * (f * rotLft * lftUnits)) (64000 * 1000000)

/-- Expected anchor in 1/64 ns after the start of the FLASH facet (R264). -/
def State.expectOff (s : State) : Nat :=
  64000 * (350 + tPre s.phy s.preLen +
    winW0us (s.fget F.MSH_WIN_BASE) (s.fget F.MSH_WIN_PPM) s.light.f s.rotLft)

/-- Where R264 puts the anchor in 1/64 ns after the mark. -/
def State.expectAt (s : State) : Nat := ((s.entryOf kFLASH).getD 0) * s.facetLft * lftUnits + s.expectOff

/-- The predicted anchor of interval e in 1/64 ns after the mark (R265): the newest received anchor and the rate of the two newest, the
nominal rate while there is one. What a correction left below one LFT stays in it (R266). -/
def State.predictAnchor (s : State) (e : Nat) : Int :=
  match s.msh.anchors with
  | (e1, t1) :: rest =>
    let k := (e + 65536 - e1 % 65536) % 65536
    let nominal : Int := k * (s.light.f * s.rotLft * lftUnits : Nat)
    match rest with
    | (e2, t2) :: _ =>
      let d := (e1 + 65536 - e2 % 65536) % 65536
      t1 + (if d = 0 then nominal else roundHalfUpInt (k * (t1 - t2)) d)
    | [] => t1 + nominal
  | [] => s.expectAt

/-- The last SFD end that the open flash window accepts, in 1/64 ns after the mark (R264). -/
def State.flashClose (s : State) : Int :=
  let x := s.predictAnchor s.evt
  let el := match s.msh.anchors with
    | a :: _ => (x - a.2).toNat
    | [] => s.light.f * s.rotLft * lftUnits
  x + s.winW el (s.fget F.MSH_STATUS_MISS)

/-- The correction in LFT after the anchor of interval e was received (R266): what brings the first anchor after the corrected rotation, as
predicted, to its place, taken to within half a rotation and rounded to whole LFT. The correction lies at the end of the next
rotation (R52), so with a flash in every rotation it acts on the anchor after the next. -/
def State.correction (s : State) (e : Nat) : Int :=
  let p : Int := s.rotLft * lftUnits
  let k : Nat := if s.light.f ≤ 1 then 2 else 1
  let place : Int := s.expectAt + (s.rot.len + (k * max 1 s.light.f - 1) * s.rotLft) * lftUnits
  let x := s.predictAnchor ((e + k) % 65536) - place
  roundHalfUpInt ((x + p / 2) % p - p / 2) lftUnits

/-! Frame counter (R271) -/

/-- Take the next frame counter: none when the boot count and the counter are used up. -/
def State.takeFcnt (s : State) : Option Nat × State :=
  if s.msh.fcntEnd then (none, s)
  else
    let f := s.regN Reg.MSH_FCNT
    if f % 2 ^ 20 < 2 ^ 20 - 1 then (some f, s.setRegN Reg.MSH_FCNT (f + 1))
    else if s.msh.boot ≥ 4095 then (some f, (s.setMsh fun m => { m with fcntEnd := true }).meshEvt F.MSH_EVT_FCNT_END)
    else
      let b := s.msh.boot + 1
      (some f, (s.setMsh fun m => { m with boot := b }).setRegN Reg.MSH_FCNT (b * 2 ^ 20))

/-- A reset advances the boot count; at its end no counter is left (R271). -/
def State.bootFcnt (s : State) : State :=
  if s.msh.boot ≥ 4095 then s.setMsh fun m => { m with fcntEnd := true }
  else (s.setMsh fun m => { m with boot := m.boot + 1 }).setRegN Reg.MSH_FCNT ((s.msh.boot + 1) * 2 ^ 20)

/-! Frames (R267, R270) -/

abbrev tyFLASH : Nat := 0
abbrev tyJOIN_REQ : Nat := 1
abbrev tyJOIN_RSP : Nat := 2
abbrev tyDATA : Nat := 3
abbrev tyACK : Nat := 4
abbrev tyLEAVE : Nat := 5

/-- What a frame says besides its payload: header and flood header. -/
structure FrameHead where
  type : Nat
  cls : Nat
  src : Nat
  dst : Nat
  fcnt : Nat
  pending : Bool := false
  flood : Option (Nat × Nat) := none     -- TTL and ORIG
  deriving DecidableEq, Repr

/-- Is the payload of a TYPE encrypted (R267)? -/
def encrypted (type : Nat) : Bool := type == tyJOIN_RSP || type == tyDATA || type == tyLEAVE

/-- The header octets, with the flood header; CELLH is the low octet of CELL. -/
def FrameHead.octets (h : FrameHead) (cell : Nat) : List Byte :=
  leBytes 1 (h.type + h.cls * 8 + b2n h.flood.isSome * 32 + b2n h.pending * 64) ++ leBytes 2 h.src ++ leBytes 2 h.dst ++
    leBytes 4 h.fcnt ++
    match h.flood with
    | some f => leBytes 1 f.1 ++ leBytes 1 cell ++ leBytes 2 f.2
    | none => []

/-- Bytes as numbers, for the ciphers. -/
def nats (l : List Byte) : List Nat := l.map (·.toNat)

/-- Numbers as bytes. -/
def bytesOf (l : List Nat) : List Byte := l.map (BitVec.ofNat 8)

/-- The nonce (R270): the LONG of the buoy or all ones, FCNT, CELL and the direction. -/
def nonceOf (long fcnt cell dir : Nat) : List Nat := nats (leBytes 4 long ++ leBytes 4 fcnt ++ leBytes 4 cell) ++ [dir]

/-- The authenticated header octets (R270): 0, 3 to 8 and 10 to 12 where present. -/
def aadOf (hdr : List Byte) : List Nat :=
  nats (hdr.take 1 ++ (hdr.drop 3).take 6 ++ (hdr.drop 10).take 3)

/-- A key with the LONG and direction octets of its nonce. -/
structure Secure where
  key : List Nat
  long : Nat
  dir : Nat
  deriving DecidableEq, Repr

/-- The cell key as used for cell-key frames. -/
def cellSecure (key : List Nat) : Secure := ⟨key, 0xFFFFFFFF, 2⟩

/-- Build a frame without its FCS. -/
def buildFrame (h : FrameHead) (cell : Nat) (k : Secure) (payload : List Byte) : List Byte :=
  let hdr := h.octets cell
  hdr ++ bytesOf (ccmSecure k.key (nonceOf k.long h.fcnt cell k.dir) (aadOf hdr) (nats payload) (encrypted h.type))

/-- A received frame cut into its parts: the header, its octets, and the secured payload with the MIC. -/
structure RxParts where
  head : FrameHead
  cellh : Nat
  hdr : List Byte
  sec : List Byte
  deriving DecidableEq, Repr

/-- Payload octets that a TYPE allows (R267). -/
def payloadOk (type n : Nat) : Bool :=
  match type with
  | 0 => n == 15
  | 1 => n == 4
  | 2 => n == 22
  | 3 => 1 ≤ n && n ≤ 486
  | 4 => n == 4
  | 5 => n == 4
  | _ => false

/-- Read a PSDU without its FCS; none where a field lies outside R267. -/
def readFrame (p : List Byte) : Option RxParts :=
  let fc := leAt p 0 1
  let fl := fc.testBit 5
  let n := if fl then 13 else 9
  let type := fc % 8
  let cls := fc / 8 % 4
  if p.length < n + 8 ∨ type > 5 ∨ cls = 3 ∨ fc.testBit 7 ∨ (fc.testBit 6 ∧ type ≠ tyACK) ∨
      payloadOk type (p.length - n - 8) = false ∨ (fl ∧ leAt p 9 1 > 7) ∨ (type = tyFLASH ∧ leAt p (n + 14) 1 ≥ 16) then none
  else
    some ⟨⟨type, cls, leAt p 1 2, leAt p 3 2, leAt p 5 4, fc.testBit 6, if fl then some (leAt p 9 1, leAt p 11 2) else none⟩,
      leAt p 10 1, p.take n, p.drop n⟩

/-- Decrypt and authenticate (R270): the payload where the MIC verifies. -/
def RxParts.verify (f : RxParts) (cell : Nat) (k : Secure) : Option (List Byte) :=
  (ccmOpen k.key (nonceOf k.long f.head.fcnt cell k.dir) (aadOf f.hdr) (nats f.sec) (encrypted f.head.type)).map bytesOf

/-- The payload in the clear of a frame that is not encrypted. -/
def RxParts.clear (f : RxParts) : List Byte := f.sec.take (f.sec.length - 8)

/-- The originator (R272): ORIG of a flood, SRC otherwise. -/
def RxParts.source (f : RxParts) : Nat := match f.head.flood with | some x => x.2 | none => f.head.src

/-! Keys -/

/-- The buoy's own link key, key slot 4 (R271, R374). -/
def State.linkKey (s : State) : List Nat := (s.upd.keys.getD 4 none).getD (List.replicate 16 0)

/-- The key-encryption key, key slot 5 (R275, R374). -/
def State.kek (s : State) : List Nat := (s.upd.keys.getD 5 none).getD (List.replicate 16 0)

/-- The link key as a buoy sends with it, and as it receives with it. -/
def State.buoySends (s : State) : Secure := ⟨s.linkKey, s.regN Reg.MSH_ADDR, 0⟩
def State.buoyHears (s : State) : Secure := ⟨s.linkKey, s.regN Reg.MSH_ADDR, 1⟩

/-- The cell key as held, zeros while there is none. -/
def State.cellSec (s : State) : Secure := cellSecure (s.msh.cellKey.getD (List.replicate 16 0))

/-! The association table (R275) -/

/-- Entry i, none while it is FREE. -/
def State.assoc (s : State) (i : Nat) : Option AssocEntry := (s.msh.table.find? fun p => p.1 == i).map (·.2)

/-- Insert or replace in index order. -/
def putEntry (i : Nat) (e : AssocEntry) : List (Nat × AssocEntry) → List (Nat × AssocEntry)
  | [] => [(i, e)]
  | (k, v) :: t => if i < k then (i, e) :: (k, v) :: t else if i = k then (i, e) :: t else (k, v) :: putEntry i e t

/-- Show the number of ASSOC entries. -/
def State.showAssoc (s : State) : State :=
  s.fset F.MSH_STATUS_ASSOC (if s.isKeeper then (s.msh.table.filter (·.2.joined)).length else 0)

/-- Store entry i. -/
def State.setAssoc (s : State) (i : Nat) (e : AssocEntry) : State :=
  (s.setMsh fun m => { m with table := putEntry i e m.table }).showAssoc

/-- Make entry i FREE. -/
def State.freeAssoc (s : State) (i : Nat) : State :=
  (s.setMsh fun m => { m with table := m.table.filter fun p => p.1 != i }).showAssoc

/-- The link key of an entry, unwrapped. -/
def State.entryKey (s : State) (e : AssocEntry) : List Nat := (unwrapKey s.kek e.key).getD (List.replicate 16 0)

/-- Queue a keeper event: 0 join, 1 loss, 2 leave (R288). -/
def State.keeperEvent (s : State) (kind short : Nat) : State :=
  if s.msh.kevts.length < 16 then
    (s.setMsh fun m => { m with kevts := m.kevts ++ [(kind, short)] }).meshEvt F.MSH_EVT_KEVT
  else s.meshEvt F.MSH_EVT_KOVF

/-- A read of MSH_KEVT (R288): the value, and the state without the head event. -/
def State.takeKevt (s : State) : Nat × State :=
  match s.msh.kevts with
  | e :: t => (e.2 + e.1 * 2 ^ 16 + 2 ^ 31, s.setMsh fun m => { m with kevts := t })
  | [] => (0, s)

/-! The seen-cache (R272, R273) -/

/-- Entries the cache holds in this role. -/
def State.seenSize (s : State) : Nat := if s.role == roleKEEPER then 4096 else 256

/-- Is (source, FCNT) in the cache? -/
def State.wasSeen (s : State) (src fcnt : Nat) : Bool := s.msh.seen.any fun x => x.1 == src && x.2.1 == fcnt

/-- Enter a frame that is not in the cache yet. -/
def State.noteSeen (s : State) (src fcnt type : Nat) : State :=
  if s.wasSeen src fcnt then s else s.setMsh fun m => { m with seen := ((src, fcnt, type) :: m.seen).take s.seenSize }

/-- A frame dropped under R272; the first since the counter was cleared sets REPLAY. -/
def State.replayDrop (s : State) : State :=
  let first := s.fget F.MSH_CNT2_REPLAY == 0
  (s.addSat F.MSH_CNT2_REPLAY 1).when first fun s => s.meshEvt F.MSH_EVT_REPLAY

/-! Queues (R278) -/

/-- Queue of a class: 0 steady, 1 spare, 2 fog. -/
def State.queue (s : State) (c : Nat) : List Own := s.msh.queues.getD c []

/-- Store the queue of a class. -/
def State.setQueue (s : State) (c : Nat) (l : List Own) : State := s.setMsh fun m => { m with queues := setAt m.queues c l }

/-- Is a class queue full? -/
def State.queueFull (s : State) (c : Nat) : Bool := (s.queue c).length ≥ 4

/-- Queue a device-built frame; one that finds its queue full is dropped with QFULL. -/
def State.queueOwn (s : State) (o : Own) : State :=
  if s.queueFull o.cls then s.meshEvt F.MSH_EVT_QFULL else s.setQueue o.cls (s.queue o.cls ++ [o])

/-- Replace the head frame of a class. -/
def State.setHead (s : State) (c : Nat) (o : Own) : State :=
  match s.queue c with
  | _ :: t => s.setQueue c (o :: t)
  | [] => s

/-- Remove the head frame of a class; it is no longer being attempted. -/
def State.dropHead (s : State) (c : Nat) : State :=
  (s.setQueue c (s.queue c).tail).setMsh fun m => { m with cur := none, await := none }

/-! Times of frames and the budget of an operation (R244, R281) -/

/-- Airtime of a Lightline PSDU of n octets without FCS; fog frames and acknowledgements have an 8-octet preamble (R73, R274). -/
def State.meshAir (s : State) (n : Nat) (fogPre : Bool) : Nat :=
  sunAir s.phy s.fecOn (if fogPre then 8 else s.preLen) (n + 4)

/-- Longest duration of a direct attempt in µs; the listens count only where the sub-band has them when `lbt` is false. -/
def State.attemptUs (s : State) (air : Nat) (lbt : Bool) : Nat :=
  let li := if lbt then s.lbtTries * (100 * s.listenTenths) + (s.lbtTries - 1) * 5000 else 0
  li + 100 + air + 100 + tPre s.phy s.preLen + tBody s.phy s.fecOn 25 + 200

/-- G_flood in µs (R281). -/
def State.floodGapUs (s : State) : Nat :=
  match s.entryOf kFLOOD with
  | some n => (facetEvery (s.facetWord n) + 1) * s.rotLft * lftUnits / 64000
  | none => 0

/-- The lower full budget B of a Lightline RADIO_TX with a PSDU of n octets, FCS included; class fog has an 8-octet preamble. -/
def State.meshBudget (s : State) (n : Nat) (fog : Bool) : Nat :=
  s.tries * s.attemptUs (s.meshAir (n - 4) fog) true + (s.tries - 1) * 10000 + s.ftries * s.floodGapUs

/-- L of a wM-Bus frame with a body of n octets: C to CI, the frame counter and the MIC, in format B with its block CRCs (R245, R286). -/
def wmLen (fmtB : Bool) (n : Nat) : Nat :=
  let l := 22 + n
  if fmtB then (if l + 3 ≤ 128 then l + 2 else l + 4) else l

/-- Airtime of a wM-Bus frame of the MAC with a body of n octets (R246). -/
def State.wmOwnAir (s : State) (fmtB : Bool) (n : Nat) : Nat := wmAir s.phy (wmOctets fmtB (wmLen fmtB n))

/-- Does a transmission of so many µs that starts now end before the mark lead, and start after the mark window (R258)? The start is
counted from the end of the LFT in progress (DESIGN CHOICE, log 155). -/
def State.clearOfMark (s : State) (us : Nat) : Bool :=
  2 ≤ s.rot.lft && (s.rot.lft + 1) * lftUnits + 64000 * us ≤ (s.rot.len - 1) * lftUnits

/-- The budget of a frame that is not acknowledged: its listens, the turnaround and its airtime. -/
def State.plainBudget (s : State) (tries air : Nat) : Nat :=
  tries * (100 * s.listenTenths) + (tries - 1) * 5000 + 100 + air

end Sys2Proof.Machine
end

