-- ==== Sys2Proof/Machine/MeshTx.lean ====
section
/-! DEFINITION. Lightline, second part: own frames built and attempted (R278, R281, R282), wireless M-Bus frames (R286), join
requests (R276), what follows a busy listen, the last bit on air and a failed attempt, and the order in which frames go out. -/

namespace Sys2Proof.Machine

/-! Building own frames -/

/-- KIND of a DATA frame (R267). -/
def OwnKind.code : OwnKind → Nat
  | .report => 1
  | .fog => 2
  | .keepalive => 3
  | .leave => 0
  | .host _ => 0x10

/-- Is the frame device-built in the sense of R310? -/
def OwnKind.built : OwnKind → Bool
  | .host _ => false
  | .leave => false
  | _ => true

/-- Payload of an own frame: KIND and body, or LONG of a LEAVE. -/
def Own.payload (o : Own) : List Byte := if o.type = tyDATA then leBytes 1 o.kind.code ++ o.body else o.body

/-- A wM-Bus frame with its block CRCs (R245, R286): L, C, M, A, CI, then FCNT, the ciphertext and the MIC. The octets of the link
layer and L of format B, which counts its CRCs, are those of EN 13757-4 (PRESUMED, log entry 61). -/
def State.wmFrame (s : State) (o : Own) (fcnt : Nat) : List Byte :=
  let ci := match o.kind with | .report => 0xA0 | .fog => 0xA1 | _ => 0xA2
  let m := s.regN Reg.MSH_WMBUS_M
  let sec := ccmSecure s.linkKey (nonceOf (s.regN Reg.MSH_ADDR) fcnt 0 0) [] (nats o.body) true
  let app := leBytes 1 ci ++ leBytes 4 fcnt ++ bytesOf sec
  wmSeal o.fmtB (leBytes 1 (wmLen o.fmtB o.body.length) ++ leBytes 1 0x44 ++ leBytes 2 (bitsOf m 0 16) ++ leBytes 4 (s.regN Reg.MSH_ADDR) ++
    leBytes 1 (bitsOf m 16 8) ++ leBytes 1 (bitsOf m 24 8) ++ app)

/-- A Lightline frame of an own frame, direct or flooded, with its FCS. -/
def State.ownFrame (s : State) (o : Own) (fcnt : Nat) (flood : Bool) : List Byte :=
  let short := o.src.getD (s.fget F.MSH_SHORT_SHORT)
  let h : FrameHead := ⟨o.type, o.cls, short, o.dst, fcnt, false, if flood then some (s.ttl, short) else none⟩
  let k := if o.dst = 0xFFFF then s.cellSec else s.buoySends
  withFcs (buildFrame h s.light.cell k o.payload)

/-- Transmit power of a device-built frame (R259). -/
def State.meshPower (s : State) (fog : Bool) : Int :=
  match s.radio with
  | some r => if fog then r.fogPwr else r.txPwr
  | none => 0

/-- Airtime of an own frame as built. -/
def State.ownAir (s : State) (o : Own) (psdu : List Byte) : Nat :=
  if s.isWmMac then wmAir s.phy psdu.length else s.meshAir (psdu.length - 4) (o.cls == 2)

/-! Ends of own frames -/

/-- Clear the buoy's association and return to SCAN; a join request on its way is dropped (R276). -/
def State.dropAssociation (s : State) : State :=
  let aw := match s.msh.await with | some (.join _) => none | w => w
  let s := match s.rad.job with | some j => (match j.why with | .join _ => s.cutTx | _ => s) | none => s
  let s := s.setMsh fun m => { m with
    cellKey := none, newest := none, orphans := 0, silent := 0, jtries := 0, jflood := false, await := aw }
  (s.fset F.MSH_SHORT_SHORT 0xFFFE).setMst bsSCAN

/-- The head frame of class c is given up: a host operation completes, a device-built frame is lost (R310). -/
def State.loseOwn (s : State) (c : Nat) (o : Own) (status upper lower : Nat) : State :=
  let s := s.dropHead c
  match o.kind with
  | .host i => s.complete i status upper lower 0
  | .leave => s
  | _ => s.meshEvt F.MSH_EVT_TXLOST

/-- The attempts of the head frame are exhausted (R281); ORPHAN such frames in a row end the association (R276). -/
def State.exhaustOwn (s : State) (c : Nat) (o : Own) : State :=
  let s := s.loseOwn c o Sts.CANCELLED 0 o.lower
  if s.mst = bsASSOC ∧ s.role = roleBUOY then
    let n := s.msh.orphans + 1
    if n ≥ s.orphanMax then (s.dropAssociation).meshEvt F.MSH_EVT_LOST
    else s.setMsh fun m => { m with orphans := n }
  else s

/-- The head frame of class c is done: acknowledged, or sent where nothing acknowledges it (R282, R310). -/
def State.ownDone (s : State) (c : Nat) (o : Own) (flood acked : Bool) : State :=
  let s := s.dropHead c
  let s := if acked then (s.setMsh fun m => { m with orphans := 0, silent := 0 }).fset F.MSH_STATUS_FLOODED (b2n flood) else s
  match o.kind with
  | .host i => s.complete i Sts.DONE 0 0 (min 255 (o.tries + o.ftries + 1) + b2n flood * 256 + o.fcnt.getD 0 % 65536 * 65536)
  | .leave => s
  | _ => s.raise F.SYS_IRQ_TX_DONE

/-- May this frame be flooded (R281)? -/
def State.mayFlood (s : State) (o : Own) : Bool :=
  !o.directOnly && s.hasEntry kFLOOD && s.ftries > 0 && !s.isWmMac

/-- An attempt of the head frame of class c failed with a lower cause (R281): another direct attempt after a random wait, then flood
attempts, then given up. -/
def State.attemptFailed (s : State) (c : Nat) (flood : Bool) (lower : Nat) : State :=
  match s.queue c with
  | [] => s.setMsh fun m => { m with cur := none, await := none }
  | o :: _ =>
    let o := { o with lower := lower, tries := o.tries + b2n (!flood), ftries := o.ftries + b2n flood }
    let s := (s.setHead c o).setMsh fun m => { m with await := none }
    let s := { s with rad := { s.rad with busy := 0 } }
    if s.isWmMac && o.kind != .fog then s.exhaustOwn c o
    else if !flood && o.tries < s.tries then { s with rad := { s.rad with wait := some (.own c false) } }
    else if s.mayFlood o && o.ftries < s.ftries then s
    else s.exhaustOwn c o

/-- Has the head frame used up its direct attempts, so that it waits for a FLOOD facet? -/
def State.wantsFlood (s : State) (o : Own) : Bool :=
  o.dst == 0xFFFF || (o.tries ≥ s.tries && s.mayFlood o)

/-! Starting attempts -/

/-- The frame counter and body of an own frame, taken when it is first built; the body of a host frame is read from SRAM then. The
flag says that a poisoned word was read. -/
def State.prepareOwn (s : State) (o : Own) : Option Own × Bool × State :=
  match o.fcnt with
  | some _ => (some o, false, s)
  | none =>
    let r : List Byte × Bool × State := match o.kind with
      | .host i => s.readBytes ((s.opE i).par 4 3) ((s.opE i).par 8 2) .device
      | _ => (o.body, false, s)
    if r.2.1 then (none, true, r.2.2)
    else
      let f := r.2.2.takeFcnt
      match f.1 with
      | some n => (some { o with body := r.1, fcnt := some n }, false, f.2)
      | none => (none, false, f.2)

/-- Mark the operation of a host frame as begun. -/
def State.beginOwn (s : State) (o : Own) : State :=
  match o.kind with
  | .host i => s.beginOp i
  | _ => s

/-- Start a direct or flood attempt of the head frame of class c. Once no frame counter is left no Lightline frame is sent (R271). A fog
frame that the governor refuses is held for the next minute; one that a minute has admitted is booked already (R251). -/
def State.startOwn (s : State) (c : Nat) (flood : Bool) : State :=
  match s.queue c with
  | [] => s
  | o0 :: _ =>
    if s.msh.fcntEnd && !s.isWmMac then s.loseOwn c o0 Sts.CANCELLED 0 o0.lower else
    let r := (s.beginOwn o0).prepareOwn o0
    match r.1 with
    | none => if r.2.1 then r.2.2.loseOwn c o0 Sts.POISON 0 0 else r.2.2.loseOwn c o0 Sts.CANCELLED 0 0
    | some o =>
      let s := r.2.2.setHead c { o with booked := false }
      let fcnt := o.fcnt.getD 0
      let psdu := if s.isWmMac then s.wmFrame o fcnt else s.ownFrame o fcnt flood
      let t := s.startTx (.own c flood) psdu (s.ownAir o psdu) (chanOf s.light s.evt) (s.meshPower (c == 2)) (c == 2) true o.booked
      match t.1 with
      | .started => t.2.setMsh fun m => { m with cur := some c }
      | .nochan => t.2.loseOwn c o Sts.REFUSED 0 0
      | .refused =>
        if o.kind == .fog then (t.2.setHead c { o with held := true }).setMsh fun m => { m with cur := none }
        else t.2.loseOwn c o Sts.REFUSED 0 0

/-- May an own frame go out now: of an associated buoy, its fog frames in DARK too (R279, R282), of the wM-Bus MAC, or a LEAVE? -/
def State.maySend (s : State) (o : Own) : Bool :=
  s.isWmMac || (s.role == roleBUOY && (s.mst == bsASSOC || (s.mst == bsDARK && o.kind == .fog))) || o.kind == .leave

/-- Longest duration of the next direct attempt of a frame: its size follows from its body. -/
def State.ownAttemptUs (s : State) (o : Own) : Nat :=
  let n := match o.kind with | .host i => (s.opE i).par 8 2 | _ => o.body.length
  let lbt := match s.radio with | some r => r.listens (chanOf s.light s.evt) | none => false
  if s.isWmMac then s.plainBudget (if lbt then s.lbtTries else 0) (s.wmOwnAir o.fmtB n)
  else s.attemptUs (s.meshAir (9 + b2n (o.type == tyDATA) + n + 8) (o.cls == 2)) lbt

/-- May a flood of the head frame of class c start now: not in the last 10 ms of the facet's usable time (R269), and at the keeper only
where its listen, turnaround and airtime end before the mark lead (R258)? -/
def State.floodFits (s : State) (c : Nat) : Bool :=
  let n := match s.queue c with
    | o :: _ => (match o.kind with | .host i => (s.opE i).par 8 2 | _ => o.body.length)
    | [] => 0
  let lbt := match s.radio with | some r => r.listens (chanOf s.light s.evt) | none => false
  10000 ≤ s.leftUs &&
    (!s.isKeeper || s.clearOfMark ((if lbt then 100 * s.listenTenths else 0) + 100 + s.meshAir (13 + 1 + n + 8) (c == 2)))

/-- Start the head frame of class c where it may go out and a direct attempt fits in the DATA facet (R281). -/
def State.tryClass (s : State) (c : Nat) : State :=
  match s.queue c with
  | [] => s
  | o :: _ =>
    if s.maySend o && !s.wantsFlood o && !o.held && s.ownAttemptUs o ≤ s.leftUs then s.startOwn c false else s

/-- A LEAVE whose buoy is no longer associated goes ahead of the frames that wait for an association (R276). -/
def State.leaveFirst (s : State) : State :=
  let q := s.queue 0
  if q.head?.any fun o => !s.maySend o then
    s.setQueue 0 ((q.filter fun o => o.kind == .leave) ++ q.filter fun o => o.kind != .leave)
  else s

/-- Start the next own frame: fog frames first, then the one being attempted, then steady and spare ones (R278). -/
def State.ownNext (s : State) : State :=
  let s := s.leaveFirst.tryClass 2
  if s.txBusy then s
  else
    match s.msh.cur with
    | some c => s.tryClass c
    | none =>
      let s := s.tryClass 0
      if s.txBusy then s else s.tryClass 1

/-! Host-built frames and scans (R252 to R255, R285) -/

/-- Start the listen or transmission of a host-assisted RADIO_TX. The device generates the check fields in sub-mode 1, and in sub-mode 2
where FLAGS asks for it (R252). -/
def State.startHostTx (s : State) (i : Nat) : State :=
  let e := s.opE i
  let n := e.par 8 2
  let fl := e.par 2 1
  let r := (s.beginOp i).readBytes (e.par 4 3) n .device
  if r.2.1 then r.2.2.completeAs i Sts.POISON
  else
    let s := r.2.2
    let air := if isWm s.phy then wmAir s.phy n else sunAir s.phy (fl.testBit 0) s.preLen n
    let octets := if s.macMode = 1 ∨ fl.testBit 3 then (sealFrame (isWm s.phy) (fl.testBit 2) r.1).take n else r.1
    let t := s.startTx (.host i) octets air (e.par 0 1) (signed 8 (e.par 1 1)) (fl.testBit 1) true
    match t.1 with
    | .started => t.2
    | _ => t.2.completeAs i Sts.REFUSED

/-- Does a host-assisted RADIO_TX carry the fog flag (R252)? -/
def State.hostFog (s : State) (i : Nat) : Bool := ((s.opE i).par 2 1).testBit 1

/-- RADIO_TX operations of host-assisted MAC in the order they go out: fog class first (R253). -/
def State.hostTxOrder (s : State) : List Nat :=
  let l := s.activeOps opRADIO_TX
  (l.filter s.hostFog) ++ l.filter fun i => !s.hostFog i

/-- Does a fog frame of the host go out although another frame of the host is in its random wait (R253)? That one follows it, its busy
listens counted. -/
def State.passesWait (s : State) : Bool :=
  match s.rad.wait, s.hostTxOrder with
  | some (.host i), j :: _ => s.macMode != 0 && s.hostFog j && !s.hostFog i
  | _, _ => false

/-- Start the dwell of a RADIO_SCAN. -/
def State.startScan (s : State) (i : Nat) : State :=
  let s := s.beginOp i
  { s with rad := { s.rad with scan := some { op := i, chan := (s.opE i).par 0 1 } } }

/-- Start what waits for a DATA facet when the radio is free: own frames by class, or host frames, then a scan. -/
def State.radioNext (s : State) : State :=
  if s.txBusy || (s.rad.wait.isSome && !s.passesWait) || s.rad.scan.isSome || s.msh.await.isSome || s.rad.rx.isSome || !s.inKind kDATA then s
  else
    let s :=
      if s.macMode = 0 then s.ownNext
      else
        match s.hostTxOrder with
        | i :: _ => s.startHostTx i
        | [] => s
    if s.txBusy then s
    else
      match s.activeOps opRADIO_SCAN with
      | i :: _ => s.startScan i
      | [] => s

/-! Join requests (R276) -/

/-- The kind of entry that join requests go out in (R276). -/
def State.joinKind (s : State) : Nat := if s.msh.jflood then kFLOOD else if s.hasEntry kCONTEND then kCONTEND else kDATA

/-- May a join request start now: in its kind of entry, a flooded one not in the last 10 ms (R269, R276)? -/
def State.joinFits (s : State) : Bool := s.inKind s.joinKind && (!s.msh.jflood || 10000 ≤ s.leftUs)

/-- Send a join request, direct or flooded. -/
def State.sendJoin (s : State) (flood : Bool) : State :=
  let f := s.takeFcnt
  match f.1 with
  | none => f.2
  | some n =>
    let s := f.2
    let h : FrameHead := ⟨tyJOIN_REQ, 0, 0xFFFE, 0, n, false, if flood then some (s.ttl, 0xFFFE) else none⟩
    let psdu := withFcs (buildFrame h s.light.cell s.buoySends (leBytes 4 (s.regN Reg.MSH_ADDR)))
    let t := s.startTx (.join flood) psdu (s.meshAir (psdu.length - 4) false) (chanOf s.light s.evt) (s.meshPower false) false true
    t.2

/-- A request found no answer: the next phase or JOIN_FAIL (R276). -/
def State.joinFailed (s : State) : State :=
  let n := s.msh.jtries + 1
  let s := s.setMsh fun m => { m with await := none, jtries := n }
  if n < s.jtries then s
  else if !s.msh.jflood && s.hasEntry kFLOOD then s.setMsh fun m => { m with jflood := true, jtries := 0 }
  else ((s.setMsh fun m => { m with jflood := false, jtries := 0 }).setMst bsSCAN).meshEvt F.MSH_EVT_JOIN_FAIL

/-! Downlinks (R283) -/

/-- A downlink was not acknowledged: offered again up to TRIES times. -/
def State.downFailed (s : State) (i lower : Nat) : State :=
  let s := s.setMsh fun m => { m with await := none }
  match s.assoc i with
  | some e =>
    match e.down with
    | some o =>
      let o := { o with tries := o.tries + 1, lower := lower }
      if o.tries ≥ s.tries then
        let s := s.setAssoc i { e with down := none }
        match o.kind with
        | .host k => s.complete k Sts.CANCELLED 0 lower 0
        | _ => s
      else s.setAssoc i { e with down := some o }
    | none => s
  | none => s

/-! After a listen and after the last bit -/

/-- The channel was busy (R248): another listen after a random wait, or the attempt has failed. -/
def State.onBusy (s : State) (w : TxWhy) : State :=
  let n := s.rad.busy + 1
  let again := fun (s : State) => { s with rad := { s.rad with wait := some w, busy := n } }
  let stop := { s with rad := { s.rad with busy := 0 } }
  match w with
  | .own c fl =>
    if n < s.lbtTries then again s else stop.attemptFailed c fl loCCA_BUSY
  | .host i =>
    let b := (s.opE i).busy + 1
    if b < min 8 (max 1 ((s.opE i).par 3 1)) then
      let s := s.setOp i { s.opE i with busy := b }
      { s with rad := { s.rad with wait := some w } }
    else s.complete i Sts.CANCELLED 0 loCCA_BUSY 0
  | .join _ => if n < s.lbtTries then again s else stop.joinFailed
  | .flash => stop.addSat F.MSH_CNT_MISSED 1
  | .relay => stop.setMsh fun m => { m with relays := m.relays.tail }
  | .answer => stop.setMsh fun m => { m with answer := none }
  | .down i => stop.downFailed i loCCA_BUSY

/-- The last bit of a transmission is on air (R253, R281, R282, R286). -/
def State.onSent (s : State) (j : TxJob) : State :=
  let s := (s.addSat F.RAD_TXCNT_TX 1).cutTx
  let s := { s with rad := { s.rad with busy := 0 } }
  match j.why with
  | .own c fl =>
    match s.queue c with
    | [] => s
    | o :: _ =>
      if s.isWmMac then
        if o.kind == .fog && o.tries + 1 < s.tries then
          let s := s.setHead c { o with tries := o.tries + 1 }
          { s with rad := { s.rad with wait := some (.own c false) } }
        else s.ownDone c o false false
      else if o.dst = 0xFFFF then s.ownDone c o true false
      else s.setMsh fun m => { m with await := some (.own c fl) }
  | .host i => s.complete i Sts.DONE 0 0 j.air
  | .join fl => s.setMsh fun m => { m with await := some (.join fl) }
  | .flash => s
  | .relay => (s.addSat F.MSH_CNT_RELAYED 1).setMsh fun m => { m with relays := m.relays.tail }
  | .answer =>
    let d := match s.msh.answer with | some a => a.down | none => none
    s.setMsh fun m => { m with answer := none, downNext := d }
  | .down i => s.setMsh fun m => { m with await := some (.down i) }

/-- The answer window closes without a valid answer (R274); the window of a flooded frame closes with its facet (R269). -/
def State.answerTimeout (s : State) : State :=
  match s.msh.await with
  | some (.own c false) => s.attemptFailed c false loNO_ACK
  | some (.join false) => s.joinFailed
  | some (.down i) => if s.isKeeper then s.downFailed i loNO_ACK else s.setMsh fun m => { m with await := none }
  | _ => s

/-- A random wait ends (R253, R281): the next listen or attempt starts where its facet still allows it, in a preemption only that of a
fog frame (R70). -/
def State.waitEnd (s : State) : State :=
  match s.rad.wait with
  | none => s
  | some w =>
    if s.txBusy then s
    else
      let s := { s with rad := { s.rad with wait := none } }
      match w with
      | .own c false =>
        match s.queue c with
        | o :: _ =>
          if o.kind == .fog then (if s.maySend o then s.startOwn c false else s)
          else if s.inKind kDATA && !s.rot.fog then s.tryClass c else s
        | [] => s
      | .own c true =>
        if s.rot.fog && c != 2 then s
        else if s.inKind kFLOOD && s.floodFits c then s.startOwn c true
        else s.attemptFailed c true loCCA_BUSY
      | .host i => if s.inKind kDATA && !s.rot.fog then s.startHostTx i else s
      | .join fl => if s.mst ≠ bsJOIN then s else if s.joinFits && !s.rot.fog then s.sendJoin fl else s.joinFailed
      | _ => s

end Sys2Proof.Machine
end

