-- ==== Sys2Proof/Machine/MeshRx.lean ====
section
/-! DEFINITION. Lightline, third part: what a received frame does (R264, R268, R272 to R277, R283 to R285), the flash and its
windows, the mark's share of the mesh (R261, R277, R280), the start of a role and the events of R287. -/

namespace Sys2Proof.Machine

/-! When the receiver is open -/

/-- Does a buoy in SCAN or DARK listen in this rotation, in its IDLE and radio facets (R276)? -/
def State.listens (s : State) : Bool :=
  s.isBuoy && (s.mst == bsDARK || (s.mst == bsSCAN && s.regN Reg.ROT_NUM % (s.fget F.MSH_CFG_SCANDIV + 1) == 0))

/-- The RADIO_SCAN that listens now: only inside DATA facets (R254, R285). -/
def State.scanNow (s : State) : Option Scan := if s.inKind kDATA then s.rad.scan else none

/-- Does a buoy listen for floods to relay (R268, R276)? -/
def State.relayListens (s : State) : Bool := s.isBuoy && s.inKind kFLOOD && s.fbit F.MSH_RETRY_RELAY && s.msh.cellKey.isSome

/-- Is the receiver open: RADIO is ON, and it is a keeper that does not transmit (R258), or in a scan, a flash window, an answer window, a
FLOOD facet of a relaying buoy, or where SCAN and DARK listen (R276)? -/
def State.rxOpen (s : State) : Bool :=
  let quiet := s.inKind kIDLE || s.inKind kFLASH || s.inKind kDATA || s.inKind kFLOOD || s.inKind kCONTEND
  s.radio.isSome && s.isOn domRADIO && s.rad.job.isNone && s.rad.rx.isNone &&
    (s.isKeeper || s.scanNow.isSome || s.msh.window || s.msh.await.isSome ||
      s.relayListens || (s.listens && quiet))

/-- The channel being received: that of a host scan, chan(e) where an answer is awaited or floods are relayed (R262, R268), else where SCAN
and DARK listen (R276). -/
def State.rxChan (s : State) : Nat :=
  let l := s.light
  match s.scanNow with
  | some c => c.chan
  | none =>
    if s.msh.await.isSome || s.relayListens then chanOf l s.evt
    else if s.mst = bsSCAN then l.map.getD l.start 0
    else if s.mst = bsDARK ∧ s.msh.window = false then l.map.getD s.msh.scanJ 0
    else chanOf l s.evt

/-- The end of an SFD at t ns after the mark (R254, R255, R264): stamped, and the frame will be received to its end. -/
def State.sfdEnd (s : State) (t : Nat) : State :=
  let late := s.msh.window && s.flashClose < 64 * t
  if !s.rxOpen || late then s
  else { s with rad := { s.rad with rx := some ⟨t, t * 64 / lftUnits, s.regN Reg.ROT_NUM, s.rxChan⟩ } }

/-! Delivery to the host (R284) -/

/-- Descriptor bits of a received frame above FULL. -/
def rxBits (st : RxStart) (f : RxFrame) (ok : Bool) : Nat :=
  b2n ok * 2 ^ 11 + b2n f.fec * 2 ^ 12 + b2n f.fmtB * 2 ^ 13 + b2n f.modeC * 2 ^ 14 + st.chan % 256 * 2 ^ 16 +
    f.rssi.toNat * 2 ^ 24

/-- Deliver a body with its 12-octet header. -/
def State.deliverBody (s : State) (st : RxStart) (f : RxFrame) (p : RxParts) (long : Nat) (body : List Byte) : Bool × State :=
  let ttl := match p.head.flood with | some x => x.1 | none => 0xFF
  s.deliverRx st (leBytes 2 p.source ++ leBytes 4 long ++ leBytes 4 p.head.fcnt ++ p.hdr.take 1 ++ leBytes 1 ttl ++ body)
    (rxBits st f true)

/-! Acceptance (R272) -/

/-- What R272 makes of a frame whose MIC verifies. -/
inductive Accept where
  | new | again | old
  deriving DecidableEq, Repr

/-- New, a repeat, or too old. -/
def State.accept (s : State) (src fcnt : Nat) (newest : Option Nat) : Accept :=
  if s.wasSeen src fcnt then .again
  else
    match newest with
    | some n => if fcnt + 63 < n then .old else .new
    | none => .new

/-- The newest of a counter and the one known. -/
def newer (newest : Option Nat) (fcnt : Nat) : Option Nat := some (max fcnt (newest.getD 0))

/-! The flash (R264 to R266, R276) -/

/-- The fields of a flash (R267). -/
structure Flash where
  cell : Nat
  rot : Nat
  evt : Nat
  n : Nat
  hop : Nat
  start : Nat
  mver : Nat
  flags : Nat
  deriving DecidableEq, Repr

/-- Read a flash's payload. -/
def readFlash (b : List Byte) : Flash :=
  ⟨leAt b 0 4, leAt b 4 4, leAt b 8 2, leAt b 10 1, leAt b 11 1, leAt b 12 1, leAt b 13 1, leAt b 14 1⟩

/-- Payload of the keeper's flash. -/
def State.flashPayload (s : State) : List Byte :=
  let l := s.light
  leBytes 4 l.cell ++ leBytes 4 (s.regN Reg.ROT_NUM) ++ leBytes 2 s.evt ++ leBytes 1 l.n ++ leBytes 1 l.hop ++ leBytes 1 l.start ++
    leBytes 1 l.mver ++ leBytes 1 (s.fget F.ROT_CFG_K + s.fget F.MSH_CFG_JOIN_OPEN * 8)

/-- Do the parameters of a flash match the image (R264)? -/
def State.flashMatches (s : State) (f : Flash) : Bool :=
  let l := s.light
  f.n == l.n && f.hop == l.hop && f.start == l.start && f.mver == l.mver && f.flags % 8 == s.fget F.ROT_CFG_K

/-- Align to a received flash: C, e, the keeper's phase, the correction for the next mark and what MSH_LASTFLASH shows. -/
def State.align (s : State) (f : Flash) (st : RxStart) (rssi : Byte) : State :=
  let s := s.setMsh fun m => { m with anchors := (f.evt, (64 * st.ns : Int)) :: m.anchors.take 1 }
  let c := s.correction f.evt
  let s := s.setRegN Reg.MSH_CROT ((f.rot + 2 ^ 32 - s.regN Reg.ROT_NUM) % 2 ^ 32)
  let s := (s.setEvt f.evt).fsetAll [(F.MSH_LASTFLASH_SINCE, 0),
    (F.MSH_LASTFLASH_CORR, unsigned 8 (clampInt (-127) 127 c)), (F.MSH_LASTFLASH_RSSI, rssi.toNat)]
  s.setMsh fun m => { m with
    kphase := f.rot % max 1 s.light.f, corr := some c, window := false, shut := false, closing := false }

/-- A missed flash (R264, R276): in JOIN it widens the windows, in ASSOC the third in a row leads to DARK. -/
def State.flashMissed (s : State) : State :=
  let s := (s.setMsh fun m => { m with window := false, shut := false, closing := false }).addSat F.MSH_CNT_MISSED 1
  if s.mst = bsASSOC then
    let n := s.fget F.MSH_STATUS_MISS + 1
    let s := s.fset F.MSH_STATUS_MISS (min 3 n)
    if n ≥ 3 then (s.setMst bsDARK).meshEvt F.MSH_EVT_DARK else s
  else if s.mst = bsJOIN then s.fset F.MSH_STATUS_MISS (min 3 (s.fget F.MSH_STATUS_MISS + 1))
  else s

/-- A flash heard by the buoy outside a RADIO_SCAN (R264, R276). The answer says whether it counts as received. -/
def State.buoyFlash (s : State) (p : RxParts) (st : RxStart) (rssi : Byte) : Bool × State :=
  let f := readFlash p.clear
  let own := f.cell == s.light.cell
  let ok := own && s.flashMatches f
  if s.mst = bsSCAN then
    if ok && f.flags.testBit 3 && ((s.fbit F.MSH_CFG_AUTOJOIN && !s.msh.suspended) || s.msh.joinReq) then
      let s := (s.align f st rssi).setMsh fun m => { m with joinReq := false, jtries := 0, jflood := false }
      (true, (s.fset F.MSH_STATUS_MISS 0).setMst bsJOIN)
    else if own && !s.flashMatches f then (false, s.meshEvt F.MSH_EVT_MISMATCH)
    else (false, s)
  else if s.mst = bsJOIN then (if ok then (true, (s.align f st rssi).fset F.MSH_STATUS_MISS 0) else (false, s))
  else
    if ok && (p.verify s.light.cell s.cellSec).isSome then
      let s := (s.align f st rssi).fset F.MSH_STATUS_MISS 0
      if s.mst = bsDARK then (true, (s.setMst bsASSOC).meshEvt F.MSH_EVT_LIGHT) else (true, s)
    else (false, s)

/-! Relays (R268, R278) -/

/-- The copy a relay sends: its own SRC and a TTL one lower, all other octets unchanged. -/
def relayCopy (psdu : List Byte) (short ttl : Nat) : List Byte :=
  psdu.take 1 ++ leBytes 2 short ++ (psdu.drop 3).take 6 ++ leBytes 1 (ttl - 1) ++ psdu.drop 10

/-- A relay joins the queue: fog relays go before the others (R278), behind the one being sent. -/
def addRelay (held : Nat) (r : Relay) (l : List Relay) : List Relay :=
  if r.fog then l.take held ++ ((l.drop held).filter (·.fog) ++ r :: (l.drop held).filter fun x => !x.fog) else l ++ [r]

/-- Relays at the head of the queue that are in their listen or on air: one or none. -/
def State.heldRelay (s : State) : Nat := match s.rad.job with | some j => b2n (j.why == .relay) | none => 0

/-- Take a flood for relaying where R268 allows it; a full relay queue takes no more. -/
def State.maybeRelay (s : State) (p : RxParts) (psdu : List Byte) : State :=
  match p.head.flood with
  | none => s
  | some (ttl, orig) =>
    if s.inKind kFLOOD && s.fbit F.MSH_RETRY_RELAY && s.msh.cellKey.isSome && p.cellh == s.light.cell % 256 && ttl ≥ 1 &&
        !s.wasSeen orig p.head.fcnt then
      let s := s.noteSeen orig p.head.fcnt p.head.type
      if s.msh.relays.length < 8 then
        let r : Relay := ⟨relayCopy psdu (s.fget F.MSH_SHORT_SHORT) ttl, orig, p.head.fcnt, p.head.cls == 2⟩
        s.setMsh fun m => { m with relays := addRelay s.heldRelay r m.relays }
      else s
    else s

/-- The keeper's ACK of a flood cancels its relay until it is on air. -/
def State.cancelRelay (s : State) (orig fcnt : Nat) : State :=
  let other := fun (r : Relay) => !(r.orig == orig && r.fcnt == fcnt)
  let all := s.setMsh fun m => { m with relays := m.relays.filter other }
  match s.rad.job, s.msh.relays with
  | some j, r :: t =>
    if j.why == .relay then
      if j.listen && !other r then all.cutTx else s.setMsh fun m => { m with relays := r :: t.filter other }
    else all
  | _, _ => all

/-! The buoy receives -/

/-- Queue an acknowledgement (R274). -/
def State.setAnswer (s : State) (a : Answer) : State := s.setMsh fun m => { m with answer := some a }

/-- The buoy's acknowledgement of a downlink. -/
def State.buoyAck (s : State) (p : RxParts) : State :=
  s.setAnswer {
    type := tyACK, cls := p.head.cls, dst := 0, payload := leBytes 4 p.head.fcnt, key := s.linkKey,
    long := s.regN Reg.MSH_ADDR, dir := 0 }

/-- A buoy enters a frame of the keeper that it accepts as new (R272). -/
def State.noteKeeper (s : State) (p : RxParts) : State :=
  (s.noteSeen p.source p.head.fcnt p.head.type).setMsh fun m => { m with newest := newer m.newest p.head.fcnt }

/-- Data from the keeper to this buoy or to all (R272, R284), which R272 accepts as `acc`. Only KIND 0x10 is delivered. -/
def State.buoyData (s : State) (p : RxParts) (st : RxStart) (f : RxFrame) (acc : Accept) : State :=
  let all := p.head.dst == 0xFFFF
  let k := if all then s.cellSec else s.buoyHears
  match p.verify s.light.cell k, acc with
  | none, _ => s.replayDrop
  | some _, .old => s.replayDrop
  | some _, .again => (s.addSat F.MSH_CNT2_DUP 1).when (!all) fun s => s.buoyAck p
  | some b, .new =>
    let kind := leAt b 0 1
    if kind = 0x10 then
      let r := s.deliverBody st f p s.msh.klong (b.drop 1)
      if r.1 then (r.2.noteKeeper p).when (!all) fun s => s.buoyAck p else r.2
    else if 1 ≤ kind ∧ kind ≤ 3 then (s.noteKeeper p).when (!all) fun s => s.buoyAck p
    else s.addSat F.RAD_CNT_RX_BAD 1

/-- The short address under which this buoy awaits an ACK: its own, or the one that its LEAVE gave up. -/
def State.ackedAs (s : State) : Nat :=
  let short := s.fget F.MSH_SHORT_SHORT
  match s.msh.await with
  | some (.own c _) => (match s.queue c with | o :: _ => o.src.getD short | [] => short)
  | _ => short

/-- An ACK of this buoy's frame `acked` was accepted, of a flood under the cell key: it ends the answer window of the frame it names; another one
leaves the window as it is (R269, R274, R283). -/
def State.takeAck (s : State) (p : RxParts) (acked : Nat) (flood : Bool) : State :=
  match s.msh.await with
  | some (.own c fl) =>
    match s.queue c with
    | o :: _ =>
      if fl == flood && some acked == o.fcnt then
        let s := s.ownDone c o fl true
        if p.head.pending then s.setMsh fun m => { m with await := some (.down 0) } else s
      else s
    | [] => s
  | _ => s

/-- An ACK at the buoy: it cancels a relay; one for this buoy is accepted under R272, and a failing MIC is a failed attempt (R268, R274). -/
def State.buoyAcked (s : State) (p : RxParts) (acc : Accept) : State :=
  let acked := leAt p.clear 0 4
  let cell := s.msh.cellKey.isSome && (p.verify s.light.cell s.cellSec).isSome
  let s := if cell then s.cancelRelay p.head.dst acked else s
  if p.head.dst ≠ s.ackedAs ∨ p.head.dst = 0xFFFE then s
  else if !cell && (p.verify s.light.cell s.buoyHears).isNone then
    match s.msh.await with
    | some (.own c false) => s.replayDrop.attemptFailed c false loBAD_ACK
    | _ => s.replayDrop
  else
    match acc with
    | .old => s.replayDrop
    | .again => s.addSat F.MSH_CNT2_DUP 1
    | .new => (s.noteKeeper p).takeAck p acked cell

/-- A join response (R272, R274, R276); after a flooded request one whose MIC fails leaves the listening to its facet's end (R269). -/
def State.joinAnswer (s : State) (p : RxParts) (acc : Accept) : State :=
  match s.msh.await with
  | some (.join _) =>
    match p.verify s.light.cell s.buoyHears with
    | some b =>
      match acc with
      | .old => s.replayDrop
      | .again => s.addSat F.MSH_CNT2_DUP 1
      | .new =>
        let s := (s.noteKeeper p).setMsh fun m => { m with
          cellKey := some (nats ((b.drop 2).take 16)), klong := leAt b 18 4, await := none, jtries := 0, jflood := false,
          orphans := 0, silent := 0 }
        ((s.fset F.MSH_SHORT_SHORT (leAt b 0 2)).setMst bsASSOC).meshEvt F.MSH_EVT_JOINED
    | none => match s.msh.await with
      | some (.join false) => s.replayDrop.joinFailed
      | _ => s.replayDrop
  | _ => s

/-- A LEAVE from the keeper (R272, R276). -/
def State.toldToLeave (s : State) (p : RxParts) (acc : Accept) : State :=
  match p.verify s.light.cell s.buoyHears, acc with
  | none, _ => s.replayDrop
  | _, .old => s.replayDrop
  | _, .again => s.addSat F.MSH_CNT2_DUP 1
  | _, .new => ((s.noteKeeper p).dropAssociation).meshEvt F.MSH_EVT_LEFT

/-- A Lightline frame other than a flash at the buoy. One cache serves relays and final receivers (R273): what R272 makes of the frame is
settled before its relay enters it. -/
def State.buoyFrame (s : State) (p : RxParts) (psdu : List Byte) (st : RxStart) (f : RxFrame) : State :=
  let short := s.fget F.MSH_SHORT_SHORT
  let mine := p.head.dst == short && p.source == 0 && short != 0xFFFE
  let acc := s.accept p.source p.head.fcnt s.msh.newest
  let s := s.maybeRelay p psdu
  if p.head.type = tyACK then (if p.source = 0 then s.buoyAcked p acc else s)
  else if p.head.type = tyJOIN_RSP then (if p.head.dst = 0xFFFE then s.joinAnswer p acc else s)
  else if p.head.flood.isSome ∧ p.head.dst = 0xFFFF ∧ p.head.type = tyDATA ∧ s.msh.cellKey.isSome then s.buoyData p st f acc
  else if mine ∧ p.head.type = tyDATA then s.buoyData p st f acc
  else if mine ∧ p.head.type = tyLEAVE then s.toldToLeave p acc
  else s

/-! The keeper receives -/

/-- The operation of a downlink that is given up (R277) ends with its last lower cause. -/
def State.endDown (s : State) (o : Option Own) : State :=
  match o with
  | some o => match o.kind with
    | .host k => s.complete k Sts.CANCELLED 0 o.lower 0
    | _ => s
  | none => s

/-- The keeper's acknowledgement of a frame addressed to it: the cell key for a flood, the link key otherwise, with PENDING where a downlink waits (R274, R283). -/
def State.keeperAck (s : State) (p : RxParts) (i : Nat) (e : AssocEntry) (pend : Bool) : State :=
  if p.head.dst ≠ 0 then s else
  let down := if pend && e.down.isSome then some i else none
  let k := if p.head.flood.isSome then s.cellSec else ⟨s.entryKey e, e.long, 1⟩
  s.setAnswer {
    type := tyACK, cls := p.head.cls, dst := p.source, payload := leBytes 4 p.head.fcnt, key := k.key,
    long := k.long, dir := k.dir, down := down }

/-- A join request at the keeper (R276): answered when an entry has that LONG and JOIN_OPEN is 1. Its source is 0xFFFE (R272); the newest
counter is that of the entry. -/
def State.keeperJoin (s : State) (p : RxParts) (f : RxFrame) : State :=
  let long := leAt p.clear 0 4
  match s.msh.table.find? fun x => x.2.long == long with
  | none => s
  | some (i, e) =>
    if !s.fbit F.MSH_CFG_JOIN_OPEN then s
    else
      match p.verify s.light.cell ⟨s.entryKey e, long, 0⟩, s.msh.cellKey with
      | none, _ => s.replayDrop
      | _, none => s
      | some _, some ck =>
        let rsp := fun (s : State) => s.setAnswer {
          type := tyJOIN_RSP, cls := 0, dst := 0xFFFE,
          payload := leBytes 2 (i + 1) ++ bytesOf ck ++ leBytes 4 (s.regN Reg.MSH_ADDR), key := s.entryKey e, long := long, dir := 1 }
        match s.accept p.source p.head.fcnt e.fcnt with
        | .old => s.replayDrop
        | .again => rsp (s.addSat F.MSH_CNT2_DUP 1)
        | .new =>
          let s := s.noteSeen p.source p.head.fcnt tyJOIN_REQ
          let s := s.setAssoc i { e with joined := true, supv := 0, fcnt := newer e.fcnt p.head.fcnt, rssi := f.rssi.toNat }
          rsp (s.keeperEvent 0 (i + 1))

/-- A data or LEAVE frame at the keeper, direct or flooded (R272, R277, R284). -/
def State.keeperData (s : State) (p : RxParts) (st : RxStart) (f : RxFrame) : State :=
  let src := p.source
  match (if src = 0 then none else s.assoc (src - 1)) with
  | none => s.replayDrop
  | some e =>
    let i := src - 1
    if !e.joined then s
    else
      match p.verify s.light.cell ⟨s.entryKey e, e.long, 0⟩ with
      | none => s.replayDrop
      | some b =>
        let e' : AssocEntry := { e with supv := 0, fcnt := newer e.fcnt p.head.fcnt, rssi := f.rssi.toNat }
        let note := fun (s : State) => (s.noteSeen src p.head.fcnt p.head.type).setAssoc i e'
        match s.accept src p.head.fcnt e.fcnt with
        | .old => s.replayDrop
        | .again => (s.addSat F.MSH_CNT2_DUP 1).keeperAck p i e false
        | .new =>
          if p.head.type = tyLEAVE then
            let s := (note s).keeperAck p i e false
            ((s.setAssoc i { e' with joined := false, down := none }).keeperEvent 2 src).endDown e.down
          else
            let kind := leAt b 0 1
            if kind = 3 then (note s).keeperAck p i e true
            else if kind = 1 ∨ kind = 2 ∨ kind = 0x10 then
              let r := s.deliverBody st f p e.long (b.drop 1)
              if r.1 then (note r.2).keeperAck p i e true else r.2
            else s.addSat F.RAD_CNT_RX_BAD 1

/-- An accepted ACK of entry i ends the answer window of the downlink it names (R283). -/
def State.downDone (s : State) (i acked : Nat) (e : AssocEntry) : State :=
  match e.down with
  | some o =>
    if s.msh.await == some (.down i) && some acked == o.fcnt then
      let s := (s.setAssoc i { e with down := none }).setMsh fun m => { m with await := none }
      match o.kind with
      | .host k => s.complete k Sts.DONE 0 0 (min 255 (o.tries + 1) + o.fcnt.getD 0 % 65536 * 65536)
      | _ => s
    else s
  | none => s

/-- An ACK at the keeper (R272, R274, R277, R283): accepted as every frame of that buoy; a failing MIC is a failed attempt of the downlink. -/
def State.keeperAcked (s : State) (p : RxParts) (f : RxFrame) : State :=
  let src := p.source
  match (if src = 0 then none else s.assoc (src - 1)) with
  | none => s.replayDrop
  | some e =>
    let i := src - 1
    if !e.joined then s
    else if (p.verify s.light.cell ⟨s.entryKey e, e.long, 0⟩).isNone then
      if s.msh.await == some (.down i) then s.replayDrop.downFailed i loBAD_ACK else s.replayDrop
    else
      match s.accept src p.head.fcnt e.fcnt with
      | .old => s.replayDrop
      | .again => s.addSat F.MSH_CNT2_DUP 1
      | .new =>
        let e' : AssocEntry := { e with supv := 0, fcnt := newer e.fcnt p.head.fcnt, rssi := f.rssi.toNat }
        ((s.noteSeen src p.head.fcnt tyACK).setAssoc i e').downDone i (leAt p.clear 0 4) e'

/-- A Lightline frame at the keeper: one addressed to it, or a flood that reaches it (R272); a relayed copy of its own flood is none. -/
def State.keeperFrame (s : State) (p : RxParts) (st : RxStart) (f : RxFrame) : State :=
  if p.head.dst ≠ 0 ∧ (p.head.flood.isNone ∨ p.source = 0) then s
  else if p.head.type = tyJOIN_REQ then (if p.head.dst = 0 then s.keeperJoin p f else s)
  else if p.head.type = tyDATA ∨ p.head.type = tyLEAVE then s.keeperData p st f
  else if p.head.type = tyACK then s.keeperAcked p f
  else s

/-! A received frame -/

/-- The dwell of a scan has ended: the operation completes unless a frame is still being received (R254, R285). -/
def State.scanDone (s : State) : State :=
  match s.rad.scan with
  | some c =>
    if c.ended && s.rad.rx.isNone then
      let s := { s with rad := { s.rad with scan := none } }
      s.complete c.op Sts.DONE 0 0 (min 255 c.got + 256 * min 255 c.other)
    else s
  | none => s

/-- Count into the running scan. -/
def State.countScan (s : State) (got other : Nat) : State :=
  match s.rad.scan with
  | some c => { s with rad := { s.rad with scan := some { c with got := c.got + got, other := c.other + other } } }
  | none => s

/-- A frame during a host scan, MAC host-assisted or role none (R254, R255): delivered when its check fields pass, and always in raw
PHY. -/
def State.scanFrame (s : State) (f : RxFrame) (ok : Bool) (st : RxStart) : State :=
  if s.scanNow.isNone || (!ok && s.macMode != 2) then s
  else
    let r := s.deliverRx st f.psdu (rxBits st f ok)
    if r.1 then r.2.countScan 1 0 else r.2.countScan 0 1

/-- A flash heard by a buoy's RADIO_SCAN (R285). -/
def State.scanFlash (s : State) (p : RxParts) (f : RxFrame) : State :=
  let x := readFlash p.clear
  let s := (s.setRegN Reg.MSH_SCAN x.cell).setRegN Reg.MSH_SCAN_RSSI f.rssi.toNat
  s.countScan 1 (b2n (x.cell == s.light.cell))

/-- The end of a frame that is no flash: a flash window whose close has passed meanwhile has missed its flash (R264). -/
def State.windowEnd (s : State) : State := if s.msh.window && s.msh.closing then s.flashMissed else s

/-- A frame whose check fields fail, at the mesh: an answer fails with BAD_ACK, and in a flash window it is no flash received. After a flood
the listening goes on (R269). -/
def State.badFrame (s : State) : State :=
  if s.msh.window then s.windowEnd
  else
    match s.msh.await with
    | some (.own c false) => s.attemptFailed c false loBAD_ACK
    | some (.join false) => s.joinFailed
    | some (.down i) => if s.isKeeper then s.downFailed i loBAD_ACK else s
    | _ => s

/-- A Lightline frame whose check fields pass. -/
def State.meshFrame (s : State) (p : RxParts) (psdu : List Byte) (st : RxStart) (f : RxFrame) : State :=
  if s.isKeeper then s.keeperFrame p st f
  else if s.scanNow.isSome then (if p.head.type = tyFLASH then s.scanFlash p f else s)
  else if p.head.type = tyFLASH then
    let r := (s.maybeRelay p psdu).buoyFlash p st f.rssi
    if !r.1 && r.2.msh.window then r.2.flashMissed else r.2
  else (s.buoyFrame p psdu st f).windowEnd

/-- The end of a received frame (R243, R255, R267, R272); one that needs what the device lacks is not received. -/
def State.frameReceived (s : State) (f : RxFrame) : State :=
  match s.rad.rx with
  | none => s
  | some st =>
    let s := { s with rad := { s.rad with rx := none } }
    let bad := fun (s : State) => s.addSat F.RAD_CNT_RX_BAD 1
    let last := fun (s : State) => s.fset F.RAD_RSSI_LAST f.rssi.toNat
    let ok := s.checksPass f
    let s :=
      if f.unsup then (bad s).windowEnd
      else if s.macMode ≠ 0 ∨ s.role = 0 then (last (if ok then s.addSat F.RAD_CNT_RX_OK 1 else bad s)).scanFrame f ok st
      else if !ok || f.fmtB then (bad (last s)).badFrame
      else
        let s := last s
        let psdu := f.psdu.take (f.psdu.length - 4)
        match readFrame psdu with
        | none => (bad s).windowEnd
        | some p => (s.addSat F.RAD_CNT_RX_OK 1).meshFrame p psdu st f
    s.scanDone

/-- SCAN_DWELL_END: the dwell has elapsed. -/
def State.dwellEnd (s : State) : State :=
  match s.rad.scan with
  | some c => ({ s with rad := { s.rad with scan := some { c with ended := true } } }).scanDone
  | none => s

/-! Sending what the schedule or a reception asks for -/

/-- Send the acknowledgement or join response that is due (R274), unless it would reach into the mark lead or the mark window (R258). -/
def State.sendAnswer (s : State) : State :=
  match s.msh.answer with
  | none => s
  | some a =>
    let drop := fun (s : State) => s.setMsh fun m => { m with answer := none }
    let air := s.meshAir (9 + a.payload.length + 8) (a.type == tyACK)
    if s.txBusy || s.rot.fog || !s.clearOfMark air then drop s
    else
      let f := s.takeFcnt
      match f.1 with
      | none => drop f.2
      | some n =>
        let s := f.2
        let src := if s.isKeeper then 0 else s.fget F.MSH_SHORT_SHORT
        let h : FrameHead := ⟨a.type, a.cls, src, a.dst, n, a.down.isSome, none⟩
        let psdu := withFcs (buildFrame h s.light.cell ⟨a.key, a.long, a.dir⟩ a.payload)
        let t := s.startTx .answer psdu (s.meshAir (psdu.length - 4) (a.type == tyACK)) (chanOf s.light s.evt) (s.meshPower (a.cls == 2)) (a.cls == 2) false
        match t.1 with
        | .started => t.2
        | _ => drop t.2

/-- Send the downlink held for an entry (R283); none goes out once no frame counter is left (R271). -/
def State.sendDownlink (s : State) : State :=
  match s.msh.downNext with
  | none => s
  | some i =>
    let s := s.setMsh fun m => { m with downNext := none }
    match s.assoc i with
    | none => s
    | some e =>
      match e.down with
      | none => s
      | some o0 =>
        let n := match o0.kind with | .host k => (s.opE k).par 8 2 | _ => o0.body.length
        let fail := fun (s : State) (st lower : Nat) =>
          let s := s.setAssoc i { e with down := none }
          match o0.kind with
          | .host k => s.complete k st 0 lower 0
          | _ => s
        if s.txBusy || !s.clearOfMark (s.meshAir (9 + 1 + n + 8) false) then s
        else if s.msh.fcntEnd then fail s Sts.CANCELLED o0.lower
        else
          let r := (s.beginOwn o0).prepareOwn o0
          match r.1 with
          | none => fail r.2.2 (if r.2.1 then Sts.POISON else Sts.CANCELLED) 0
          | some o =>
            let s := r.2.2.setAssoc i { e with down := some o }
            let h : FrameHead := ⟨tyDATA, o.cls, 0, i + 1, o.fcnt.getD 0, false, none⟩
            let psdu := withFcs (buildFrame h s.light.cell ⟨s.entryKey e, e.long, 1⟩ o.payload)
            let t := s.startTx (.down i) psdu (s.meshAir (psdu.length - 4) false) (chanOf s.light s.evt) (s.meshPower false) false false
            match t.1 with
            | .started => t.2
            | _ => fail t.2 Sts.REFUSED 0

/-- The keeper's flash (R263): refused or busy, it is counted and not sent. -/
def State.sendFlash (s : State) : State :=
  if !s.isKeeper || !s.inKind kFLASH || s.txBusy then s
  else
    match s.msh.cellKey, s.takeFcnt with
    | some ck, (some n, s) =>
      let h : FrameHead := ⟨tyFLASH, 0, 0, 0xFFFF, n, false, none⟩
      let psdu := withFcs (buildFrame h s.light.cell (cellSecure ck) s.flashPayload)
      let t := s.startTx .flash psdu (s.meshAir (psdu.length - 4) false) (chanOf s.light s.evt) (s.meshPower false) false true
      match t.1 with
      | .started => t.2
      | _ => t.2.addSat F.MSH_CNT_MISSED 1
    | _, (_, s) => s.addSat F.MSH_CNT_MISSED 1

/-- Does a buoy listen for flashes in its FLASH entries (R264, R276)? -/
def State.keepsWindows (s : State) : Bool := s.isBuoy && s.mst != bsSCAN

/-- The buoy opens its flash window (R264); one that begins in a fog preemption opens at its end (R71). -/
def State.openFlashWindow (s : State) : State :=
  if !s.keepsWindows || !s.inKind kFLASH then s
  else if s.rot.fog then s.setMsh fun m => { m with shut := true }
  else if s.txBusy then s
  else s.setMsh fun m => { m with window := true, closing := false }

/-- A flash window that a preemption kept shut opens at its end. -/
def State.unshutWindow (s : State) : State :=
  if s.msh.shut then (s.setMsh fun m => { m with shut := false }).openFlashWindow else s

/-- A flash window that a preemption kept shut to its close is an abandoned listen (R71). -/
def State.abandonWindow (s : State) : State := if s.msh.shut then (s.addSat F.ROT_PREEMPT_CNT_ABANDONED 1).flashMissed else s

/-- The window closes: a missed flash unless a frame whose SFD came in time is still arriving (R264). -/
def State.closeFlashWindow (s : State) : State :=
  if s.msh.shut then s.abandonWindow else if !s.msh.window then s else if s.rad.rx.isNone then s.flashMissed else s.setMsh fun m => { m with closing := true }

/-- Send the first relay (R268), unless it would start in the last 10 ms of the facet's usable time or no Lightline frame is sent any more
(R271). -/
def State.startRelay (s : State) : State :=
  let s := s.setMsh fun m => { m with relayDue := false }
  match s.msh.relays with
  | [] => s
  | r :: t =>
    let drop := fun (s : State) => s.setMsh fun m => { m with relays := t }
    if !s.inKind kFLOOD || s.leftUs < 10000 || s.msh.fcntEnd then drop s
    else
      let psdu := withFcs r.psdu
      let x := s.startTx .relay psdu (s.meshAir r.psdu.length r.fog) (chanOf s.light s.evt) (s.meshPower r.fog) r.fog true
      match x.1 with
      | .started => x.2
      | _ => drop x.2

/-- The class whose head frame is to be flooded: fog, then the frame being attempted, then broadcasts. In a preemption only fog, and not
one that waits for the governor (R251). -/
def State.floodClass (s : State) : Option Nat :=
  (if s.rot.fog then [2] else [2, 0, 1]).find? fun c =>
    match s.queue c with
    | o :: _ => s.wantsFlood o && (s.isKeeper || s.maySend o) && !o.held
    | [] => false

/-- An own flood starts where it still fits (R258, R269). -/
def State.startFlood (s : State) (c : Nat) : State :=
  let s := s.setMsh fun m => { m with origDue := false }
  if s.floodFits c then s.startOwn c true else s

/-- Are CORE and RADIO ON, so that a transmission can start (R63)? -/
def State.radioOn (s : State) : Bool := s.isOn domCORE && s.isOn domRADIO

/-- What goes out next in a FLOOD facet (R278): fog relays, own fog frames, own steady frames, then the spare ones, relays of non-fog
floods among them. An own flood waits for the instant of R269 and behind queued fog relays, a relay for the end of its delay. -/
def State.floodNext (s : State) : State :=
  let fogRelay := s.msh.relays.any (·.fog)
  let own := if s.msh.origDue && !fogRelay && s.msh.await.isNone then s.floodClass else none
  if s.txBusy || s.rad.wait.isSome || !s.radioOn then s
  else
    match own with
    | some c =>
      if !s.inKind kFLOOD then s
      else if c = 1 && s.msh.relayDue && !s.rot.fog then s.startRelay
      else s.startFlood c
    | none => if s.msh.relayDue && (fogRelay || !s.rot.fog) then s.startRelay else s

/-- A relay's random delay ends (R268). -/
def State.sendRelay (s : State) : State :=
  if s.msh.relays.isEmpty then s else (s.setMsh fun m => { m with relayDue := true }).floodNext

/-- An originator's instant in the FLOOD facet (R269). -/
def State.originate (s : State) : State :=
  if !s.inKind kFLOOD then s else (s.setMsh fun m => { m with origDue := true }).floodNext

/-- A join request is due (R276): in its CONTEND or DATA entry, or in a FLOOD entry once requests are flooded. -/
def State.joinDue (s : State) : State :=
  if s.role = roleBUOY ∧ s.mst = bsJOIN ∧ s.joinFits ∧ s.radioOn ∧ s.txBusy = false ∧ s.rot.fog = false ∧ s.msh.await = none then
    let t := s.sendJoin s.msh.jflood
    if t.txBusy then t else t.joinFailed
  else s

/-! Fog frames (R279) -/

/-- Body of a fog frame without its KIND. -/
def FogEv.body (e : FogEv) : List Byte := leBytes 1 e.code ++ leBytes 4 e.rot ++ sliceBytes e.data 0 8

/-- Does a fog event send a frame: a running buoy or the wM-Bus MAC, never with MAC host-assisted (R35, R257, R279, R286)? -/
def State.fogSends (s : State) : Bool := s.macMode == 0 && (s.isBuoy || s.isWmMac)

/-- Queue the frame of a fog event that occurred at g (1/64 ns from the mark). -/
def State.queueFog (s : State) (e : FogEv) (g : Int) : State :=
  s.queueOwn { kind := .fog, type := tyDATA, cls := 2, dst := 0, body := e.body, g := g }

/-- May the head fog frame start a direct attempt: no attempt of it is in progress, and the governor does not hold it? -/
def State.fogReady (s : State) (o : Own) : Bool :=
  let busy := s.txBusy || s.rad.wait == some (.own 2 false) || (match s.msh.await with | some (.own 2 _) => true | _ => false)
  s.fogSends && s.maySend o && !busy && !s.wantsFlood o && !o.held

/-- The first attempt of the head fog frame. -/
def State.sendFog (s : State) : State :=
  match s.queue 2 with
  | o :: _ => if s.fogReady o then s.startOwn 2 false else s
  | [] => s

/-- A minute boundary asks the governor again for a refused fog frame (R251): an admitted one is booked and goes out at its next
occasion. -/
def State.fogMinute (s : State) : State :=
  match s.queue 2, s.radio with
  | o :: _, some r =>
    if !o.held then s
    else
      let psdu := if s.isWmMac then s.wmFrame o (o.fcnt.getD 0) else s.ownFrame o (o.fcnt.getD 0) (s.wantsFlood o)
      match s.govEnter r (chanOf s.light s.evt) (s.ownAir o psdu) true false with
      | some t => t.setHead 2 { o with held := false, booked := true }
      | none => (s.fset F.RAD_EVT_GOV_REFUSED 1).addSat F.RAD_GOV_CNT_FOG 1
  | _, _ => s

/-- Has a minute boundary admitted the head fog frame, so that it can go out at once? -/
def State.fogAdmitted (s : State) : Bool :=
  match s.queue 2 with
  | o :: _ => o.booked && s.fogReady o
  | [] => false

/-! Reports and keepalives (R277, R280) -/

/-- The accumulators a report holds: the lowest eight set bits of MASK. -/
def State.reportAccs (s : State) : List Nat := (maskList 17 (s.fget F.MSH_REPORT_MASK_MASK)).take 8

/-- STATUS of a report. -/
def State.reportStatus (s : State) : Nat :=
  let failed := (List.range 8).any fun n => s.chordState n == chFAILED
  let sens := (List.range 5).any fun i => s.elemSet i && s.tmu.states.getD i 0 != elOK
  s.fget F.ECH_STATUS_EMPTY + 2 * b2n (s.fbit F.FLW_STATUS_FALLBACK) + 4 * b2n failed + 8 * s.fget F.LDG_LASTSTEP_ERROR + 16 * b2n sens

/-- Body of a report. -/
def State.reportBody (s : State) : List Byte :=
  leBytes 4 (s.regN Reg.ROT_NUM) ++ leBytes 2 s.reportStatus ++ leBytes 4 (s.regN Reg.MSH_REPORT_MASK) ++
    (s.reportAccs.map fun a => leBytes 12 (s.acc a).v ++ leBytes 1 (s.acc a).wrap).flatten

/-- Queue a report when one is due: the mark ended a rotation of `len` LFT. -/
def State.reportS6 (s : State) (len : Nat) : State :=
  if !(s.isBuoy || s.isWmMac) || s.macMode != 0 then s
  else
    let age := s.msh.reportAge + len
    let due := (s.reportSecs != 0 && s.reportSecs * 32768 ≤ age)
    if due || s.msh.reportReq then
      let s := s.setMsh fun m => { m with reportAge := 0, reportReq := false }
      s.queueOwn { kind := .report, type := tyDATA, cls := 0, dst := 0, body := s.reportBody }
    else s.setMsh fun m => { m with reportAge := age }

/-- A flash interval begins at the buoy: the count since the last flash, supervision and keepalive (R276, R277). -/
def State.buoyInterval (s : State) (e : Nat) : State :=
  let s := (s.setEvt e).addSat F.MSH_LASTFLASH_SINCE 1
  let sup := s.light.superv
  if (s.mst = bsASSOC ∨ s.mst = bsDARK) ∧ sup ≤ s.fget F.MSH_LASTFLASH_SINCE then
    (s.dropAssociation).meshEvt F.MSH_EVT_LOST
  else if s.mst = bsASSOC ∨ s.mst = bsDARK then
    let s := s.setMsh fun m => { m with silent := m.silent + 1 }
    let queued := (s.queue 0).any fun o => o.kind == .keepalive
    if sup / 2 ≤ s.msh.silent ∧ queued = false then
      s.queueOwn { kind := .keepalive, type := tyDATA, cls := 0, dst := 0, body := [] }
    else s
  else s

/-- Supervision of one entry at a flash interval (R277). -/
def State.superviseEntry (s : State) (p : Nat × AssocEntry) : State :=
  if !p.2.joined then s
  else
    let e := { p.2 with supv := p.2.supv + 1 }
    if s.light.superv ≤ e.supv then
      ((s.setAssoc p.1 { e with joined := false, down := none }).keeperEvent 1 (p.1 + 1)).endDown e.down
    else s.setAssoc p.1 e

/-- The mesh's share of S6 (R261, R277, R280); the rotation that ended had `len` LFT. -/
def State.meshS6 (s : State) (len : Nat) : State :=
  let f := max 1 s.light.f
  let s :=
    if s.isKeeper then
      let ph := match s.entryOf kFLASH with | some n => facetPhase (s.facetWord n) | none => 0
      let c := s.regN Reg.ROT_NUM
      if c % f = ph then
        let s := s.setEvt ((c - ph) / f % 65536)
        s.msh.table.foldl State.superviseEntry s
      else s
    else if s.isBuoy && (s.mst != bsSCAN || !s.msh.anchors.isEmpty) then
      let c := s.cellRot
      let s := if c % f = s.msh.kphase then s.buoyInterval ((c - s.msh.kphase) / f % 65536) else s
      if s.mst = bsDARK then s.setMsh fun m => { m with scanJ := (m.scanJ + 1) % max 1 s.light.n } else s
    else s
  s.reportS6 len

/-! Roles, loads and faults (R89, R287) -/

/-- Draw the cell key from the TRNG, or wait for it (R275, R390). -/
def State.drawCellKey (s : State) : State :=
  if s.upd.trngBad then { s with upd := { s.upd with cellWait := true } }
  else
    let k := ((List.range 4).map fun i => nats (leBytes 4 (Config.trng (s.free + i)).toNat)).flatten
    ({ s with free := s.free + 4, upd := { s.upd with cellWait := false } }).setMsh fun m => { m with cellKey := some k }

/-- e as the keeper's rule gives it in the rotation in progress (R261). -/
def State.keeperEvt (s : State) : Nat :=
  let f := max 1 s.light.f
  let ph := match s.entryOf kFLASH with | some n => facetPhase (s.facetWord n) | none => 0
  ((s.regN Reg.ROT_NUM + f - ph) / f + 65535) % 65536

/-- The role starts at the first FLASH or CONTEND entry (R89, R276, R287); the keeper's e is that of the flash interval in progress. -/
def State.startRole (s : State) : State :=
  if s.mst ≠ bsOFF ∨ s.macMode ≠ 0 ∨ s.role = 0 ∨ s.radio = none then s
  else
    let s := s.setRegN Reg.MSH_CELL s.light.cell
    if s.role = roleKEEPER then
      let s := ((s.setRegs [(Reg.MSH_CROT, 0), (Reg.MSH_SHORT, 0)]).setMst bsKEEPER).setEvt s.keeperEvt
      let s := if s.msh.cellKey.isSome && !s.msh.table.isEmpty then s else s.drawCellKey
      s.showAssoc
    else if s.msh.cellKey.isSome then (s.fset F.MSH_STATUS_MISS 3).setMst bsDARK
    else (s.fset F.MSH_STATUS_MISS 0).setMst bsSCAN

/-- Forget every association of either role. -/
def State.clearMesh (s : State) : State :=
  (s.setMsh fun m => { m with cellKey := none, klong := 0, seen := [], newest := none, table := [], kevts := [] }).fset
    F.MSH_SHORT_SHORT 0xFFFE

/-- The role stops (R89): windows, corrections and counts of the role that ran are forgotten, and ROLE shows the image's. -/
def State.stopRole (s : State) (role : Nat) : State :=
  let s := s.setMsh fun m => { m with
    corr := none, window := false, shut := false, closing := false, silent := 0, orphans := 0, jtries := 0, jflood := false, scanJ := 0,
    reportAge := 0 }
  ((s.setMst bsOFF).fsetAll [(F.MSH_STATUS_MISS, 0), (F.MSH_STATUS_ASSOC, 0), (F.MSH_STATUS_ROLE, role)]).setRegN Reg.MSH_CELL 0

/-- An image apply (R89, R287): the role stops; what the table keeps depends on the old and the new image. The new image's ROLE shows. -/
def State.meshApply (s : State) (old : Option Image) (new : Image) : State :=
  let keep :=
    match old with
    | none => false
    | some o =>
      match o.radio, new.radio, o.light, new.light with
      | some ro, some rn, some lo, some ln =>
        ro.role == rn.role && lo.cell == ln.cell &&
          (if rn.role == roleKEEPER then lo.maxAssoc == ln.maxAssoc
           else rn.role == roleBUOY && lo.mver == ln.mver && o.k == new.k && lo.f == ln.f)
      | _, _, _, _ => false
  let s := if keep then s else (s.clearMesh).setMsh fun m => { m with anchors := [] }
  s.stopRole (match new.radio with | some r => r.role | none => 0)

/-- A device fault (R38, R255, R287): queues flushed, downlinks discarded, every buffer entry free, nothing on air or awaited. -/
def State.meshFault (s : State) : State :=
  let missed := s.msh.window || s.msh.shut
  let s := s.setMsh fun m => { m with
    queues := List.replicate 3 [], relays := [], relayDue := false, origDue := false, cur := none, await := none, answer := none, downNext := none, window := false, shut := false, closing := false,
    events := [], table := m.table.map fun p => (p.1, { p.2 with down := none }) }
  let s := { s with rad := { s.rad with job := none, wait := none, busy := 0, fogWait := false, scan := none, rx := none } }
  (s.releaseRx 15).when missed State.flashMissed

/-- The end of the usable time of a radio entry: a frame still arriving is cut, the answer window of a flood and a flash window close
(R254, R264, R269). A keeper's receiver stays on (R258). -/
def State.radioFacetEnd (s : State) (kind : Nat) : State :=
  let s := if s.rad.rx.isSome && !s.isKeeper then
      (({ s with rad := { s.rad with rx := none } }).fset F.RAD_EVT_RX_CUT 1).scanDone
    else s
  let s := if s.msh.window then s.flashMissed else s.abandonWindow
  let s := if kind = kFLOOD then
      s.setMsh fun m => { m with relays := m.relays.take s.heldRelay, relayDue := false, origDue := false }
    else s
  match s.msh.await with
  | some (.own c fl) => if fl == (kind == kFLOOD) then s.attemptFailed c fl loNO_ACK else s
  | some (.join fl) => if fl == (kind == kFLOOD) then s.joinFailed else s
  | some (.down _) => if s.isKeeper then s else s.setMsh fun m => { m with await := none }
  | _ => s

end Sys2Proof.Machine
end

