-- ==== Sys2Proof/Machine/Schedule.lean ====
section
/-! DEFINITION. What the schedule asks for (R60 to R66): the domains an entry needs, its wake and work time, its need, its current, and
the capture spans and budgets (R116). Everything is computed from an image and the tunable values a state holds. -/

namespace Sys2Proof.Machine

/-! Tunable values of a new image (R85, R89) -/

/-- Is the RWP register at active offset `a` metrological (R94)? -/
def isMetro (a : Nat) : Bool :=
  let r := a / 0x10000
  r == 6 || r == 7 || r == 8 || (r == 9 && a < 0x090400)

/-- Every RWP register, active and pending, takes its reset value (R89). -/
def State.resetRwp (s : State) : State :=
  { s with regs := s.regs.filter fun p => !isRwp p.1, badRegs := s.badRegs.filter fun a => !isRwp a }

/-- Write tune entries to both copies (R89). -/
def State.writeTunes (s : State) (l : List (Nat × Nat)) : State :=
  l.foldl (fun t p => (t.setRegN p.1 p.2).setRegN (p.1 + 0x800) p.2) s

/-- Is there a register of an absent unit, or of an absent part of a unit, at this address (R1, R4)? -/
def State.absentReg (s : State) (a : Nat) : Bool :=
  let within := fun (base stride n lo : Nat) => base ≤ a && a < base + stride * n && lo ≤ (a - base) / stride
  let port := fun (base stride : Nat) => within base stride 16 s.ports
  let chord := fun (base stride : Nat) => within base stride 8 s.chords
  let act := fun (f : Nat → Nat → Bool) (base stride : Nat) => f base stride || f (base + 0x800) stride
  let rg := a / 0x10000
  (!s.hasRadio && (rg == 10 || rg == 11)) ||
    (rg == 4 && (port (Reg.AFE_CENSUS 0) 4 || act chord (Reg.AFE_TX 0) 16 || chord (Reg.AFE_TEXP 0) 4 || chord (Reg.AFE_GAIN 0) 4 ||
      chord (Reg.AFE_SPAN 0) 4 || chord (Reg.AFE_FW 0) 4)) ||
    (rg == 5 && (port (Reg.TIU_STRM 0) 4 || within (Reg.TIU_ST_CFG 0) 32 16 s.ports)) ||
    (rg == 6 && (act chord (Reg.ECH_CH 0) 16 || act port (Reg.ECH_PTX 0) 8 || chord (Reg.ECH_CHST 0) 8)) ||
    (rg == 7 && (act chord (Reg.FLW_ZERO 0) 4 || chord (Reg.FLW_CHST 0) 8)) ||
    (rg == 8 && !s.hasPressure && (a == Reg.TMU_P || a == Reg.TMU_U)) ||
    (rg == 9 && !s.hasGas && ((0x090020 ≤ a && a < 0x090410) || (0x090820 ≤ a && a < 0x090C10) || a == Reg.LDG_CORR || a == Reg.LDG_CVUSED)) ||
    (rg == 11 && !s.hasKeeper && ((Reg.MSH_PROV_IDX ≤ a && a ≤ Reg.MSH_PROV_CTL) || a == Reg.MSH_KEVT)) ||
    (rg == 12 && within (Reg.MEM_REMAP 0) 4 16 s.banks)

/-! Domains (R60, R63) -/

/-- The domains an entry needs, as a mask (R60): background classes need none by themselves, and the keeper's radio stays ON. -/
def State.needMask (s : State) (w : Nat) : Nat :=
  let kind := facetKind w
  let arg := facetArg w
  let core := 2 ^ domCORE
  let m :=
    if kind = kSHOT then core + 2 ^ domAFE + 2 ^ domTIU + 2 ^ domCAPT
    else if kind = kCONV then (if (arg % 32).land s.elemMask = 0 then 0 else core + 2 ^ domTMU + 2 ^ domTIU)
    else if kind = kECHO then
      let bank := match s.image with | some i => i.ringBank | none => 2
      core + 2 ^ domECH + 2 ^ domCAPT + 2 ^ domLDG + 2 ^ domMEM bank
    else if kFLASH ≤ kind ∧ kind ≤ kCONTEND then core + 2 ^ domRADIO
    else if kind = kHOST then
      let a := if arg.testBit 0 then core + 2 ^ domAFE + 2 ^ domTIU + 2 ^ domCAPT else 0
      let b := if arg.testBit 1 then core + 2 ^ domTMU + 2 ^ domTIU else 0
      a.lor b
    else if kind = kNVM then core + 2 ^ domNVM
    else 0
  if s.role = roleKEEPER then clrBit m domRADIO else m

/-- The domains that the feasibility check counts a wake for: a background class waits for CORE (R64). -/
def State.wakeMask (s : State) (w : Nat) : Nat :=
  let m := s.needMask w
  if facetKind w = kIDLE ∨ (facetKind w = kHOST ∧ facetArg w = 4) then m.lor (2 ^ domCORE) else m

/-- Is entry A active in every rotation in which entry B is (R61)? -/
def alwaysWith (a b : Nat) : Bool :=
  (facetEvery b + 1) % (facetEvery a + 1) == 0 && facetPhase b % (facetEvery a + 1) == facetPhase a

/-- The entry whose span ends where facet n begins. -/
def entryBefore (fs : List Nat) (n : Nat) : Option Nat :=
  (List.range n).find? fun m => facetKind (fs.getD m 0) != kCONTINUE && m + facetSpan (fs.getD m 0) == n

/-- Domains of the entry at facet n that the entry before it may keep ON (R63). -/
def State.keptOn (s : State) (fs : List Nat) (n : Nat) : Nat :=
  match entryBefore fs n with
  | some m => if alwaysWith (fs.getD m 0) (fs.getD n 0) then s.needMask (fs.getD m 0) else 0
  | none => 0

/-- Largest wake time in µs of a mask of domains (R63, R334). -/
def maskWake (m : Nat) : Nat := ((maskList 27 m).map wakeUs).foldl max 0

/-- Wake time in µs of the entry at facet n over its worst rotation (R64). -/
def State.wakeOf (s : State) (fs : List Nat) (n : Nat) : Nat :=
  let w := s.wakeMask (fs.getD n 0)
  let k := s.keptOn fs n
  maskWake ((List.range 27).foldl (fun (m : Nat) (d : Nat) => if k.testBit d then clrBit m d else m) w)

/-! Usable time (R64) -/

/-- Usable time of the entry at facet n in LFT on the nominal facets, k the rotation exponent. -/
def usableLft (fs : List Nat) (k n : Nat) : Nat :=
  let sp := facetSpan (fs.getD n 0)
  sp * (16 * 2 ^ k) - (if n = 0 then 2 else 0) - (if n + sp = 64 then 1 else 0)

/-- Usable time in whole µs, rounded down. -/
def usableUs (fs : List Nat) (k n : Nat) : Nat := usableLft fs k n * lftUnits / 64000

/-! Spans (R116) -/

/-- Capture span of a chord in µs at load. -/
def State.chordSpan (s : State) (c : ChordCfg) : Nat :=
  spanUs (s.fget (F.AFE_WIN_TMAX c.chord)) (s.tRR c) (s.decimOf c)

/-- Span of a group. -/
def State.groupSpan (s : State) (l : List ChordCfg) : Nat := (l.map s.chordSpan).foldl max 0

/-- Chords of a mask. -/
def State.chordsIn (s : State) (m : Nat) : List ChordCfg := s.chordCfgs.filter fun c => m.testBit c.chord

/-- The host chord set. -/
def State.hostSet (s : State) : List ChordCfg := s.chordCfgs.filter fun c => c.host % 2 == 1

/-- Budget of a chord in µs (R116). -/
def State.chordBudget (s : State) (fs : List Nat) (k : Nat) (c : ChordCfg) : Nat :=
  let cap := fun (n : Nat) => min 1500 (usableUs fs k n - s.wakeOf fs n - 10)
  let inShot := (List.range 64).filter fun n => facetKind (fs.getD n 0) == kSHOT && (facetArg (fs.getD n 0)).testBit c.chord
  match inShot with
  | n :: _ => cap n
  | [] =>
    if c.host % 2 = 1 then
      (((List.range 64).filter fun n => facetKind (fs.getD n 0) == kHOST && (facetArg (fs.getD n 0)).testBit 0).map cap).foldl min 1500
    else 1500

/-! Work and need (R64) -/

/-- Work time in µs of an ECHO entry (R145): over the chords of its mask, or over the host chord set in host-shot mode. -/
def State.echoWork (s : State) (arg : Nat) : Nat :=
  let l := if s.hostShots then s.hostSet else s.chordsIn arg
  (l.map fun c => s.echoUs c (s.decimOf c)).foldl max 0

/-- Work time in µs of a radio entry (R260). -/
def State.radioWork (s : State) (kind : Nat) : Nat :=
  let l := s.light
  if kind = kFLASH then
    let w0 := winW0us (s.fget F.MSH_WIN_BASE) (s.fget F.MSH_WIN_PPM) l.f (match s.image with | some i => 1024 * 2 ^ i.k | none => 16384)
    let body := tBody s.phy s.fecOn 36
    if s.role = roleKEEPER then 600 + tPre s.phy s.preLen + body else tPre s.phy s.preLen + 2 * w0 + body
  else if kind = kFLOOD then 6000 * s.ttl + 10000
  else 5000

/-- Work time in µs of an entry. -/
def State.workOf (s : State) (w : Nat) : Nat :=
  let kind := facetKind w
  let arg := facetArg w
  if kind = kSHOT then s.groupSpan (s.chordsIn arg) + 10
  else if kind = kCONV then
    let m := (arg % 32).land s.elemMask
    if m = 0 then 0 else s.convUs m s.navg
  else if kind = kECHO then s.echoWork arg
  else if kFLASH ≤ kind ∧ kind ≤ kCONTEND then s.radioWork kind
  else if kind = kHOST then
    max (if arg.testBit 0 then s.groupSpan s.hostSet + 10 else 0)
      (if arg.testBit 1 ∧ s.elemMask ≠ 0 then s.convUs s.elemMask s.navg else 0)
  else if kind = kNVM then 1300
  else 0

/-- Need in µs of the entry at facet n (R64). -/
def State.needOf (s : State) (fs : List Nat) (n : Nat) : Nat := s.wakeOf fs n + s.workOf (fs.getD n 0)

/-! Current (R65), in 0.1 mA -/

/-- Transmit current at a power setting. -/
def txCurrent (p : Int) : Nat := if p ≤ 0 then 120 else if p ≤ 10 then 240 else if p ≤ 14 then 350 else 920

/-- The larger of the two transmit powers. -/
def State.topPower (s : State) : Int :=
  match s.radio with
  | some r => max r.txPwr r.fogPwr
  | none => -10

/-- Current of a shot of n chords: two ports receive per chord. -/
def shotCurrent (n : Nat) : Nat := 2 * n * 12 + 30 + 25 + 3

/-- Current of an entry. -/
def State.currentOf (s : State) (w : Nat) : Nat :=
  let kind := facetKind w
  let arg := facetArg w
  let radio := decide (kFLASH ≤ kind ∧ kind ≤ kCONTEND)
  let part :=
    if kind = kSHOT then shotCurrent (s.chordsIn arg).length
    else if kind = kCONV then 10 + 25
    else if kind = kECHO then 6 * (s.chordsIn arg).length + 8 + 3
    else if radio then txCurrent s.topPower
    else if kind = kHOST then
      max (if arg.testBit 0 then shotCurrent s.hostSet.length else 0) (if arg.testBit 1 then 35 else 0) +
        (if arg.testBit 2 then 15 else 0)
    else if kind = kNVM then 40
    else 15
  25 + part + (if s.role = roleKEEPER ∧ radio = false then txCurrent s.topPower else 0)

/-- The fog transmission current. -/
def State.fogCurrent (s : State) : Nat :=
  match s.radio with
  | some r => 25 + txCurrent r.fogPwr
  | none => 0

end Sys2Proof.Machine
end

