-- ==== Sys2Proof/Machine/Validate.lean ====
section
/-! DEFINITION. Validation of a structure image (R77, R81 to R88, R241, R257): the checks in ascending order of error code, each with
the item STI_ERR_AT names. -/

namespace Sys2Proof.Machine

/-! Load errors (R87) -/

abbrev leNONE : Nat := 0x00
abbrev leSOURCE : Nat := 0x01
abbrev leIMG_LENGTH : Nat := 0x02
abbrev leIMG_HEADER : Nat := 0x03
abbrev leIMG_CRC : Nat := 0x04
abbrev leIMG_PART : Nat := 0x05
abbrev leSECT_FORM : Nat := 0x06
abbrev leSECT_MISSING : Nat := 0x07
abbrev leMETRO_CRC : Nat := 0x08
abbrev leFIELD_RANGE : Nat := 0x09
abbrev leABSENT_UNIT : Nat := 0x0A
abbrev lePORT_CONFLICT : Nat := 0x0B
abbrev leCODE_CONFLICT : Nat := 0x0C
abbrev leDUTY_CONFLICT : Nat := 0x0D
abbrev leTOPOLOGY : Nat := 0x0E
abbrev leMEMORY_CONFLICT : Nat := 0x0F
abbrev leSCHED_FORM : Nat := 0x10
abbrev leSCHED_ORDER : Nat := 0x11
abbrev leSCHED_TIME : Nat := 0x12
abbrev leSCHED_CURRENT : Nat := 0x13
abbrev leSEALED : Nat := 0x14

/-- A load error with the offset and entry that STI_ERR_AT shows. -/
structure LoadErr where
  code : Nat
  off : Nat := 0
  entry : Nat := 0
  deriving DecidableEq, Repr

/-- A list of checks of one code, in the order in which a failing one is reported: passed, offset, entry. -/
abbrev Checks := List (Bool × Nat × Nat)

/-- The first failing check. -/
def firstBad (code : Nat) (l : Checks) : Option LoadErr :=
  (l.find? fun c => !c.1).map fun c => ⟨code, c.2.1, c.2.2⟩

/-- Offset of a section, or where it would stand (R87). -/
def sectOff (l : List Sect) (len t : Nat) : Nat :=
  match findSect l t with
  | some x => x.off
  | none =>
    match l.find? fun x => t < x.type with
    | some x => x.off
    | none => len - 4

/-! Header and sections (R81 to R83) -/

/-- Required value length of a known section, none for an unknown type. -/
def sectLen (x : Sect) : Option Nat :=
  let c := fun (n : Nat) => leAt x.val 0 n
  match x.type with
  | 0x0001 => some 4
  | 0x0002 => some 256
  | 0x0003 => some 12
  | 0x0004 => some (12 + 12 * leAt x.val 6 1)
  | 0x0005 => some (16 + leAt x.val 1 1)
  | 0x0006 => some (4 + 8 * c 2)
  | 0x0101 => some 4
  | 0x0102 => some (4 + 16 * c 1)
  | 0x0103 => some (4 + 2 * c 1)
  | 0x0104 => some 12
  | 0x0105 => some 8
  | 0x0106 => some (4 + 8 * c 1)
  | 0x0107 => some (4 + 8 * c 2)
  | t => if 0xF000 ≤ t ∧ t ≤ 0xFFFF then some x.val.length else none

/-- Role, MAC mode and tariff source as the sections carry them; 0 where the section is absent. -/
def roleIn (l : List Sect) : Nat := leAt (sectVal l 0x0004) 0 1
def macIn (l : List Sect) : Nat := bitsOf (leAt (sectVal l 0x0101) 0 4) 4 2
def tariffIn (l : List Sect) : Nat := leAt (sectVal l 0x0105) 2 1

/-- SECT_FORM: the sections in order, each with its form. -/
def sectForm (b : List Byte) (l : List Sect) (cut : Option Nat) : Checks :=
  let len := leAt b 8 4
  let pad := fun (x : Sect) =>
    let n := x.val.length
    (sliceBytes b (x.off + 4 + n) ((n + 3) / 4 * 4 - n)).all (· == 0)
  let ordered := fun (x : Sect) => (l.filter fun y => y.off < x.off).all fun y => y.type < x.type
  let absent := fun (x : Sect) => (x.type == 0x0005 && roleIn l == 0) || (x.type == 0x0106 && tariffIn l != 2)
  (decide (l.length = leAt b 0x0E 2), 0, 0) ::
    (l.map fun x => (ordered x && sectLen x == some x.val.length && pad x && !absent x, x.off, 0)) ++
    [(cut.isNone, cut.getD len, 0)]

/-- SECT_MISSING. -/
def sectMissing (l : List Sect) (len : Nat) : Checks :=
  let need := [0x0001, 0x0002, 0x0003] ++ (if macIn l ≠ 0 then [0x0004] else []) ++ (if roleIn l ≠ 0 then [0x0005] else []) ++
    [0x0101, 0x0102, 0x0104, 0x0105] ++ (if tariffIn l = 2 then [0x0106] else [])
  need.map fun t => ((findSect l t).isSome, sectOff l len t, 0)

/-! FIELD_RANGE (R84, R85, R241, R257) -/

/-- A field check inside one section: passed and entry. -/
abbrev Fields := List (Bool × Nat)

/-- Bytes from `lo` up to `hi` zero. -/
def zeroed (v : List Byte) (lo hi : Nat) : Bool := (sliceBytes v lo (hi - lo)).all (· == 0)

/-- Greatest common divisor 1? -/
def coprime (a b : Nat) : Bool := Nat.gcd a b == 1

def fieldsMemory (img : Image) (v : List Byte) : Fields :=
  let keeper := match img.radio with | some r => r.role == roleKEEPER | none => false
  [(decide (2 ≤ img.ringBank ∧ img.ringBank ≤ 15), 0), (decide (1 ≤ img.ringBanks ∧ img.ringBanks ≤ 8), 0), (img.ringRots != 0, 0),
   (keeper || (img.keeperBank == 0 && img.keeperBanks == 0), 0), (zeroed v 6 8, 0), (img.retain % 4 == 3, 0), (zeroed v 10 12, 0)]

/-- Limits of a band in kHz. -/
def bandEdges (band : Nat) : Nat × Nat := if band = 0 then (863000, 870000) else (902000, 928000)

/-- The RADIO section. HIGH_KHZ, like LOW_KHZ, lies inside BAND (DESIGN CHOICE, log 191). -/
def fieldsRadio (img : Image) (r : RadioCfg) (v : List Byte) : Fields :=
  let e := bandEdges r.band
  let mac := bitsOf img.duty 4 2
  [(decide (r.role ≤ 2), 0), (decide (r.phy ≤ 3) || isWm r.phy, 0),
   (!(isWm r.phy && (r.band == 1 || r.role != 0)) && !(mac == 0 && r.role == 0 && !isWm r.phy), 0),
   (r.opts ≤ 3 && (!isWm r.phy || r.opts == 0), 0), (r.band ≤ 1, 0), (decide (-10 ≤ r.txPwr ∧ r.txPwr ≤ 20), 0),
   (decide (-10 ≤ r.fogPwr ∧ r.fogPwr ≤ 20), 0), (decide (1 ≤ r.subs.length ∧ r.subs.length ≤ 8), 0), (r.fogShare ≤ 50, 0),
   (zeroed v 8 12, 0)] ++
  (List.range r.subs.length).map fun i =>
    match r.subs[i]? with
    | none => (true, i)
    | some s =>
      let apart := (r.subs.take i).all fun t => s.high ≤ t.low || t.high ≤ s.low
      (e.1 ≤ s.low && s.high ≤ e.2 && s.low < s.high && apart && 1 ≤ s.limit && s.limit ≤ 10000 && s.lbt ≤ 1 &&
        zeroed v (23 + 12 * i) (24 + 12 * i), i)

def fieldsLight (s : State) (r : RadioCfg) (l : LightCfg) (v : List Byte) : Fields :=
  [(decide (1 ≤ l.f ∧ l.f ≤ 64), 0), (decide (1 ≤ l.n ∧ l.n ≤ 64), 0), (l.hop < l.n && coprime l.hop l.n, 0), (l.start < l.n, 0),
   (l.cell != 0 && l.cell != 0xFFFFFFFF, 0),
   (if r.role = roleKEEPER then decide (1 ≤ l.maxAssoc ∧ l.maxAssoc ≤ 2 ^ s.assocLog2) else l.maxAssoc == 0, 0),
   (decide (4 ≤ l.superv ∧ l.superv ≤ 4096), 0), (zeroed v 12 16, 0)] ++
  (List.range l.map.length).map fun j =>
    let n := l.map.getD j 0
    (chanOk r.phy r.band n && (r.subOf n).isSome && !touchesUncapped r.phy r.band n && !(l.map.take j).contains n, j)

/-- A TUNE or MTUNE section (R85). DESIGN CHOICE (log 148): a register of a part that the unit lacks counts as lying in no present
unit. -/
def fieldsTune (s : State) (metro : Bool) (l : List (Nat × Nat)) (v : List Byte) : Fields :=
  [(decide (1 ≤ l.length ∧ l.length ≤ 1024), 0), (zeroed v 2 4, 0)] ++
  (List.range l.length).map fun p =>
    let e := l.getD p (0, 0)
    let row := findReg e.1
    let good := match row with
      | some r => r.rwp && isMetro e.1 == metro && !s.absentReg e.1 && e.2.land (0xFFFFFFFF - r.rw) == 0
      | none => false
    (good && (l.take p).all fun q => q.1 < e.1, p)

def fieldsChords (img : Image) (v : List Byte) : Fields :=
  let codeMax := min 16 (8 + img.codes.length)
  [(decide (1 ≤ img.chords.length ∧ img.chords.length ≤ 8), 0), (zeroed v 1 4, 0)] ++
  (List.range img.chords.length).map fun i =>
    match img.chords[i]? with
    | none => (true, i)
    | some c =>
      ((img.chords.take i).all (fun d => d.chord < c.chord) && c.portA ≤ 15 && c.portB ≤ 15 && c.path ≤ 2 && c.codeA < codeMax &&
        c.codeB < codeMax && c.geom ≤ 7 && c.burst ≤ 1 && 40000 ≤ c.freq && c.freq ≤ 4000000 && c.decim ≤ 4 && c.ret ≤ 1 &&
        c.host ≤ 1 && zeroed v (19 + 16 * i) (20 + 16 * i), i)

def fieldsSensors (img : Image) (v : List Byte) : Fields :=
  ((List.range 4).map fun t =>
    let w := img.sensWires.getD t 0
    (img.sensTypes.getD t 0 ≤ 3 && (w.land 0xCE) == 0 && bitsOf w 4 2 != 3, 0)) ++ [(decide (img.press ≤ 1), 0), (zeroed v 9 12, 0)]

def fieldsLedger (img : Image) (v : List Byte) : Fields :=
  [(decide (1 ≤ img.kind ∧ img.kind ≤ 4), 0), (img.flowPos ≤ 1 && (img.kind != 4 || img.flowPos == 0), 0), (img.tariffSrc ≤ 2, 0),
   (img.gasZ ≤ 1 && (img.kind == 4 || img.gasZ == 0), 0), (img.pulsSrc.getD 0 0 ≤ 6, 0), (img.pulsSrc.getD 1 0 ≤ 6, 0), (zeroed v 6 8, 0)]

def fieldsTariff (img : Image) (v : List Byte) : Fields :=
  [(decide (1 ≤ img.tariff.length ∧ img.tariff.length ≤ 32), 0), (zeroed v 1 4, 0)] ++
  (List.range img.tariff.length).map fun i =>
    match img.tariff[i]? with
    | none => (true, i)
    | some e =>
      (e.months.land 0xE001 == 0 && e.wdays < 128 && e.fromHour ≤ 23 && e.fromHour < e.toHour && e.toHour ≤ 24 && e.bin ≤ 3 &&
        zeroed v (10 + 8 * i) (12 + 8 * i), i)

/-- Does facet `n` lie inside the span of an earlier entry (R60, R84)? -/
def coveredFacet (f : List Nat) (n : Nat) : Bool :=
  n < (List.range n).foldl (fun e m => if e ≤ m then m + facetSpan (f.getD m 0) else e) 0

/-- The field checks of one section. -/
def fieldsOf (s : State) (img : Image) (x : Sect) : Fields :=
  let v := x.val
  match x.type with
  | 0x0001 => [(img.k ≤ 7, 0), (zeroed v 2 4, 0)]
  | 0x0002 => (List.range 64).map fun n =>
      let w := img.facets.getD n 0
      (w < 2 ^ 28 && (w == 0 || !coveredFacet img.facets n), n)
  | 0x0003 => fieldsMemory img v
  | 0x0004 => match img.radio with | some r => fieldsRadio img r v | none => []
  | 0x0005 => match img.radio, img.light with | some r, some l => fieldsLight s r l v | _, _ => []
  | 0x0006 => fieldsTune s false img.tune v
  | 0x0101 => [(img.duty < 128 && bitsOf img.duty 4 2 != 3, 0)]
  | 0x0102 => fieldsChords img v
  | 0x0103 => [(decide (1 ≤ img.codes.length ∧ img.codes.length ≤ 8), 0), (zeroed v 1 4, 0)]
  | 0x0104 => fieldsSensors img v
  | 0x0105 => fieldsLedger img v
  | 0x0106 => fieldsTariff img v
  | 0x0107 => fieldsTune s true img.mtune v
  | _ => []

def fieldRange (s : State) (img : Image) (l : List Sect) : Checks :=
  (l.map fun x => (fieldsOf s img x).map fun c => (c.1, x.off, c.2)).flatten

/-! Cross-section rules (R6, R86, R32, R106) -/

/-- Banks the ring and the keeper tables use. -/
def ringList (img : Image) : List Nat := (List.range img.ringBanks).map (img.ringBank + ·)
def keeperList (img : Image) : List Nat := (List.range img.keeperBanks).map (img.keeperBank + ·)

def absentUnit (s : State) (img : Image) (l : List Sect) (len : Nat) : Checks :=
  let off := sectOff l len
  ((List.range 64).map fun n =>
    let w := img.facets.getD n 0
    let k := facetKind w
    (!((k == kSHOT || k == kECHO) && facetArg w / 2 ^ s.chords != 0), off 0x0002, n)) ++
  [((img.keeperBank :: ringList img ++ keeperList img).all (· < s.banks) && img.retain / 2 ^ s.banks == 0, off 0x0003, 0)] ++
  (match img.radio with
    | some r => [(s.hasRadio && !(r.role == roleKEEPER && !s.hasKeeper), off 0x0004, 0)]
    | none => []) ++
  ((List.range img.chords.length).map fun i =>
    match img.chords[i]? with
    | some c => (c.chord < s.chords && c.portA < s.ports && c.portB < s.ports, off 0x0102, i)
    | none => (true, off 0x0102, i)) ++
  [(img.press == 0 || s.hasPressure, off 0x0104, 0), (s.hasGas || (img.kind != 4 && img.pulsSrc.all (· ≤ 4)), off 0x0105, 0)]

def portConflict (img : Image) (off : Nat) : Checks :=
  (List.range img.chords.length).map fun i =>
    match img.chords[i]? with
    | some c =>
      (c.portA != c.portB && (img.chords.take i).all fun d =>
        d.portA != c.portA && d.portA != c.portB && d.portB != c.portA && d.portB != c.portB, off, i)
    | none => (true, off, i)

/-- The prefixes of a firing group, each reported at its last chord's entry (R87). -/
def groupChecks (img : Image) (off : Nat) (g : List ChordCfg) : Checks :=
  (List.range g.length).map fun j =>
    let last := g[j]?
    let idx := (img.chords.takeWhile fun c => some c != last).length
    (groupOk img.codes (g.take (j + 1)), off, idx)

def codeConflict (img : Image) (off : Nat) : Checks :=
  let shots := (List.range 64).filter fun n => facetKind (img.facets.getD n 0) == kSHOT
  let groups := shots.map fun n => img.chords.filter fun c => (facetArg (img.facets.getD n 0)).testBit c.chord
  ((groups ++ [img.chords.filter fun c => c.host % 2 == 1]).map (groupChecks img off)).flatten

/-- The duty bits of the image (R36). -/
def dutyBit (img : Image) (i : Nat) : Bool := img.duty.testBit i

def dutyConflict (s : State) (img : Image) (off : Nat) : Checks :=
  let shot := dutyBit img 0
  let echo := dutyBit img 1
  let flow := dutyBit img 2
  let mac := bitsOf img.duty 4 2
  let role := match img.radio with | some r => r.role | none => 0
  [((flow || (!shot && !echo)) && (!echo || flow) && (mac == 0 || role == 0) && (mac == 0 || s.hasRadio), off, 0)]

/-- Configured thermometers of a role. -/
def rolesIn (img : Image) (role : Nat) : Nat :=
  ((List.range 4).filter fun t => img.sensTypes.getD t 0 != 0 && bitsOf (img.sensWires.getD t 0) 4 2 == role).length

/-- Does the ledger kind produce a pulse source (R86, R215)? -/
def pulseOk (kind src : Nat) : Bool :=
  match src with
  | 3 => kind == 1 || kind == 3
  | 4 => kind == 2 || kind == 3
  | 5 => kind == 4
  | 6 => kind == 4
  | _ => true

/-- Four-wire and TYPE rules of the thermometers (R194). -/
def wiresOk (img : Image) : Bool :=
  let type := fun t => img.sensTypes.getD t 0
  let conf := (List.range 4).filter fun t => type t != 0
  let four := conf.filter fun t => (img.sensWires.getD t 0).testBit 0
  four.all (fun t => t % 2 == 0 && type (t + 1) == 0) && conf.all fun t => conf.all fun u => type t == type u

def topology (img : Image) (offSens offLed : Nat) : Checks :=
  let ok := if img.kind = 4 then img.press == 1 && rolesIn img 0 ≥ 1 else rolesIn img 0 == 1 && rolesIn img 1 == 1
  [(ok && wiresOk img, offSens, 0), (img.pulsSrc.all (pulseOk img.kind), offLed, 0)]

def memoryConflict (img : Image) (off : Nat) : Checks :=
  let ring := ringList img
  let keep := keeperList img
  let keeper := match img.radio with | some r => r.role == roleKEEPER | none => false
  let maxA := match img.light with | some l => l.maxAssoc | none => 0
  let room := !keeper || 1 + ceilDiv maxA 512 ≤ img.keeperBanks
  [((ring ++ keep).all (fun b => 2 ≤ b && img.retain.testBit b) && ring.all (fun b => !keep.contains b) && room &&
    img.ringRots * img.chords.length * 48 ≤ img.ringBanks * 32768, off, 0)]

/-! The schedule (R66, R257) -/

/-- The facets as ROT_FACETn will read: facets inside an earlier span are continuation (R60). -/
def expandFacets (f : List Nat) : List Nat :=
  (List.range 64).map fun n => if coveredFacet f n && f.getD n 0 == 0 then kCONTINUE else f.getD n 0

/-- Facets of a kind. -/
def facetsOf (fs : List Nat) (kind : Nat) : List Nat := (List.range 64).filter fun n => facetKind (fs.getD n 0) == kind

/-- At most `most` entries of a kind: the next one fails. -/
def atMost (fs : List Nat) (kind most off : Nat) : Checks := ((facetsOf fs kind).drop most).map fun n => (false, off, n)

/-- At least one entry of a kind. -/
def atLeast (fs : List Nat) (kind off : Nat) : Checks := [(!(facetsOf fs kind).isEmpty, off, 0xFF)]

/-- Put checks in order of their facet, missing entries last. -/
def byEntry (l : Checks) : Checks := (l.filter fun c => !c.1).mergeSort fun a b => a.2.2 ≤ b.2.2

/-- The radio windows of an image (R257). -/
def radioWindows (img : Image) (fs : List Nat) (off : Nat) : Checks :=
  let none4 := atMost fs kFLASH 0 off ++ atMost fs kCONTEND 0 off ++ atMost fs kFLOOD 0 off
  match img.radio with
  | none => none4 ++ atMost fs kDATA 0 off
  | some r =>
    if r.role ≠ 0 then
      atMost fs kFLASH 1 off ++ atLeast fs kFLASH off ++ atLeast fs kDATA off ++ atMost fs kCONTEND 1 off ++ atMost fs kFLOOD 1 off
    else none4 ++ atLeast fs kDATA off

/-- SCHED_FORM of one facet. -/
def facetForm (s : State) (img : Image) (fs : List Nat) (n : Nat) : Bool :=
  let w := img.facets.getD n 0
  let kind := facetKind w
  let inside := (List.range n).any fun m => facetKind (fs.getD m 0) != kCONTINUE && m + facetSpan (fs.getD m 0) > n
  let f := match img.light with | some l => l.f | none => 0
  let undefined := (List.range s.chords).any fun c => (facetArg w).testBit c && !(img.chords.any fun x => x.chord == c)
  (kind ≤ 9) && n + facetSpan w ≤ 64 && !(inside && w != 0) && facetPhase w < facetEvery w + 1 &&
    !((kind == kSHOT || kind == kECHO) && (facetEvery w != 0 || undefined)) && !(kind == kFLASH && facetEvery w + 1 != f) &&
    !(kind == kSHOT && dutyBit img 0) && !(kind == kECHO && dutyBit img 1) && !(kind == kCONV && dutyBit img 3)

def schedForm (s : State) (img : Image) (fs : List Nat) (off : Nat) : Checks :=
  byEntry ((List.range 64).map (fun n => (facetForm s img fs n, off, n)) ++ radioWindows img fs off)

/-- Configured elements of the image. -/
def elemsIn (img : Image) : Nat := maskOf ((List.range 4).filter fun t => img.sensTypes.getD t 0 != 0) + 16 * b2n (img.press == 1)

/-- Exactly one entry of a kind with this chord: a missing one, or the later one. -/
def onceWith (fs : List Nat) (kind c off : Nat) : Checks :=
  let l := (facetsOf fs kind).filter fun n => (facetArg (fs.getD n 0)).testBit c
  (!l.isEmpty, off, 0xFF) :: (l.drop 1).map fun n => (false, off, n)

def schedOrder (img : Image) (fs : List Nat) (off : Nat) : Checks :=
  let hostShot := dutyBit img 0
  let hostEcho := dutyBit img 1
  let host := fun (bit : Nat) => (facetsOf fs kHOST).any fun n => (facetArg (fs.getD n 0)).testBit bit
  let chords := img.chords.map (·.chord)
  let shots := if hostShot then [] else (chords.map fun c => onceWith fs kSHOT c off).flatten
  let echoes :=
    if hostEcho then []
    else if hostShot then
      (img.chords.filter fun c => c.host % 2 == 1).map fun c =>
        ((facetsOf fs kECHO).any (fun n => (facetArg (fs.getD n 0)).testBit c.chord), off, 0xFF)
    else (chords.map fun c =>
      let late := match ((facetsOf fs kSHOT).filter fun n => (facetArg (fs.getD n 0)).testBit c) with
        | m :: _ => ((facetsOf fs kECHO).filter fun n => (facetArg (fs.getD n 0)).testBit c).map fun n =>
            (decide (m + facetSpan (fs.getD m 0) ≤ n), off, n)
        | [] => []
      onceWith fs kECHO c off ++ late).flatten
  let conv := if dutyBit img 3 then [(host 1, off, 0xFF)]
    else [((facetsOf fs kCONV).any (fun n => (facetArg (fs.getD n 0) % 32).land (elemsIn img) != 0), off, 0xFF)]
  let hshot := if hostShot then [(host 0, off, 0xFF)] else []
  byEntry (shots ++ echoes ++ conv ++ hshot ++ atLeast fs kNVM off)

/-- SCHED_TIME: entries, then chords whose span exceeds 1,500 µs; `t` holds the image and its tunables. -/
def schedTime (t : State) (img : Image) (fs : List Nat) (off offChords : Nat) : Checks :=
  ((List.range 64).map fun n =>
    (facetKind (fs.getD n 0) == kCONTINUE || decide (t.needOf fs n * 64000 ≤ usableLft fs img.k n * lftUnits), off, n)) ++
  (List.range img.chords.length).map fun i =>
    match img.chords[i]? with
    | some c => (decide (t.chordSpan c ≤ 1500), offChords, i)
    | none => (true, offChords, i)

def schedCurrent (t : State) (img : Image) (fs : List Nat) (offRot off offRadio : Nat) : Checks :=
  let top := img.ceiling * 10
  (decide (10 ≤ img.ceiling), offRot, 0) ::
    ((List.range 64).map fun n => (facetKind (fs.getD n 0) == kCONTINUE || decide (t.currentOf (fs.getD n 0) ≤ top), off, n)) ++
    [(decide (t.fogCurrent ≤ top), offRadio, 0)]

/-- The state as the image would leave its structural and tunable values (R64, R89, R106, R260). -/
def State.withImage (s : State) (img : Image) : State :=
  let t := ({ s.resetRwp with image := some img }).writeTunes (img.tune ++ img.mtune)
  (t.setRegN Reg.SYS_DUTY img.duty).fset F.ROT_CFG_K img.k

/-! SEALED (R88) -/

/-- The first metrological section that differs from the active STRUCT component's. -/
def sealedErr (l active : List Sect) (len : Nat) : Option LoadErr :=
  let mine := l.filter fun x => metroType x.type
  let theirs := active.filter fun x => metroType x.type
  let types := ((List.range 7).map (0x0101 + ·))
  match types.find? fun t => (findSect mine t).map (·.val) != (findSect theirs t).map (·.val) with
  | some t => some ⟨leSEALED, sectOff l len t, 0⟩
  | none => none

/-! The whole validation -/

/-- Check codes 0x02 to 0x13 on the bytes of an image (R87): the first that fails. -/
def State.checkImage (s : State) (b : List Byte) : Option LoadErr :=
  let len := leAt b 8 4
  if len % 4 ≠ 0 ∨ len < 36 ∨ 16384 < len then some ⟨leIMG_LENGTH, 0, 0⟩
  else if leAt b 0 4 ≠ 0x49535654 ∨ leAt b 4 2 ≠ 1 ∨ leAt b 6 2 ≠ 32 ∨ leAt b 0x1C 4 ≠ 0 then some ⟨leIMG_HEADER, 0, 0⟩
  else if crc32 (b.take (len - 4)) ≠ leAt b (len - 4) 4 then some ⟨leIMG_CRC, 0, 0⟩
  else if leAt b 0x0C 2 ≠ 0 ∧ leAt b 0x0C 2 ≠ s.sysId % 65536 then some ⟨leIMG_PART, 0, 0⟩
  else
    let cut := sectionsOf b len
    let l := cut.1
    match firstBad leSECT_FORM (sectForm b l cut.2) with
    | some e => some e
    | none =>
      match firstBad leSECT_MISSING (sectMissing l len) with
      | some e => some e
      | none =>
        if metroCrc l ≠ leAt b 0x18 4 then some ⟨leMETRO_CRC, 0, 0⟩
        else
          let img := readImage b
          let off := sectOff l len
          match firstBad leFIELD_RANGE (fieldRange s img l) with
          | some e => some e
          | none =>
            let fs := expandFacets img.facets
            let t := s.withImage img
            [firstBad leABSENT_UNIT (absentUnit s img l len), firstBad lePORT_CONFLICT (portConflict img (off 0x0102)),
              firstBad leCODE_CONFLICT (codeConflict img (off 0x0102)), firstBad leDUTY_CONFLICT (dutyConflict s img (off 0x0101)),
              firstBad leTOPOLOGY (topology img (off 0x0104) (off 0x0105)), firstBad leMEMORY_CONFLICT (memoryConflict img (off 0x0003)),
              firstBad leSCHED_FORM (schedForm s img fs (off 0x0002)), firstBad leSCHED_ORDER (schedOrder img fs (off 0x0002)),
              firstBad leSCHED_TIME (schedTime t img fs (off 0x0002) (off 0x0102)),
              firstBad leSCHED_CURRENT (schedCurrent t img fs (off 0x0001) (off 0x0002) (off 0x0004))].findSome? id

/-- The STRUCT component of the active set: its offset in the NVM window and length, where a set stands in the active slot. -/
def State.activeStruct (s : State) : Option (Nat × Nat) :=
  if s.hasManifest s.activeBase then some (s.activeBase + s.compOffset s.activeBase 4, s.compLength s.activeBase 4) else none

/-- Sections of the active STRUCT component. -/
def State.activeSections (s : State) : List Sect :=
  match s.activeStruct with
  | some (a, n) =>
    let b := s.peek a (min n 16384)
    (sectionsOf b (leAt b 8 4)).1
  | none => []

/-- Does the check of the sealed sections read the active STRUCT component (R88)? -/
def State.readsActive (s : State) (b : List Byte) (fromStruct : Bool) : Bool :=
  s.fget F.UPD_LIFE_STATE == 3 && !fromStruct && (s.checkImage b).isNone

/-- The device reads the active STRUCT component (R318, R320). -/
def State.touchStruct (s : State) : State := match s.activeStruct with
  | some p => s.touch p.1 (min p.2 16384)
  | none => s

/-- Validate the bytes of a load (R87, R88); `fromStruct` says that the source is the active STRUCT component. -/
def State.validate (s : State) (b : List Byte) (fromStruct : Bool) : Option LoadErr :=
  match s.checkImage b with
  | some e => some e
  | none =>
    if s.fget F.UPD_LIFE_STATE = 3 ∧ fromStruct = false then
      sealedErr (sectionsOf b (leAt b 8 4)).1 s.activeSections (leAt b 8 4)
    else none

/-- Is a source range inside its window and clear of BANK0 and BANK1 (R77)? -/
def State.sourceOk (s : State) (a n : Nat) : Bool :=
  let sram := 0x110000 ≤ a && a + n ≤ 0x100000 + 0x8000 * s.banks
  let nvm := 0x200000 ≤ a && a + n ≤ 0x300000
  sram || nvm

/-! The copy of the source (R77) -/

/-- First byte of the staged copy (R77). -/
abbrev stagedBase : Nat := 0x10C000

/-- Write marked bytes from a word boundary on, a word at a time; a word that holds a marked byte becomes poison (R321, R323). -/
def State.writeMarked (s : State) (a : Nat) (l : List (Byte × Bool)) : Nat → State
  | 0 => s
  | n + 1 =>
    if l.isEmpty then s else
    let now := l.take 16
    let bs := now.map (·.1)
    let bad := now.any (·.2)
    let s := if now.length < 16 then s.mergeWrite a bs bad
      else if bad then s.writePoison a (bs.map (·.toNat)) else s.writeWord a (bs.map (·.toNat))
    s.writeMarked (a + 16) (l.drop 16) n

/-- The copy of a source of `n` bytes at `a` into the staged copy, as much as that holds (R77, R321); the words past it are read all the
same. A range, length or word that R87 refuses with SOURCE is remembered for the end of the validation. -/
def State.stage (s : State) (a n : Nat) (struct : Bool) : State :=
  if s.sourceOk a n = false ∨ n < 12 then { s with srcBad := true, srcStruct := struct }
  else
    let r := s.readMarked a n .copy
    let t := r.2.writeMarked stagedBase (r.1.take 16384) 1024
    { t with srcBad := r.1.any (·.2) || leAt (r.1.map (·.1)) 8 4 != n, srcStruct := struct }

/-- The copy of the active STRUCT component; no source where no set stands in the active slot. -/
def State.stageStruct (s : State) : State :=
  match s.activeStruct with
  | some p => s.stage p.1 p.2 true
  | none => { s with srcBad := true, srcStruct := true }

/-- Validation of the staged copy (R87): a word of it that is found uncorrectable counts as an unreadable word of the source. -/
def State.checkStaged (s : State) : Option LoadErr × State :=
  if s.srcBad then (some ⟨leSOURCE, 0, 0⟩, s)
  else
    let r := s.readBytes stagedBase (min 16384 (s.peekLe (stagedBase + 8) 4)) .device
    if r.2.1 then (some ⟨leSOURCE, 0, 0⟩, r.2.2)
    else (r.2.2.validate r.1 r.2.2.srcStruct, r.2.2.when (r.2.2.readsActive r.1 r.2.2.srcStruct) State.touchStruct)

end Sys2Proof.Machine
end

