-- ==== Sys2Proof/Machine/DeviceFault.lean ====
section
/-! DEFINITION. Fog events (R70, R74, R279), the retention check (R342, R343), the device fault as one shared operation (R37 to R41,
R53, R58, R79, R137, R170) and its recovery (R40, R74, R79). -/

namespace Sys2Proof.Machine

/-! Lens states (R53) -/

abbrev lsIDLE : Nat := 0
abbrev lsAPPLY1 : Nat := 1
abbrev lsAPPLY2 : Nat := 2
abbrev lsRUN : Nat := 3
abbrev lsRECOVER : Nat := 4

/-- The state of the Lens sequencer. -/
def State.lens (s : State) : Nat := s.fget F.ROT_CFG_STATE

/-- The state it runs in or, in RECOVER, the one it remembers. -/
def State.lensBack (s : State) : Nat := if s.lens = lsRECOVER then s.rot.back else s.lens

/-- Is fault recovery in progress? -/
def State.recovering (s : State) : Bool := s.fbit F.SYS_EPOCH_RECOVERING

def State.setRot (s : State) (f : Rot → Rot) : State := { s with rot := f s.rot }
def State.setPwr (s : State) (f : Pwr → Pwr) : State := { s with pwr := f s.pwr }

/-! Fog events -/

abbrev fogEMPTY : Nat := 1
abbrev fogPFAIL : Nat := 2
abbrev fogRET_LOST : Nat := 3
abbrev fogHOST : Nat := 4

/-- A fog event is detected: FOG is raised, and the event waits for its preemption, or for the end of recovery (R74, R310). -/
def State.raiseFog (s : State) (code : Nat) (data : List Byte) : State :=
  let e : FogEv := ⟨code, s.regN Reg.ROT_NUM, data⟩
  let s := s.raise F.SYS_IRQ_FOG
  if s.recovering then s.setMsh fun m => { m with held := m.held ++ [e] }
  else s.setMsh fun m => { m with events := m.events ++ [e] }

/-! Retention (R342, R343) -/

/-- Fill a checked memory with zero words: bank b, or the capture SRAM as 16. -/
def State.zeroMem (s : State) (b : Nat) : State := if b = 16 then s.zeroCapture else s.zeroBank b

/-- What R343 does when the capture SRAM is lost: every slot FREE; the records of host shots waiting in it follow at S1. -/
def State.captureLost (s : State) : State :=
  let host := (List.range 16).filter fun k => s.slotState k != slotFREE && s.fbit (F.AFE_SLOT_CTL_HOST k)
  let lost := if s.hostEcho then [] else host.map fun k =>
    (⟨s.fget (F.AFE_SLOT_CTL_CHORD k), s.regN (Reg.AFE_SLOT_ROT k), s.fget (F.AFE_SLOT_CTL_TAG k), k⟩ : EchLost)
  { s with ech := { s.ech with lost := s.ech.lost ++ lost } }.freeAllSlots

/-- What the loss of bank b takes from the keeper (R343): the association entries or the seen-cache that it held, and with BANK0 the cell
key (R275). -/
def State.keeperLost (s : State) (b : Nat) : State :=
  let gone := fun (p : Nat × AssocEntry) => match s.image with
    | some i => i.keeperBanks != 0 && i.keeperBank + 1 + p.1 / 512 == b
    | none => false
  let cache := match s.image with
    | some i => i.keeperBanks != 0 && i.keeperBank == b
    | none => false
  s.setMsh fun m => { m with
    table := m.table.filter fun p => !gone p
    seen := if cache then [] else m.seen
    cellKey := if b = 0 then none else m.cellKey }

/-- The retention check of memory b: a lost one is filled, reported and forgotten by its monitor; with `keep` it stays in RETAIN and has
its canaries written again. The flag says that it was lost. -/
def State.checkMem (s : State) (b : Nat) (keep : Bool) : Bool × State :=
  if !s.pwr.tripped.testBit b && s.canariesOk b then (false, s)
  else
    let s := (s.zeroMem b).setPwr fun p => { p with tripped := clrBit p.tripped b }
    let s := if keep then s.writeCanaries b else s
    let s := s.fset (if b = 16 then F.PWR_RETLOST_CAPT else ⟨Reg.PWR_RETLOST, b, 1⟩) 1
    let s := s.raise F.SYS_IRQ_RET_LOST
    let s := s.raiseFog fogRET_LOST (leBytes 4 (s.regN Reg.PWR_RETLOST))
    (true, if b = 16 then s.captureLost else s.keeperLost b)

/-- The memories in RETAIN that have a check. -/
def State.retained (s : State) : List Nat :=
  (List.range 17).filter fun b => s.dom (if b = 16 then domCAPT else domMEM b) == pwRETAIN

/-- The check of every retained memory (R39): was BANK0 or BANK1 among the lost? -/
def State.checkRetained (s : State) : Bool × State :=
  s.retained.foldl (fun (r : Bool × State) (b : Nat) =>
    let c := r.2.checkMem b true
    (r.1 || (c.1 && b < 2), c.2)) (false, s)

/-! The device fault -/

abbrev fcWDOG : Nat := 1
abbrev fcPOISON_EXEC : Nat := 2
abbrev fcCLK_LOSS : Nat := 3
abbrev fcSLINK_FAIL : Nat := 4
abbrev fcBROWNOUT : Nat := 5
abbrev fcSTI_RELOAD : Nat := 6

/-- The epoch advances, the cause is recorded and FAULT raised (R37, R40). -/
def State.advanceEpoch (s : State) (cause : Nat) : State :=
  let s := (s.addWrap F.SYS_EPOCH_EPOCH 1).addSat F.SYS_EPOCH_FAULTS 1
  let s := s.fset F.SYS_EPOCH_RECOVERING 1
  let s := s.fsetAll [(F.SYS_FAULT_CAUSE_CAUSE, cause), (F.SYS_FAULT_CAUSE_EPOCH, s.fget F.SYS_EPOCH_EPOCH)]
  (s.fsetBit F.SYS_FAULT_CAUSE_HIST (cause - 1)).raise F.SYS_IRQ_FAULT

/-- The measuring work in progress stops without results (R38): ports rest, slots are freed, the conversion ends. -/
def State.stopMeasuring (s : State) : State :=
  let s := s.freeAllSlots
  let s := { s with afe := { ports := List.replicate 16 .park, shot := none, hostShots := [] } }
  let s := s.setTmu fun t => { t with conv := none }
  (s.fset F.TMU_STATUS_BUSY 0).tiuFault.emptyReset

/-- An NVM_WRITE ends in the middle of a page, which is left partly erased or partly programmed: its words are free values (R333). -/
def State.tearNvm (s : State) : State :=
  match s.memu.nvm with
  | none => s
  | some j => { s.scrambleWords (j.dst + 0x800 * j.done) 128 with memu := { s.memu with nvm := none } }

/-- A discarded SLINK_SET that waits is not sent; one whose transaction runs leaves it without an owner (R38, R350). -/
def State.dropLinkOps (s : State) : State :=
  let mine := fun (t : Slink) => match t.why with | .op _ => true | _ => false
  s.setPwr fun p => { p with
    linkQ := p.linkQ.filter fun t => !mine t,
    link := p.link.map fun t => if mine t then { t with why := SlinkWhy.gone } else t }

/-- A ledger commit in progress runs to its end, for no operation any more (R39, R237). -/
def State.commitRunsOn (s : State) : State :=
  s.setLdg fun l => { l with commit := l.commit.map fun c => { c with op := none, runOn := true } }

/-- Work in flight is discarded (R38): operations, slots, queues, conversions, shots, background work, staged update blocks (R381). A
ledger commit runs on. -/
def State.discardWork (s : State) : State :=
  let s := s.discardOps.dropLinkOps.commitRunsOn.stopMeasuring.meshFault.clearPrevShot.tearNvm
  { s with memu := { s.memu with scrub := none }, upd := { s.upd with staging := [] } }

/-- An armed load is disarmed and a validation stops (R79); a boot load runs again after recovery. -/
def State.disarmLoad (s : State) : State :=
  let l := s.fget F.STI_STATUS_LOAD
  if l = 1 ∨ l = 2 then
    let s := if l = 2 then s.fset F.STI_STATUS_DISARMED 1 else s
    let s := if s.fbit F.STI_STATUS_BOOT then s.setPwr fun p => { p with lostBoot := true } else s
    s.fset F.STI_STATUS_LOAD 0
  else s

/-- The Lens goes to RECOVER and remembers its state (R53). -/
def State.lensFault (s : State) : State :=
  let s := if s.lens = lsRECOVER then s
    else (s.setRot fun r => { r with back := s.lens }).fset F.ROT_CFG_STATE lsRECOVER
  s.setRot fun r => { r with entry := none, fog := false, late := [] }

/-- A sleep set that a fog event had stopped ends: its preemption is over (R346). -/
def State.sleepCut (s : State) : State :=
  if s.pwr.sleepWaits then
    let p := s.pwr
    let s := (s.requestWakes p.sleepTaken).forMask F.PWR_HOLD_HOLD p.sleepHeld
    let s := s.setPwr fun q => { q with
      sleepTaken := [], sleepHeld := 0, sleepWaits := false, restNext := q.restNext.lor (maskOf p.sleepTaken) }
    s.fsetAll [(F.PWR_SLEEP_ST_STATE, 3), (F.PWR_SLEEP_ST_STATUS, Sts.REFUSED), (F.PWR_SLEEP_ST_DOMAIN, 0x1F),
      (F.PWR_SLEEP_ST_REASON, 3), (F.PWR_SLEEP_COST_US, s.fget F.PWR_SLEEP_COST_US + (p.sleepTaken.map wakeUs).sum)]
  else s

/-- A device fault other than STI_RELOAD whose triggering operation, if any, `own` completes after the epoch has advanced (R49). -/
def State.faultWith (s : State) (cause : Nat) (own : State → State) : State :=
  ((own (s.advanceEpoch cause)).discardWork.disarmLoad.sleepCut.lensFault).wakeEvent [domCORE]

/-- A device fault. -/
def State.plainFault (s : State) (cause : Nat) : State := s.faultWith cause id

/-- The fault BROWNOUT for a lost BANK0 or BANK1, with a boot load after it (R343). -/
def State.bankFault (s : State) : State :=
  (s.setPwr fun p => { p with lostBoot := true }).plainFault fcBROWNOUT

/-- The check of the retained memories that follows a BROWNOUT fault (R39, R342). The fault of a loss that it finds has no memory left
to check. -/
def State.afterBrownout (s : State) : State :=
  let r := s.checkRetained
  if r.1 then r.2.bankFault else r.2

/-- The loss of BANK0 or BANK1 with what follows it (R343). -/
def State.bankLost (s : State) : State := s.bankFault.afterBrownout

/-- The power domain of the memory region r. -/
def regionDom (r : Nat) : Nat := if r = 16 then domCAPT else if r < 16 then domMEM r else domNVM

/-- The wake that an access to memory region r needs (R295, R336): a bank whose rest state is OFF has it set back to RETAIN, one in OFF is
filled with zero words, and a memory in RETAIN passes the check of stage 3. The wake's trace holds the table's times (R334, R338). -/
def State.wakeAccess (s : State) (r : Nat) : State :=
  let k := regionDom r
  let s := s.when (r < 16 && s.restsOff k) fun s => s.setRest k false
  if s.dom k = pwOFF then
    let s := s.setRegs [(Reg.PWR_WAKE_TRACE, k), (Reg.PWR_WAKE_T0, 0), (Reg.PWR_WAKE_T1, 10 + 12 * 2 ^ 16)]
    s.when (r < 16) fun s => s.zeroBank r
  else if s.dom k = pwRETAIN ∧ r ≤ 16 then
    let c := s.checkMem r true
    let add := if c.1 then 40 else 0
    let s := c.2.setRegs [(Reg.PWR_WAKE_TRACE, k + b2n c.1 * 2 ^ 10), (Reg.PWR_WAKE_T0, 0),
      (Reg.PWR_WAKE_T1, 10 + add + (12 + add) * 2 ^ 16)]
    if c.1 && r < 2 then s.bankLost else s
  else s

/-- A host access to the memory at address a wakes its domain and returns it to the state it was in, a bank from OFF to RETAIN (R295,
R336). -/
def State.hostTouch (s : State) (a : Nat) : State :=
  match regionOf a with
  | some r =>
    let t := s.wakeAccess r
    if r < 16 ∧ s.dom (regionDom r) = pwOFF then t.enterRetain (regionDom r) else t
  | none => s

/-- A brown-out resets every domain but AON, BKP and the retained memories (R353): their working state is lost. The echo processor keeps
what a device fault leaves it (R170). -/
def State.resetDomains (s : State) : State := [domAFE, domTIU, domTMU, domRADIO].foldl State.loseWork s

/-- Causes 1 to 5 other than SLINK_FAIL in a mask, bit c - 1 for cause c. The bit of SLINK_FAIL is `faultCycle`'s. -/
def faultMask (m : Nat) : List Nat := ((List.range 5).filter fun i => m.testBit i && i + 1 != fcSLINK_FAIL).map (· + 1)

/-- Causes detected in one system-clock cycle, `own` completing the triggering operation: the epoch advances once with the lowest
code, and every cause's bit is set in HIST (R40). -/
def State.faultAll (s : State) (cs : List Nat) (own : State → State) : State :=
  let s := if cs.contains fcPOISON_EXEC then s.consumed else s
  let t := s.faultWith (cs.foldl min (cs.headD 0)) own
  let t := cs.foldl (fun (u : State) (c : Nat) => u.fsetBit F.SYS_FAULT_CAUSE_HIST (c - 1)) t
  if cs.contains fcBROWNOUT then t.resetDomains.afterBrownout else t

/-- Any device fault but SLINK_FAIL and STI_RELOAD; `also` is the mask of further causes detected in the same system-clock cycle
(R40). -/
def State.deviceFault (s : State) (cause : Nat) (also : Nat := 0) : State := s.faultAll (cause :: faultMask also) id

/-- Start the load of the STRUCT component (R76, R80). -/
def State.startBoot (s : State) : State := (s.fsetAll [(F.STI_STATUS_LOAD, 1), (F.STI_STATUS_BOOT, 1)]).stageStruct

/-- Recovery completes (R40, R53, R74, R79); in SCRAP and from boot ROM no boot load runs (R372, R384). -/
def State.recover (s : State) : State :=
  if !s.recovering then s
  else
    let s := s.fset F.SYS_EPOCH_RECOVERING 0
    let s := if s.lens = lsRECOVER then s.fset F.ROT_CFG_STATE s.rot.back else s
    let s := s.setMsh fun m => { m with events := m.events ++ m.held, held := [] }
    if !s.pwr.lostBoot then s
    else
      let s := s.setPwr fun p => { p with lostBoot := false }
      if s.fget F.UPD_LIFE_STATE = 5 ∨ s.fbit F.UPD_STATUS_BOOT_FAIL then s else s.startBoot

/-! The retention store of the ledger (R231, R236) -/

/-- The address that the log shows for the retention store (R327). -/
abbrev storeAddr : Nat := 0xFFFFFF

/-- A restore whose outcome 3 raises RET_LOST with no bit of its own (R236). -/
def State.restoreAll (s : State) (cold : Bool) : State :=
  let r := s.restoreLedger cold
  let t := r.2.setLdg fun l => { l with storeErr := [] }
  if r.1 then (t.raise F.SYS_IRQ_RET_LOST).raiseFog fogRET_LOST (leBytes 4 (t.regN Reg.PWR_RETLOST)) else t

/-- One wrong symbol of the store is corrected, written back and reported (R231, R318). -/
def State.correctStore (s : State) (sym : Nat) : State :=
  (s.foundCE storeAddr clsCE1 .device true sym 0).setLdg fun l => { l with storeErr := [] }

/-- An uncorrectable error of the store found at a step: the step does not run and the accumulators are restored; RESTORE reports
resets only (R231). -/
def State.storeLost (s : State) : State :=
  let keep := s.fget F.LDG_STATUS_RESTORE
  ((((s.foundUE storeAddr .device true).touchRing.restoreAll false).fset F.LDG_STATUS_RESTORE keep).fset F.LDG_EVT_ACC_UE 1).consumed

/-- S3 of the mark with the check of the store (R231): the clear or the ledger step, or the restore in place of the step. The flag says
whether a step ran. -/
def State.checkedS3 (s : State) (d rotEnd : Nat) (shotRot : Bool) : Bool × State :=
  match s.ldg.storeErr, s.ldg.clearReq with
  | [], _ => s.ledgerS3 d rotEnd shotRot
  | _, true => (s.setLdg fun l => { l with storeErr := [] }).ledgerS3 d rotEnd shotRot
  | [i], false => (s.correctStore i).ledgerS3 d rotEnd shotRot
  | _, false => (false, s.storeLost.afterStep rotEnd shotRot)

/-- The ledger at a reset (R231, R236): the write position; a store whose content is lost or whose CRC fails is restored. -/
def State.bootLedger (s : State) (aon : Bool) : State :=
  if !aon then s.findRing.restoreAll true
  else
    match s.ldg.storeErr with
    | [] => s.findRing
    | [i] => s.findRing.correctStore i
    | _ => ((s.foundUE storeAddr .device true).findRing.restoreAll false).consumed

end Sys2Proof.Machine
end

