-- ==== Sys2Proof/Machine/Power.lean ====
section
/-! DEFINITION. The power controller's events: the stages of a wake (R338), the supply link's attempts and timeout (R347 to R351), host
holds and sleep sets (R344 to R346), the power-fail warning and its end (R235, R352), and the retention monitors (R342). -/

namespace Sys2Proof.Machine

/-! Wakes (R338, R339, R342) -/

/-- Drop the wake of a domain. -/
def State.dropWake (s : State) (k : Nat) : State := s.setPwr fun p => { p with wakes := p.wakes.filter fun w => w.dom != k }

/-- The field of PWR_WAKE_T0 and PWR_WAKE_T1 of a stage. -/
def stageField (n : Nat) : Fld :=
  match n with
  | 1 => F.PWR_WAKE_T0_REG
  | 2 => F.PWR_WAKE_T0_OSC
  | 3 => F.PWR_WAKE_T1_MEM
  | _ => F.PWR_WAKE_T1_LOGIC

/-- The memory that stage 3 of a domain checks: CORE's is BANK0. -/
def stageMem (k : Nat) : Option Nat := if k = domCORE then some 0 else checkedMem k

/-- Is the run-level request of the wake of domain k still to be acknowledged? -/
def State.wakeLinks (s : State) (k : Nat) : Bool :=
  (s.pwr.linkQ ++ s.pwr.link.toList).any fun t => t.why == SlinkWhy.wake k

/-- The stage a wake waits for becomes ready, `us` after the request (R338). Stage 1 needs its transaction, and a domain woken with CORE
waits for CORE's stage 2 (R339). -/
def State.wakeStage (s : State) (k us : Nat) : State :=
  match s.wakeOfDom k with
  | none => s
  | some w =>
    if (w.stage = 1 ∧ s.wakeLinks k) ∨ (w.stage ≥ 3 ∧ s.followsCore k) then s
    else
      let traced := s.fget F.PWR_WAKE_TRACE_DOMAIN == k
      let s := s.when traced fun s => s.fset (stageField w.stage) (min 1023 us)
      if w.stage = 4 then
        let s := (s.dropWake k).setDom k pwON
        if k = domCORE then s.setDom (domMEM 0) pwON else s
      else
        let s := if w.stage = 2 then s.setPwr fun p => { p with xo := true } else s
        let r : Bool × State :=
          match (if w.stage = 3 ∧ w.off = false then stageMem k else none) with
          | some b => s.checkMem b false
          | none => (false, s)
        let s := r.2.when (r.1 && traced) fun s => s.fset F.PWR_WAKE_TRACE_LOST 1
        let s := s.beginStage k (w.stage + 1) w.off
        if r.1 && (stageMem k == some 0 || stageMem k == some 1) then s.bankLost else s

/-! The supply link (R347 to R351) -/

/-- The three bytes of a request (R347). -/
def slinkBytes (seq cmd value : Nat) : List Byte :=
  let b := leBytes 1 (seq * 16 + cmd) ++ leBytes 1 value
  b ++ leBytes 1 (crc8 b)

/-- Does an acknowledgement pass: SEQ echoed, low nibble 0xA, CRC-8 over request bytes 0 and 1 and acknowledgement byte 0 (R349)? -/
def slinkAckOk (seq cmd value : Nat) (a : Byte × Byte) : Bool :=
  a.1.toNat == seq * 16 + 10 && a.2.toNat == crc8 ((slinkBytes seq cmd value).take 2 ++ [a.1])

/-- The transaction in progress ends, and the next starts. -/
def State.endLink (s : State) : State :=
  let s := (s.setPwr fun p => { p with link := none }).fset F.PWR_SLINK_ST_BUSY 0
  s.startLink

/-- The CORE entry whose transaction ended is complete; a wake that came meanwhile goes on (R341). -/
def State.endEntry (s : State) : State :=
  let s := s.setPwr fun p => { p with entryStep := 0 }
  (if (s.wakeOfDom domCORE).isSome then s else s.setDom domCORE pwRETAIN).settleXo

/-- A transaction was acknowledged on attempt n (R337, R348, R351). -/
def State.slinkDone (s : State) (t : Slink) (n : Nat) : State :=
  let s := if t.cmd = 1 then s.fset F.PWR_VCORE_ACT t.value else s
  let s := if t.cmd = 2 then s.setPwr fun p => { p with settle := p.settle ++ [t.value] } else s
  let s := match t.why with
    | .entry => s.endEntry
    | .op i => s.complete i Sts.DONE 0 0 (t.value + n * 256)
    | _ => s
  s.endLink

/-- Set a bit of PWR_EVT; a new setting raises SUPPLY (R354). -/
def State.supplyEvt (s : State) (f : Fld) : State := if s.fbit f then s else (s.fset f 1).raise F.SYS_IRQ_SUPPLY

/-- A transaction has failed: the device fault SLINK_FAIL, with the causes of `also` detected in the same cycle, the triggering SLINK_SET
completing with its causes first (R40, R49, R349). -/
def State.slinkFail (s : State) (t : Slink) (upper lower also : Nat) : State :=
  let s := (s.addSat F.PWR_SLINK_CNT_FAIL 1).fsetAll [(F.PWR_SLINK_ST_UPPER, upper), (F.PWR_SLINK_ST_LOWER, lower)]
  let s := match t.why with
    | .entry => s.endEntry
    | .wake k => (s.dropWake k).setDom k pwRETAIN
    | _ => s
  s.faultAll (fcSLINK_FAIL :: faultMask also) fun u =>
    match t.why with
    | .op i => u.complete i Sts.DISCARDED upper lower 0
    | _ => u

/-- An attempt ends with these acknowledgement bytes, or with none (R349). -/
def State.slinkAttempt (s : State) (ack : Option (Byte × Byte)) (also : Nat) : State :=
  match s.pwr.link with
  | none => s
  | some t =>
    let n := s.pwr.linkTries + 1
    let s := s.fset F.PWR_SLINK_ST_ATTEMPTS n
    let s := match t.why with
      | .wake k => s.when (s.fget F.PWR_WAKE_TRACE_DOMAIN == k) fun s => s.fset F.PWR_WAKE_TRACE_ATTEMPTS n
      | _ => s
    let seq := s.fget F.PWR_SLINK_ST_SEQ
    let lower := match ack with
      | none => loNO_ACK
      | some a => if slinkAckOk seq t.cmd t.value a then 0 else loBAD_ACK
    if lower = 0 then s.slinkDone t n
    else
      let s := s.when (n == 1) fun s => (s.addSat F.PWR_SLINK_CNT_RETRY 1).supplyEvt F.PWR_EVT_RETRY
      let s := s.setPwr fun p => { p with linkTries := n, linkLower := lower }
      if n < 4 then s
      else ((s.setPwr fun p => { p with link := none }).fset F.PWR_SLINK_ST_BUSY 0).slinkFail t 0 lower also |>.startLink

/-- Is this the transaction of a wake or an entry, which the timeout watches (R350)? -/
def Slink.watched (t : Slink) : Bool :=
  match t.why with
  | .wake _ => true
  | .entry => true
  | _ => false

/-- Is there such a transaction, in progress or waiting? -/
def State.transitionDue (s : State) : Bool := match s.pwr.link with
  | some t => t.watched || s.pwr.linkQ.any Slink.watched
  | none => false

/-- The domain-transition timeout fires (R47, R49, R350): on the transaction in progress when it is a wake's or an entry's, else on the
first such one that waits. `also` is the mask of further causes detected in the cycle (R40). -/
def State.transitionTimeout (s : State) (also : Nat) : State :=
  match s.pwr.link with
  | some t =>
    if t.watched then
      (((s.setPwr fun p => { p with link := none }).fset F.PWR_SLINK_ST_BUSY 0).slinkFail t upDOMAIN_TO s.pwr.linkLower also).startLink
    else
      match s.pwr.linkQ.find? Slink.watched with
      | some u => (s.setPwr fun p => { p with linkQ := p.linkQ.erase u }).slinkFail u upDOMAIN_TO 0 also
      | none => s
  | none => s

/-- VDRV settles: the level acknowledged longest ago is taken as acknowledged (R348). -/
def State.vdrvSettle (s : State) : State :=
  match s.pwr.settle with
  | v :: l =>
    let more := !l.isEmpty || (s.pwr.linkQ ++ s.pwr.link.toList).any fun t => t.cmd == 2
    (s.fsetAll [(F.AFE_STATUS_VDRV_ACT, v), (F.AFE_STATUS_VDRV_OK, b2n (!more))]).setPwr fun p => { p with settle := l }
  | [] => s

def execVdrvSettle (s : State) : Host.Outcome State Fault Refusal := s.run State.vdrvSettle

/-- The drive level AFE_VDRV asks for (R99). -/
def State.vdrvLevel (s : State) : Nat :=
  let v := s.fget F.AFE_VDRV_LEVEL
  if v = 0 then 0 else min 240 (max 33 v)

/-- Request the drive rail over the supply link (R99). -/
def State.requestVdrv (s : State) : State := s.queueLink ⟨.vdrv, 2, s.vdrvLevel⟩

/-- Start a SLINK_SET (R351): a VCORE one sets the run level, and asks for it only while VCORE is at the run level. -/
def State.startSlink (s : State) (i : Nat) : State :=
  let s := s.beginOp i
  let v := (s.opE i).par 1 1
  if (s.opE i).par 0 1 = 1 then s.queueLink ⟨.op i, 2, v⟩
  else
    let at_ := s.atRun
    let s := s.fset F.PWR_VCORE_RUN v
    if at_ then s.queueLink ⟨.op i, 1, v⟩ else s.complete i Sts.DONE 0 0 v

/-! Host holds (R344) -/

/-- Domains that PWR_HOLD can hold on this part. -/
def State.holdable (s : State) (k : Nat) : Bool :=
  s.domPresent k && (k == domCAPT || k == domAFE || k == domTIU || k == domECH || k == domTMU || k == domRADIO || k == domNVM || 11 ≤ k)

/-- Does a write of PWR_HOLD name a domain that cannot be held? -/
def State.holdLocked (s : State) (v : Nat) : Bool := (maskList 27 v).any fun k => !s.holdable k

/-- Hold the domains of a mask ON. -/
def State.holdDoms (s : State) (v : Nat) : State :=
  let l := maskList 27 v
  (s.forMask F.PWR_HOLD_HOLD (maskOf l)).wakeEvent l

/-! Sleep sets (R345, R346) -/

/-- May a domain be put OFF (R334)? -/
def State.offAllowed (s : State) (k : Nat) : Bool :=
  if 11 ≤ k then !s.pwr.retain.testBit (k - 11)
  else if k = domNVM then true
  else if k = domCAPT ∨ k = domAFE ∨ k = domTIU ∨ k = domTMU then s.image.isNone
  else if k = domECH then s.image.isNone || s.hostEcho
  else if k = domRADIO then s.image.isNone || s.radio.isNone
  else false

/-- The banks that a range of host bytes touches. -/
def inBank (b a n : Nat) : Bool := n != 0 && a < 0x100000 + 0x8000 * (b + 1) && 0x100000 + 0x8000 * b < a + n

/-- Is a bank named by an operation in flight? -/
def State.bankInOps (s : State) (b : Nat) : Bool :=
  (List.range 16).any fun i =>
    let e := s.opE i
    e.st == .active &&
      ((e.type == opNVM_WRITE && inBank b (e.par 0 3) (2048 * e.par 8 2)) || (e.type == opSCRUB && inBank b (e.par 0 4) (e.par 4 4)) ||
        (e.type == opRADIO_TX && inBank b (e.par 4 3) (e.par 8 2)) || (e.type == opSTI_LOAD && inBank b (e.par 0 3) (e.par 4 4)))

/-- Does domain k refuse with BUSY? -/
def State.sleepBusy (s : State) (k : Nat) : Bool :=
  s.pwr.devHold.testBit k ||
    ((k == domCAPT || k == domAFE || k == domTIU) && (List.range 16).any fun c => s.slotState c == slotCAPTURING) ||
    (k == domNVM && (s.memu.nvm.isSome || s.ldg.commit.isSome || s.ldg.erase.isSome || s.fget F.UPD_STATUS_STATE == 1)) ||
    (11 ≤ k && s.bankInOps (k - 11))

/-- The reason for which domain k refuses the set, 0 for none. -/
def State.sleepRefusal (s : State) (off : Bool) (k : Nat) : Nat :=
  if k = domAON ∨ k = domBKP ∨ k = domCORE ∨ k = domLDG ∨ s.domPresent k = false ∨ (off ∧ s.offAllowed k = false) then 1
  else if s.sleepBusy k then 2
  else 0

/-- What a running set has done: domains taken (last first), host holds released, cost in µs, the refusal if one came. -/
structure SleepRun where
  taken : List Nat := []
  holds : Nat := 0
  cost : Nat := 0
  refusal : Option (Nat × Nat) := none
  deriving DecidableEq, Repr

/-- One domain of the set. -/
def State.sleepTake (s : State) (off : Bool) (r : SleepRun) (k : Nat) : SleepRun × State :=
  if r.refusal.isSome ∨ s.dom k = pwOFF ∨ (s.dom k = pwRETAIN ∧ off = false) then (r, s)
  else
    match s.sleepRefusal off k with
    | 0 =>
      let h := s.ftest F.PWR_HOLD_HOLD k
      let s := s.fclrBit F.PWR_HOLD_HOLD k
      let s := (s.dropWake k).noteEntry k
      let s := if k = domNVM then s.setDom k pwTRANS else s.enterRetain k
      ({ r with taken := k :: r.taken, holds := if h then setBit r.holds k else r.holds, cost := r.cost + (if 11 ≤ k then 2 else 4) }, s)
    | n => ({ r with refusal := some (k, n) }, s)

/-- A whole wake of a domain at once, at the times of the table (R334, R338, R342). -/
def State.wakeWhole (s : State) (k : Nat) : State :=
  let r : Bool × State := match (if k = domNVM then none else stageMem k) with
    | some b => s.checkMem b false
    | none => (false, s)
  let add := if r.1 then 40 else 0
  let s := r.2.setRegs [(Reg.PWR_WAKE_TRACE, k + b2n r.1 * 2 ^ 10), (Reg.PWR_WAKE_T0, 0),
    (Reg.PWR_WAKE_T1, (if hasMemStage k then 10 + add else 0) + (wakeUs k + add) * 2 ^ 16)]
  let s := (s.setPwr fun p => { p with entered := p.entered.filter (· != k) }).setDom k pwON
  if r.1 && (stageMem k == some 0 || stageMem k == some 1) then s.bankLost else s

/-- Wake a domain back to ON: a wake that needs the regulator or the crystal first goes through its stages. -/
def State.wakeBack (s : State) (k : Nat) : State :=
  if (needsRun k && !s.atRun) || (needsXo k && !s.pwr.xo) then s.requestWake k else s.wakeWhole k

/-- Wake back the domains taken, in reverse order, and set their holds again: the time that takes and the state after. Those not held
rest at the next facet end (R345). -/
def State.sleepRestore (s : State) (taken : List Nat) (holds : Nat) : Nat × State :=
  let s := (taken.foldl State.wakeBack s).forMask F.PWR_HOLD_HOLD holds
  ((taken.map wakeUs).sum, s.setPwr fun p => { p with restNext := p.restNext.lor (maskOf taken) })

/-- The set has ended. -/
def State.sleepEnd (s : State) (status dom reason cost : Nat) : State :=
  s.fsetAll [(F.PWR_SLEEP_ST_STATE, 3), (F.PWR_SLEEP_ST_STATUS, status), (F.PWR_SLEEP_ST_DOMAIN, dom), (F.PWR_SLEEP_ST_REASON, reason),
    (F.PWR_SLEEP_COST_US, cost)]

/-- The domains of a set that did not refuse reach its target: with OFF, power is removed from each and it rests in OFF; the NVM, which
has no RETAIN, goes OFF for either (R334, R345). -/
def State.sleepOff (s : State) (off : Bool) (l : List Nat) : Nat × State :=
  if off then
    let on := l.filter fun k => s.dom k != pwOFF
    (on.length, l.foldl (fun (t : State) (k : Nat) => (if t.dom k = pwOFF then t else t.enterOff k).setRest k true)
      (s.setPwr fun p => { p with entered := p.entered.filter fun k => !l.contains k }))
  else (0, if l.contains domNVM ∧ s.dom domNVM = pwTRANS then s.enterOff domNVM else s)

/-- A fog event has stopped the set: what it still holds in RETAIN waits for the end of the fog frame (R346). -/
def State.sleepStop (s : State) (taken : List Nat) (holds cost : Nat) : State :=
  (s.setPwr fun p => { p with sleepTaken := taken, sleepHeld := holds, sleepWaits := true }).fsetAll [(F.PWR_SLEEP_ST_STATE, 2), (F.PWR_SLEEP_COST_US, cost)]

/-- Run the set: all of it, or the first n of its entries and, after a refusal, restore wakes, when a fog event stops it there; one that
comes after the last of them stops nothing (R345, R346). -/
def State.sleepRun (s : State) (stop : Option Nat) : State :=
  let l := maskList 27 (s.fget F.PWR_SLEEPSET_MASK)
  let off := s.fbit F.PWR_SLEEPSET_TARGET
  let now := match stop with | some n => l.take n | none => l
  let r := now.foldl (fun (p : SleepRun × State) (k : Nat) => p.2.sleepTake off p.1 k) (({} : SleepRun), s)
  match r.1.refusal with
  | some (k, why) =>
    let woken := match stop with | some n => n - (l.takeWhile fun d => d != k).length - 1 | none => r.1.taken.length + 1
    let b := r.2.sleepRestore (r.1.taken.take woken) 0
    let rest := r.1.taken.drop woken
    if r.1.taken.isEmpty ∨ r.1.taken.length < woken then (b.2.forMask F.PWR_HOLD_HOLD r.1.holds).sleepEnd Sts.REFUSED k why (r.1.cost + b.1)
    else b.2.sleepStop rest r.1.holds (r.1.cost + b.1)
  | none =>
    if stop.any (· ≤ l.length) then r.2.sleepStop r.1.taken r.1.holds r.1.cost
    else
      let b := r.2.sleepOff off l
      b.2.sleepEnd Sts.DONE 0 0 (r.1.cost + b.1)

/-- A set that a fog event stopped ends after the last bit of the fog frame (R346). -/
def State.sleepPreempted (s : State) : State :=
  if s.pwr.sleepWaits then
    let b := s.sleepRestore s.pwr.sleepTaken s.pwr.sleepHeld
    (b.2.setPwr fun p => { p with sleepTaken := [], sleepHeld := 0, sleepWaits := false }).sleepEnd Sts.REFUSED 0x1F 3 (s.fget F.PWR_SLEEP_COST_US + b.1)
  else s

/-- Does a write of PWR_SLEEPSET complete LOCKED? -/
def State.sleepLocked (s : State) : Bool := s.fget F.PWR_SLEEP_ST_STATE == 1 || s.fget F.PWR_SLEEP_ST_STATE == 2

/-- A write of PWR_SLEEPSET: GO arms the set; while no image is active the set is busy at once, and the row of its start runs it (DESIGN
CHOICE, log 189). -/
def State.sleepWrite (s : State) (v : Nat) : State :=
  let s := s.fsetAll [(F.PWR_SLEEPSET_MASK, v % 2 ^ 27), (F.PWR_SLEEPSET_TARGET, bitsOf v 27 1)]
  if v.testBit 28 then
    s.setRegs [(Reg.PWR_SLEEP_ST, if s.image.isNone then 2 else 1), (Reg.PWR_SLEEP_COST, 0)]
  else s

/-- Does the set run: busy and not stopped, or armed in an IDLE facet with at least 1,000 µs left (R345)? -/
def State.sleepReady (s : State) : Bool :=
  (s.fget F.PWR_SLEEP_ST_STATE == 2 && !s.pwr.sleepWaits) || (s.fget F.PWR_SLEEP_ST_STATE == 1 && s.inKind kIDLE && 1000 ≤ s.leftUs)

/-- The set runs; one that a fog event stopped without a fog frame to wait for ends at once (R345, R346). -/
def State.sleepStart (s : State) (stop : Option Nat) : State :=
  if s.sleepReady then
    let s := s.sleepRun stop
    if s.rot.fog || !s.msh.events.isEmpty then s else s.sleepPreempted
  else s

def execSleepSetStart (stop : Option Nat) (s : State) : Host.Outcome State Fault Refusal := s.run fun s => s.sleepStart stop

/-! The power-fail warning (R235, R352) -/

/-- The ledger's part: the partial interval, the abandoned commit or erase, the power-fail commit. -/
def State.powerFailLedger (s : State) (t : Nat) : State :=
  if s.ldg.pfIgnore then s
  else
    let s := s.partialStep (64 * t)
    let op := match s.ldg.commit with | some c => c.op | none => none
    let s := (s.setLdg fun l => { l with commit := none }).tearErase
    (s.startCommit 2 op).setLdg fun l => { l with pfIgnore := true }

/-- The warning is latched at t ns after the mark. -/
def State.powerFail (s : State) (t : Nat) : State :=
  if s.fbit F.PWR_PFW_LATCHED then s
  else
    let s := s.fsetAll [(F.PWR_PFW_LATCHED, 1), (F.PWR_EVT_PFW, 1)]
    let s := (s.raise F.SYS_IRQ_PFAIL).raiseFog fogPFAIL []
    let l := [domCORE, domLDG, domNVM]
    ((s.abandonRests t l).requestWakes l).powerFailLedger t

def execPowerFailWarning (t : Nat) (s : State) : Host.Outcome State Fault Refusal := s.run fun s => s.powerFail t

/-- The latch clears (R235, R352). -/
def State.supplyBack (s : State) : State :=
  if s.fbit F.PWR_PFW_LATCHED then
    let s := (s.fset F.PWR_PFW_LATCHED 0).supplyEvt F.PWR_EVT_RECOVERED
    s.setLdg fun l => { l with prevShot := false, prev := none, afterPf := true }
  else s

def execSupplyRecovered (s : State) : Host.Outcome State Fault Refusal := s.run State.supplyBack

/-! Retention monitors, VBAT -/

/-- A monitor trips: bank 0 to 15, or 16 for the capture SRAM, while it is in RETAIN (R342). -/
def execRetentionMonitorTrip (b : Fin 17) (s : State) : Host.Outcome State Fault Refusal :=
  s.run fun s => if s.retained.contains b.val then s.setPwr fun p => { p with tripped := setBit p.tripped b } else s

/-- The loaded VBAT in mV at the end of a SHOT entry (R354). -/
def State.vbatLoaded (s : State) (mv : Nat) : State :=
  let s := s.fset F.PWR_VBAT_LOADED mv
  if mv < s.fget F.PWR_VBAT_LOW then s.supplyEvt F.PWR_EVT_VBAT_LOW else s

end Sys2Proof.Machine
end

