-- ==== Sys2Proof/Machine/Rtc.lean ====
section
/-! DEFINITION. The real-time clock (R356 to R367): the live time, its tick under the rate correction, coherent reads, the pending set
and its commit, the alarms, and the correction's recomputation. -/

namespace Sys2Proof.Machine

open Cal

/-! The time (R357) -/

/-- The register of time field f in the order of RTC_PEND: seconds, minutes, hours, day, month, century, weekday, year. -/
def rtcReg (f : Nat) : Nat := Reg.RTC_SEC + 4 * f

/-- The live time. -/
def State.time (s : State) : Time := Time.ofList ((List.range 8).map fun f => s.regN (rtcReg f) % 256)

/-- Store the live time. -/
def State.setTime (s : State) (t : Time) : State :=
  (List.range 8).foldl (fun (u : State) (f : Nat) => u.setRegN (rtcReg f) (t.toList.getD f 0)) s

/-! Alarms (R365 to R367) -/

/-- Is the alarm register's field masked? -/
def maskedField (masked : Bool) (v : Nat) : Option Nat := if masked then none else some v

/-- Alarm a as set. -/
def State.alarm (s : State) (a : Nat) : Alarm :=
  ⟨maskedField (s.fbit (F.RTC_ALM_CFG_MSEC a)) (s.fget (F.RTC_ALM_T_SEC a)), maskedField (s.fbit (F.RTC_ALM_CFG_MMIN a)) (s.fget (F.RTC_ALM_T_MIN a)),
    maskedField (s.fbit (F.RTC_ALM_CFG_MHOUR a)) (s.fget (F.RTC_ALM_T_HOUR a)), maskedField (s.fbit (F.RTC_ALM_CFG_MDAY a)) (s.fget (F.RTC_ALM_D_DAY a)),
    maskedField (s.fbit (F.RTC_ALM_CFG_MMONTH a)) (s.fget (F.RTC_ALM_D_MONTH a)), maskedField (s.fbit (F.RTC_ALM_CFG_MWDAY a)) (s.fget (F.RTC_ALM_D_WDAY a))⟩

/-- Alarm a fires: its event bits, and RTC_ALARM with a wake of CORE while AON is powered (R367). -/
def State.fireAlarm (s : State) (a : Nat) (skipped : Bool) : State :=
  let s := s.fsetBit F.RTC_ALM_EVT_FIRED a
  let s := if skipped then s.fsetBit F.RTC_ALM_EVT_SKIPPED a else s
  if s.pwr.aonOff then s else (s.raise F.SYS_IRQ_RTC_ALARM).wakeEvent [domCORE]

/-- The enabled alarms that match a second boundary fire (R365). -/
def State.alarmsAt (s : State) (t : Time) : State :=
  [0, 1].foldl (fun (u : State) (a : Nat) =>
    if u.fbit (F.RTC_ALM_CFG_EN a) && (u.alarm a).hits t then u.fireAlarm a false else u) s

/-- The alarms at an accepted commit (R366). -/
def State.alarmsAtCommit (s : State) (old new : Time) : State :=
  let fwd := decide (old.secs < new.secs)
  [0, 1].foldl (fun (u : State) (a : Nat) =>
    if !u.fbit (F.RTC_ALM_CFG_EN a) then u
    else if fwd && (u.alarm a).skipped old new then u.fireAlarm a true
    else if (u.alarm a).hits new then u.fireAlarm a false else u) s

/-! The tick (R357, R358, R362) -/

/-- Counts by which a tick advances RTC_SUBSEC, and the new residue. -/
def rtcAdvance (acc c : Int) : Nat × Int :=
  let a := acc + c
  if a ≥ 100000000 then (0, a - 100000000) else if a ≤ -100000000 then (2, a + 100000000) else (1, a)

/-- A correction is formed or written: the next LF tick takes it (R363, R364). -/
def State.setCorr (s : State) (c : Int) : State := { s with rtc := { s.rtc with next := some c } }

/-- The correction in force from this tick on (R363, R364). -/
def State.takeCorr (s : State) : State := match s.rtc.next with
  | some c => ({ s with rtc := { s.rtc with next := none } }).fsetI F.RTC_CORR_C c
  | none => s

/-- One LF tick of the clock. -/
def State.rtcTick (s : State) : State :=
  let s := s.takeCorr
  let r := rtcAdvance s.rtc.acc (s.fsgn F.RTC_CORR_C)
  let s := { s with rtc := { s.rtc with acc := r.2 } }
  let n := s.fget F.RTC_SUBSEC_SUBSEC + r.1
  let s := s.fset F.RTC_SUBSEC_SUBSEC (n % 32768)
  if n < 32768 then s
  else
    let t := s.time.next
    let s := s.setTime t.1
    (if t.2 then s.fset F.RTC_STATUS_WRAPPED 1 else s).alarmsAt t.1

/-! Coherent reads (R359) -/

/-- End a freeze. -/
def State.unfreeze (s : State) : State := s.fset F.RTC_STATUS_FROZEN 0

/-- The nine live fields from RTC_SUBSEC to RTC_YEAR. -/
def State.liveFields (s : State) : List Nat := s.fget F.RTC_SUBSEC_SUBSEC :: s.time.toList

/-- A host read of time field f, 0 for RTC_SUBSEC to 8 for RTC_YEAR: the value, and the state after. -/
def State.timeRead (s : State) (f : Nat) : Nat × State :=
  if s.fbit F.RTC_STATUS_FROZEN then
    (s.rtc.shadow.getD f 0, if f = 8 then s.unfreeze else s)
  else if f = 8 then (s.liveFields.getD 8 0, s)
  else
    let l := s.liveFields
    (l.getD f 0, ({ s with rtc := { s.rtc with shadow := l } }).fset F.RTC_STATUS_FROZEN 1)

/-- The freeze has lasted 32,768 LFT. -/
def State.freezeTimeout (s : State) : State :=
  if s.fbit F.RTC_STATUS_FROZEN then s.unfreeze.fset F.RTC_STATUS_FREEZE_TO 1 else s

/-! Setting the time (R360) -/

/-- A host write of time field f, 0 for RTC_SEC to 7 for RTC_YEAR. -/
def State.rtcPend (s : State) (f v : Nat) : State :=
  ({ s with rtc := { s.rtc with pend := setAt s.rtc.pend f (v % 256) } }).fsetBit F.RTC_PEND_PEND f

/-- The time a commit forms. -/
def State.newTime (s : State) : Time :=
  let live := s.time.toList
  Time.ofList ((List.range 8).map fun f => if s.ftest F.RTC_PEND_PEND f then s.rtc.pend.getD f 0 else live.getD f 0)

/-- Clear the pending set. -/
def State.rtcDiscard (s : State) : State := s.fset F.RTC_PEND_PEND 0

/-- An accepted commit. -/
def State.rtcCommit (s : State) : State :=
  let old := s.time
  let new := s.newTime
  let full := s.fget F.RTC_PEND_PEND == 0xFF
  let s := ((s.setTime new).fset F.RTC_SUBSEC_SUBSEC 0).rtcDiscard.unfreeze
  (if full then s.fset F.RTC_STATUS_VALID 1 else s).alarmsAtCommit old new

/-- Is a word written to RTC_COMMIT refused: GO alone with a time that breaks R357 or R358? -/
def State.rtcCommitBad (s : State) (v : Nat) : Bool := v.testBit 0 && !v.testBit 1 && !s.newTime.ok

/-! The correction (R362 to R364) -/

/-- c limited to ±300 ppm. -/
def clampCorr (c : Int) : Int := clampInt (-30000) 30000 c

/-- Curve point j. -/
def State.rtcT (s : State) (j : Nat) : Int := signed 32 (s.coefRtc (2 * j))
def State.rtcF (s : State) (j : Nat) : Int := signed 32 (s.coefRtc (2 * j + 1))

/-- Is the curve invalid: the T_j not strictly ascending? -/
def State.rtcCurveBad (s : State) : Bool := !((List.range 15).all fun j => s.rtcT j < s.rtcT (j + 1))

/-- The crystal error f at a temperature, as numerator and positive denominator. -/
def State.rtcCurve (s : State) (t : Int) : Int × Nat :=
  if t ≤ s.rtcT 0 then (s.rtcF 0, 1)
  else if s.rtcT 15 ≤ t then (s.rtcF 15, 1)
  else
    let j := ((List.range 15).find? fun j => t < s.rtcT (j + 1)).getD 14
    let d := s.rtcT (j + 1) - s.rtcT j
    (s.rtcF j * d + (s.rtcF (j + 1) - s.rtcF j) * (t - s.rtcT j), d.toNat)

/-- The automatic correction at a temperature. -/
def State.autoCorr (s : State) (t : Int) : Int :=
  let f := s.rtcCurve t
  let b := s.coefRtc 0x21
  let n : Nat := if b = 0 then 0 else Ln.ratio (b + s.regN Reg.TIU_HOURS) b
  clampCorr (roundHalfAway (f.1 * Ln.one + signed 32 (s.coefRtc 0x20) * n * f.2) (f.2 * Ln.one))

/-- Recompute c from a fresh die temperature in 0.01 °C (R363, R364). -/
def State.recompute (s : State) (temp : BitVec 16) : State :=
  let bad := s.rtcCurveBad
  let s := s.touchCoef 0x270 136
  let s := (s.fset F.RTC_TEMP_T temp.toNat).fset F.RTC_STATUS_COEF_BAD (b2n bad)
  let c := if s.hostTrim then clampCorr (s.fsgn F.RTC_TRIM_TRIM) else if bad then 0 else s.autoCorr temp.toInt
  s.setCorr c

/-- A host write of RTC_TRIM with host trim. -/
def State.trimWrite (s : State) (v : Nat) : State :=
  let s := s.setRegN Reg.RTC_TRIM v
  s.setCorr (clampCorr (signed 32 v))

/-- BKP loses power: every item takes its power-on value (R356). -/
def State.bkpLoss (s : State) : State :=
  { s with regs := s.regs.filter fun p => !(0x0E0000 ≤ p.1 && p.1 < 0x0F0000), rtc := {} }

/-! The commands -/

/-- A freeze lasts 32,768 LFT; the freeze lies in BKP and ends without AON as well. -/
def execFreezeTimeout (s : State) : Host.Outcome State Fault Refusal := .next s.freezeTimeout

def execBkpPowerLoss (s : State) : Host.Outcome State Fault Refusal := .next s.bkpLoss

def execRateRecompute (temp : BitVec 16) (s : State) : Host.Outcome State Fault Refusal := s.run fun s => s.recompute temp

/-- An operating hour passes: the ageing and the correction are evaluated again (R141, R363). -/
def execHourAdvance (temp : BitVec 16) (s : State) : Host.Outcome State Fault Refusal :=
  s.run fun s => ((s.addSat F.TIU_HOURS_HOURS 1).evalAgeing).recompute temp

end Sys2Proof.Machine
end

