-- ==== Sys2Proof/Machine/Apply.lean ====
section
/-! DEFINITION. A load from the end of its validation to the RUN state: the start of an STI_LOAD and the end of a validation (R77 to R80,
R87), the apply at S5 (R89, R91, R208), and the work of the two apply rotations (R89, R90, R99, R122, R123). -/

namespace Sys2Proof.Machine

/-! Loads (R76 to R80) -/

/-- Start an STI_LOAD as a background operation (R78): its source is copied (R77). -/
def State.startLoad (s : State) (i : Nat) : State :=
  let l := s.fget F.STI_STATUS_LOAD
  if (1 ≤ l ∧ l ≤ 3) ∨ s.fget F.UPD_LIFE_STATE = 5 then s.completeAs i Sts.LOCKED
  else
    let t := (s.beginOp i).fsetAll [(F.STI_STATUS_LOAD, 1), (F.STI_STATUS_BOOT, 0)]
    let e := t.opE i
    if (e.par 0 4).testBit 31 then t.stageStruct else t.stage (e.par 0 4) (e.par 4 4) false

/-- The STI_LOAD whose validation runs. -/
def State.loadingOp (s : State) : Option Nat := (s.activeOps opSTI_LOAD).find? fun i => (s.opE i).started

/-- RADIO goes OFF, unless the host holds it ON (R336, R396). -/
def State.radioOff (s : State) : State :=
  if s.held domRADIO ∨ s.dom domRADIO = pwOFF ∨ s.hasRadio = false then s else (s.dropWake domRADIO).enterOff domRADIO

/-- The registers that show an active image and its duty read as in the idle rotation (R80). -/
def State.clearImageRegs (s : State) : State :=
  let s := s.setRegs ([Reg.SYS_DUTY, Reg.STI_ACTIVE_ID, Reg.STI_ACTIVE_VER, Reg.STI_ACTIVE_CRC, Reg.STI_ACTIVE_MCRC,
    Reg.STI_ACTIVE_LEN].map fun a => (a, 0))
  let s := s.setRegs ((List.range 64).flatMap fun n => [(Reg.ROT_FACET n, 0), (Reg.ROT_FNEED n, 0)])
  s.fsetAll [(F.ROT_CFG_K, 4), (F.ROT_CFG_CEILING, 0), (F.STI_STATUS_ACTIVE, 0), (F.LDG_STATUS_KIND, 0)]

/-- No image is active any more, after a boot load re-run that failed validation: the Lens runs the idle rotation, SYS_DUTY and CEILING
read zero (R80). What the image had in flight is discarded, at once (DESIGN CHOICE, log 185). -/
def State.dropImage (s : State) : State :=
  match s.image with
  | none => s
  | some old =>
    let s := (s.discardWork.stopRole 0).setRot fun r => { r with entry := none, fog := false, late := [], back := lsIDLE }
    let s := { s with image := none, lastImage := some old }.clearImageRegs
    let s := if s.lens = lsRECOVER then s else s.fset F.ROT_CFG_STATE lsIDLE
    ((s.setPwr fun p => { p with devHold := clrBit p.devHold domRADIO }).setRest domRADIO true).radioOff

/-- The end of a validation (R78 to R80). DESIGN CHOICE (log 147): STI_ERR_AT.ENTRY shows an index of 256 or more modulo 256. -/
def State.validationDone (s : State) : State :=
  if s.fget F.STI_STATUS_LOAD ≠ 1 then s
  else
    let op := if s.fbit F.STI_STATUS_BOOT then none else s.loadingOp
    let done := fun (s : State) (st res : Nat) => match op with
      | some i => s.complete i st 0 0 res
      | none => s
    let r := s.checkStaged
    match r.1 with
    | none =>
      let rot := s.regN Reg.ROT_NUM
      done ((r.2.fsetAll [(F.STI_STATUS_LOAD, 2), (F.STI_STATUS_ERROR, 0)]).setRegs [(Reg.STI_ERR_AT, 0), (Reg.STI_ARM_ROT, rot)]) Sts.DONE rot
    | some e =>
      let t := (r.2.fsetAll [(F.STI_STATUS_LOAD, 0), (F.STI_STATUS_ERROR, e.code), (F.STI_ERR_AT_OFFSET, e.off),
        (F.STI_ERR_AT_ENTRY, e.entry)]).addSat F.STI_LOADS_REJECTED 1
      let t := if t.fbit F.STI_STATUS_BOOT then (t.setPwr fun p => { p with retain := 3 }).dropImage else t
      done t Sts.REFUSED 0

/-! The apply (R89) -/

/-- The blocks with a commit register in ascending region order (R55, R92). -/
def commitBlocks : List CommitBlock := [.afe, .ech, .flw, .tmu, .ldg, .rad, .msh]

/-- Region number of a block. -/
def commitRegion : CommitBlock → Nat
  | .afe => 4 | .ech => 6 | .flw => 7 | .tmu => 8 | .ldg => 9 | .rad => 10 | .msh => 11

/-- Its commit register. -/
def commitReg (b : CommitBlock) : Nat := commitRegion b * 0x10000 + 0x7FC
def commitReqF (b : CommitBlock) : Fld := ⟨commitReg b, 0, 1⟩
def commitSeqF (b : CommitBlock) : Fld := ⟨commitReg b, 8, 8⟩

/-- Every commit request is cancelled (R89 step 5). -/
def State.cancelCommits (s : State) : State := commitBlocks.foldl (fun (t : State) (b : CommitBlock) => t.fset (commitReqF b) 0) s

/-- ROT_FACETn and ROT_FNEEDn of the active image (R60, R64, R65). -/
def State.applySchedule (s : State) (img : Image) : State :=
  let fs := expandFacets img.facets
  (List.range 64).foldl (fun (t : State) (n : Nat) =>
    let w := fs.getD n 0
    let need := if facetKind w = kCONTINUE then 0 else t.needOf fs n * 4096 + t.currentOf w
    t.setRegs [(Reg.ROT_FACET n, w), (Reg.ROT_FNEED n, need)]) s

/-- AFE_SPANn, AFE_FWn and the gains of the image's chords (R101, R107, R116); chords it does not define read zero. -/
def State.applyChords (s : State) (img : Image) : State :=
  let fs := expandFacets img.facets
  (List.range 8).foldl (fun (t : State) (n : Nat) =>
    (match t.chordCfg n with
      | some c => t.setRegs [(Reg.AFE_SPAN n, t.chordSpan c + t.chordBudget fs img.k c * 2 ^ 16), (Reg.AFE_FW n, freqWord c.freq)]
      | none => t.setRegs [(Reg.AFE_SPAN n, 0), (Reg.AFE_FW n, 0)]).presetGain n) s

/-- Forget the last census (R122, R123). -/
def State.clearCensus (s : State) : State :=
  ((List.range 16).foldl (fun (t : State) (p : Nat) => t.setRegN (Reg.AFE_CENSUS p) 0) s).fset F.AFE_STATUS_CENSUS 0

/-- Rest states under a new image (R336). -/
def State.applyRest (s : State) (img : Image) : State :=
  let s := s.setPwr fun p => { p with retain := img.retain, devHold := clrBit p.devHold domRADIO }
  let s := [domCAPT, domAFE, domTIU, domTMU].foldl (fun (t : State) (k : Nat) => t.setRest k false) s
  let s := ((s.setRest domECH s.hostEcho).setRest domRADIO img.radio.isNone).setRest domNVM true
  let s := s.when img.radio.isNone State.radioOff
  (maskList 16 img.retain).foldl (fun (t : State) (b : Nat) => t.setRest (domMEM b) false) s

/-- Device faults `cs` detected in the cycle in which an apply advances the epoch: recorded with STI_RELOAD, and the Lens recovers (R40,
R53). -/
def State.reloadFaults (s : State) (cs : List Nat) : State :=
  if cs.isEmpty then s
  else
    let s := if cs.contains fcPOISON_EXEC then s.consumed else s
    let s := (cs.foldl (fun (u : State) (c : Nat) => u.fsetBit F.SYS_FAULT_CAUSE_HIST (c - 1)) s).sleepCut.lensFault
    if cs.contains fcBROWNOUT then s.resetDomains.afterBrownout else s

/-- S5 with an armed load: R89 steps 1 to 6 at a fresh die temperature; `cs` are device faults detected in the same cycle (R40). -/
def State.applyImage (s : State) (temp : BitVec 16) (cs : List Nat) : State :=
  let s := (((s.advanceEpoch (cs.foldl min fcSTI_RELOAD)).fsetBit F.SYS_FAULT_CAUSE_HIST (fcSTI_RELOAD - 1)).discardWork).wakeEvent [domCORE]
  let s := s.setRot fun r => { r with entry := none, fog := false, late := [] }
  let s := s.copyWords stagedBase activeCopy 1024
  let img := readImage (s.peek activeCopy 16384)
  let old := match s.image with
    | some i => some i
    | none => s.lastImage
  let s := { s with image := some img, lastImage := none }
  let s := (s.resetRwp).writeTunes (img.tune ++ img.mtune)
  let s := s.cancelCommits
  let s := s.setRegs [(Reg.SYS_DUTY, img.duty), (Reg.STI_ACTIVE_ID, img.id), (Reg.STI_ACTIVE_VER, img.ver), (Reg.STI_ACTIVE_CRC, img.crc),
    (Reg.STI_ACTIVE_MCRC, img.mcrc), (Reg.STI_ACTIVE_LEN, img.len)]
  let s := s.fsetAll [(F.ROT_CFG_K, img.k), (F.ROT_CFG_CEILING, img.ceiling), (F.ROT_CFG_STATE, lsAPPLY1), (F.STI_STATUS_LOAD, 3),
    (F.STI_STATUS_ACTIVE, 1), (F.LDG_STATUS_KIND, img.kind)]
  let s := s.addSat F.STI_LOADS_APPLIED 1
  let s := ((s.applySchedule img).applyChords img).clearCensus
  let s := ((s.echApply img).flwApply).tmuApply
  let s := s.fset F.LDG_STATUS_ZTAB_BAD (b2n s.zTabBad)
  let s := (s.recompute temp).meshApply old img
  let bands := fun (o : Option Image) => match o with
    | some i => match i.radio with | some r => r.subs | none => []
    | none => []
  let s := { s with rad := { s.rad with bins := govRemap (bands old) (bands (some img)) s.rad.bins } }
  (s.applyRest img).reloadFaults cs

/-! The apply rotations (R89, R90) -/

/-- Domains that an apply rotation wakes. -/
def applyDoms : List Nat := [domCORE, domAFE, domTIU, domTMU]

/-- A chord with a port the census reports absent or shorted becomes FAILED (R90, R173). -/
def State.censusChords (s : State) : State :=
  s.chordCfgs.foldl (fun (t : State) (c : ChordCfg) =>
    let bad := fun (p : Nat) => decide (2 ≤ t.fget (F.AFE_CENSUS_STATE p))
    if bad c.portA || bad c.portB then t.failChord c.chord fcCENSUS else t) s

/-- A census that starts anew forgets the results of an interrupted one, the chords that it failed with them (R90). -/
def State.restartCensus (s : State) : State :=
  (List.range 8).foldl (fun (t : State) (n : Nat) =>
    if t.chordState n = chFAILED ∧ t.chordCause n = fcCENSUS then
      t.fsetAll [(F.FLW_CHST_STATE n, chHEALTHY), (F.FLW_CHST_FCAUSE n, 0)]
    else t) s.clearCensus

/-- The work of APPLY1: the census, whose rises to 1.0 V in coarse periods are given port by port (none: not reached), and the sensor
presence check. The turns count from the LFT at hand (DESIGN CHOICE, log 195); the port that a list cut short would measure next stays in
CENSUS (R95). -/
def State.apply1Work (s : State) (rises : List (Option Nat)) : State :=
  if s.lens ≠ lsAPPLY1 then s
  else
    let s := ((s.requestWakes applyDoms).planCensus rises).restartCensus
    let s := s.censusAll 0 (rises.take s.ports)
    let s := (if s.ports ≤ rises.length then s.fset F.AFE_STATUS_CENSUS 1 else s.setPort rises.length .census).censusChords
    if s.elemMask = 0 ∨ s.tmu.conv.isSome then s else s.startConv .apply1 s.elemMask 1

def execApply1Work (rises : List (Option Nat)) (s : State) : Host.Outcome State Fault Refusal := s.run fun s => s.apply1Work rises

/-- The work of APPLY2: the drive rail is requested, the TIU wakes and locks, every element is converted. -/
def State.apply2Work (s : State) : State :=
  if s.lens ≠ lsAPPLY2 then s
  else
    let s := (s.requestWakes applyDoms).requestVdrv
    if s.elemMask = 0 ∨ s.tmu.conv.isSome then s else s.startConv .apply2 s.elemMask s.navg

def execApply2Work (s : State) : Host.Outcome State Fault Refusal := s.run State.apply2Work

/-- S1 of the mark that ends an apply rotation: unfinished work is abandoned and its domains rest (R90); a conversion so ended counts in
TMU_CNT (DESIGN CHOICE, log 200). -/
def State.endApply (s : State) : State :=
  if s.lensBack = lsAPPLY1 ∨ s.lensBack = lsAPPLY2 then
    let s := match s.tmu.conv with
      | some c => if c.why == ConvWhy.apply1 || c.why == ConvWhy.apply2 then s.abandonConv else s
      | none => s
    let s := { s with afe := { s.afe with ports := List.replicate 16 .park, turns := [] } }
    s.restDoms [domTMU, domTIU, domAFE, domCORE]
  else s

end Sys2Proof.Machine
end

