-- ==== Sys2Proof/Machine/MemOps.lean ====
section
/-! DEFINITION. The memory unit's own operations: SCRUB (R325, R326), the ECC log's snapshot and clear (R327), retired rows and pages
(R328 to R330), NVM_WRITE (R331 to R333), the flip mask (R324) and the policies (R317). -/

namespace Sys2Proof.Machine

def State.setMemu (s : State) (f : Memu → Memu) : State := { s with memu := f s.memu }

/-! SCRUB (R326) -/

/-- Start a SCRUB: the summary registers are zeroed. -/
def State.startScrub (s : State) (i : Nat) : State :=
  let s := (s.beginOp i).setMemu fun m => { m with scrub := some (i, 0) }
  s.setRegs [(Reg.MEM_SCR_READ, 0), (Reg.MEM_SCR_CORR, 0), (Reg.MEM_SCR_WB, 0), (Reg.MEM_SCR_UE, 0), (Reg.MEM_SCR_FIRST, 0),
    (Reg.MEM_SCR_LAST, 0)]

/-- Add 1 to a counter register of 32 bits. -/
def State.countUp (s : State) (a : Nat) : State := s.setRegN a (s.regN a + 1)

/-- The domain that a SCRUB woke returns to its rest state, where nothing else holds it (R326, R336). -/
def State.scrubRest (s : State) : State :=
  match s.memu.scrubDom with
  | none => s
  | some k => (s.setMemu fun m => { m with scrubDom := none }).restDom k

/-- One wake opens the memory of host address a for a SCRUB, and the domain stays ON until the scrub leaves it or pauses (R295, R326). -/
def State.scrubOpen (s : State) (a : Nat) : State :=
  match regionOf a with
  | none => s
  | some r =>
    let k := regionDom r
    let s := if s.memu.scrubDom.isSome ∧ s.memu.scrubDom ≠ some k then s.scrubRest else s
    if s.dom k = pwOFF ∨ s.dom k = pwRETAIN then
      let t := s.wakeAccess r
      if t.memu.scrub.isNone then t else (t.setDom k pwON).setMemu fun m => { m with scrubDom := some k }
    else s

/-- One word of a scrub at host address `a`: read, and counted by what was found. -/
def State.scrubAt (s : State) (a : Nat) : State :=
  let r := (s.scrubOpen a).readWord a .scrubber
  let s := r.2.countUp Reg.MEM_SCR_READ
  let corrected := fun (s : State) =>
    let s := s.countUp Reg.MEM_SCR_CORR
    if writesBack a then s.countUp Reg.MEM_SCR_WB else s
  let bad := fun (s : State) =>
    let s := if s.regN Reg.MEM_SCR_UE = 0 then s.setRegN Reg.MEM_SCR_FIRST a else s
    (s.countUp Reg.MEM_SCR_UE).setRegN Reg.MEM_SCR_LAST a
  match r.1.found with
  | .ce1 _ => corrected s
  | .ce2 _ _ => corrected s
  | .poisoned => bad s
  | .ue => bad s
  | _ => s

/-- The end of a SCRUB. -/
def State.endScrub (s : State) (i status upper : Nat) : State :=
  let s := s.scrubRest.setMemu fun m => { m with scrub := none }
  let res := if status = Sts.DONE then min 0xFFFF (s.regN Reg.MEM_SCR_UE) + min 0xFFFF (s.regN Reg.MEM_SCR_CORR) * 2 ^ 16 else 0
  s.complete i status upper 0 res

/-- The scrubber handles its next word; a passed deadline ends it there (R306, R326). A device fault that the access finds has discarded
it. -/
def State.scrubWord (s : State) : State :=
  match s.memu.scrub with
  | none => s
  | some (i, done) =>
    let e := s.opE i
    let s := s.scrubAt (e.par 0 3 + done)
    if s.memu.scrub.isNone then s
    else
      let s := s.setMemu fun m => { m with scrub := some (i, done + 16) }
      if done + 16 ≥ e.par 4 4 then s.endScrub i Sts.DONE 0
      else if s.opExpiring i then s.endScrub i Sts.CANCELLED upDEADLINE else s

/-! The ECC log (R327) -/

/-- A read of MEM_LOG_CTL shows the whole log in the entry registers. -/
def State.logSnapshot (s : State) : State :=
  let l := s.memu.log
  let s := s.fsetAll [(F.MEM_LOG_CTL_NEXT, s.memu.logNext), (F.MEM_LOG_CTL_VALID, l.length)]
  (List.range 32).foldl (fun (t : State) (p : Nat) =>
    let e := l.getD ((t.memu.logNext + 31 - p) % 32) {}
    t.setRegs [(Reg.MEM_LOG_ADDR p, e.addr + e.count * 2 ^ 24), (Reg.MEM_LOG_INFO p, e.info), (Reg.MEM_LOG_ROT p, e.rot)]) s

/-- CLEAR empties the log. -/
def State.logClear (s : State) : State := s.setMemu fun m => { m with log := [], logNext := 0 }

/-! Retired rows and pages (R329, R330) -/

abbrev rtBUSY : Nat := 1
abbrev rtDONE : Nat := 2
abbrev rtREFUSED : Nat := 3

/-- The next free spare row of a bank. -/
def State.freeRow (s : State) (b : Nat) : Option Nat := (List.range 4).find? fun u => !bitAt (s.regN (Reg.MEM_REMAP b)) (8 * u + 5)

/-- MEM_RETIRE.GO. -/
def State.retireRow (s : State) (b r : Nat) : State :=
  if s.memu.rowCopy.isSome then s
  else
    match (if s.banks ≤ b ∨ (s.rowSpare b r).isSome then none else s.freeRow b) with
    | none => s.fset F.MEM_RETIRE_ST_ROWST rtREFUSED
    | some u => ((s.hostTouch (0x100000 + b * 0x8000)).setMemu fun m => { m with rowCopy := some (b, r, u) }).fset F.MEM_RETIRE_ST_ROWST rtBUSY

/-- Copy a row's words through the code: what each held, and the state after the reads. -/
def State.readRow (s : State) (a : Nat) : Nat → List WordRead × State
  | 0 => ([], s)
  | n + 1 =>
    let r := s.readWord a .copy
    let q := r.2.readRow (a + 16) n
    (r.1 :: q.1, q.2)

/-- Store words, the poison with them (R321). -/
def State.storeRow (s : State) (a : Nat) : List WordRead → State
  | [] => s
  | w :: t => (if w.poison then s.writePoison a w.data else s.writeWord a w.data).storeRow (a + 16) t

/-- The copy completes: the remap entry is written and the spare serves the row. -/
def State.rowCopyDone (s : State) : State :=
  match s.memu.rowCopy with
  | none => s
  | some (b, r, u) =>
    let a := 0x100000 + b * 0x8000 + r * 0x400
    let q := s.readRow a 64
    let s := q.2.setRegN (Reg.MEM_REMAP b) (putBits (q.2.regN (Reg.MEM_REMAP b)) (8 * u) 6 (r + 32))
    let s := s.storeRow a q.1
    (s.setMemu fun m => { m with rowCopy := none }).fset F.MEM_RETIRE_ST_ROWST rtDONE

/-- Is page q in the NVM slot that is active? -/
def State.inActiveSlot (s : State) (q : Nat) : Bool := q / 256 == s.fget F.UPD_STATUS_SLOT

/-- Does an update use the slots (R330, R383)? -/
def State.updBusy (s : State) : Bool := s.fget F.UPD_STATUS_STATE != 0

/-- Entries of the retire list in use. -/
def State.listUsed (s : State) : Nat := ((List.range 64).filter fun i => s.fbit (F.MEM_NVLIST_VALID i)).length

/-- MEM_RETIRE.NVGO: an erased spare serves the page from now on. -/
def State.retirePage (s : State) (q : Nat) : State :=
  let n := s.listUsed
  if s.inActiveSlot q || s.updBusy || 64 ≤ n || (s.pageSpare q).isSome then s.fset F.MEM_RETIRE_ST_PAGEST rtREFUSED
  else
    let s := s.fsetAll [(F.MEM_NVLIST_PAGE n, q), (F.MEM_NVLIST_VALID n, 1)]
    s.fsetAll [(F.MEM_RETIRE_ST_PAGEST, rtDONE), (F.MEM_RETIRE_ST_NVFREE, 63 - n)]

/-! NVM_WRITE (R332, R333) -/

/-- Start an NVM_WRITE in an NVM facet. -/
def State.startNvm (s : State) (i : Nat) : State :=
  let e := s.opE i
  (s.beginOp i).setMemu fun m => { m with nvm := some { op := i, src := e.par 0 3, dst := e.par 4 3, pages := e.par 8 2 } }

/-- Program one word of a page from its source word: the word programmed verifies or not; a poisoned source word is copied as poisoned. -/
def State.programFrom (s : State) (src dst : Nat) (bad : Bool) : Bool × Bool × State :=
  let r := s.readWord src .copy
  let want := if r.1.poison then Ecc.encodePoison r.1.data else Ecc.encode r.1.data
  let s := if bad then r.2.scrambleWord dst else r.2.storeWord dst want
  (bad || s.symsAt (s.phys dst) != want, r.1.poison, s)

/-- Program n words upwards: the index of the first that fails verify, the poisoned words, and the state after; `w` is the index of the
word at `dst`. -/
def State.programPage (s : State) (src dst w : Nat) (bad : Option Nat) : Nat → Option Nat × Nat × State
  | 0 => (none, 0, s)
  | n + 1 =>
    let r := s.programFrom src dst (bad == some w)
    let q := r.2.2.programPage (src + 16) (dst + 16) (w + 1) bad n
    (if r.1 then some w else q.1, b2n r.2.1 + q.2.1, q.2.2)

/-- An attempt at the current page ends: erase, program, verify; `bad` names a word that does not take its program (R332, R333, R47, R49). -/
def State.nvmAttempt (s : State) (bad : Option Nat) : State :=
  match s.memu.nvm with
  | none => s
  | some j =>
    let src := j.src + 0x800 * j.done
    let dst := j.dst + 0x800 * j.done
    let r := (s.erasePage dst).programPage src dst 0 bad 128
    let s := r.2.2
    let stop := fun (s : State) => s.setMemu fun m => { m with nvm := none }
    match r.1 with
    | none =>
      let j := { j with done := j.done + 1, fails := 0, poison := j.poison + r.2.1 }
      let s := s.setOp j.op { s.opE j.op with lower := 0 }
      if j.done ≥ j.pages then (stop s).complete j.op Sts.DONE 0 0 (j.done + min 0xFFFF j.poison * 2 ^ 16)
      else if s.opExpiring j.op then (stop s).complete j.op Sts.CANCELLED upDEADLINE 0 0
      else s.setMemu fun m => { m with nvm := some j }
    | some w =>
      let s := s.logEvent (dst + 16 * w) clsVERIFY .nvmProgram (s.strict dst) 0 0
      let s := s.setOp j.op { s.opE j.op with lower := loVERIFY_FAIL }
      if s.opExpiring j.op then (stop s).complete j.op Sts.CANCELLED upDEADLINE loVERIFY_FAIL 0
      else if j.fails + 1 ≥ 3 then (stop s).complete j.op Sts.CANCELLED 0 loVERIFY_FAIL 0
      else s.setMemu fun m => { m with nvm := some { j with fails := j.fails + 1 } }

/-! The flip mask and the policies (R317, R324) -/

/-- Does an ARM for a region complete LOCKED? -/
def State.armLocked (s : State) (region : Nat) : Bool :=
  20 ≤ region || (region == 19 && 3 ≤ s.fget F.UPD_LIFE_STATE) || (region < 16 && s.banks ≤ region)

/-- ARM of the flip mask for a region. -/
def State.flipArm (s : State) (region : Nat) : State := s.fsetAll [(F.MEM_FLIP_CTL_REGION, region), (F.MEM_FLIP_CTL_ARM, 1)]

/-- DISARM: ARM and the masks clear. -/
def State.flipDisarm (s : State) : State :=
  ((List.range 5).foldl (fun (t : State) (i : Nat) => t.setRegN (Reg.MEM_FLIP i) 0) s).fset F.MEM_FLIP_CTL_ARM 0

/-- Banks whose policy bits cannot be 0: BANK0, and the keeper banks while the role runs. -/
def State.forcedStrict (s : State) : Nat :=
  match s.image with
  | some i => if s.isKeeper then maskOf (0 :: (List.range i.keeperBanks).map (i.keeperBank + ·)) else 1
  | none => 1

/-- A write of MEM_POLICY; bits of absent banks stay 0 (R4). -/
def State.policyWrite (s : State) (v : Nat) : State :=
  s.fsetAll [(F.MEM_POLICY_BANK, ((v % 2 ^ 16).lor s.forcedStrict) % 2 ^ s.banks), (F.MEM_POLICY_SLOTA, bitsOf v 16 1), (F.MEM_POLICY_SLOTB, bitsOf v 17 1)]

end Sys2Proof.Machine
end

