-- ==== Sys2Proof/Machine/Lens.lean ====
section
/-! DEFINITION. The Lens in a rotation: facets with their entries (R52, R60 to R63, R71), background work (R62), NVM facets, host windows,
shots and captures (R67 to R69, R113 to R120, R189 to R192), echo steps (R144, R145, R177) and conversions (R209 to R213). -/

namespace Sys2Proof.Machine

/-! Time in the rotation -/

/-- Show the facet in progress (ROT_NOW). -/
def State.showNow (s : State) : State :=
  let f := min 63 (s.rot.lft / s.facetLft)
  s.fsetAll [(F.ROT_NOW_FACET, f), (F.ROT_NOW_OFFSET, s.rot.lft - f * s.facetLft)]

/-- Move the rotation to an LFT. -/
def State.setLft (s : State) (n : Nat) : State := (s.setRot fun r => { r with lft := n }).showNow

/-- Does work of `us` µs that starts t ns after the mark end by the end of the usable time of entry n? -/
def State.fits (s : State) (n t us : Nat) : Bool := 64 * t + 64000 * us ≤ s.entryEnd n * lftUnits

/-- The schedule word of the entry in progress. -/
def State.nowWord (s : State) : Nat := match s.rot.entry with | some n => s.facetWord n | none => 0xF

/-- Does the entry in progress admit a host class: 0 shots, 1 conversions, 2 background (R60)? -/
def State.admits (s : State) (c : Nat) : Bool := s.inKind kHOST && (facetArg s.nowWord).testBit c

/-! Background operations (R62) -/

/-- Types of background operations. -/
def isBackground (type : Nat) : Bool := type == opSCRUB || type == opSLINK_SET || type == opSTI_LOAD

/-- The ACTIVE background operations in order of acceptance. -/
def State.bgOps (s : State) : List Nat :=
  ((List.range 16).filter fun i => (s.opE i).st == .active && isBackground (s.opE i).type).mergeSort fun i j => (s.opE i).acc ≤ (s.opE j).acc

/-- Do background operations run in the entry in progress? In an IDLE facet in which a buoy listens none does (R276). -/
def State.bgFacet (s : State) : Bool := !s.rot.fog && ((s.inKind kIDLE && !s.listens) || s.admits 2)

/-- Does background work wait? -/
def State.bgWaits (s : State) : Bool := s.pwr.vdrvReq || !s.bgOps.isEmpty

/-- Start a background operation. -/
def State.startBg (s : State) (i : Nat) : State :=
  let t := (s.opE i).type
  if t = opSCRUB then s.startScrub i else if t = opSLINK_SET then s.startSlink i else s.startLoad i

/-- Start the next background operation while none runs; one that completes at its start makes room for the next. -/
def State.bgNext (s : State) : Nat → State
  | 0 => s
  | n + 1 =>
    match s.bgOps with
    | i :: _ => if (s.opE i).started then s else (s.startBg i).bgNext n
    | [] => s

/-- Background work in a facet that allows it: a pending request of the drive rail (R99), then the operations. -/
def State.background (s : State) : State :=
  if !s.bgFacet then s
  else
    let s := if s.pwr.vdrvReq then (s.setPwr fun p => { p with vdrvReq := false }).requestVdrv else s
    s.bgNext 16

/-! NVM facets (R62, R234, R332) -/

/-- The LEDGER_COMMIT that waits for a commit. -/
def State.waitingCommit (s : State) : Option Nat := (s.activeOps opLEDGER_COMMIT).find? fun i => !(s.opE i).started

/-- Start an NVM_WRITE where no ledger commit runs (R332). -/
def State.writeNext (s : State) : State :=
  if s.rot.fog || !s.inKind kNVM || s.ldg.commit.isSome || s.memu.nvm.isSome then s
  else
    match s.activeOps opNVM_WRITE with
    | i :: _ => s.startNvm i
    | [] => s

/-- Start what waits for an NVM facet: a ledger commit that is due, else an NVM_WRITE. -/
def State.nvmNext (s : State) : State :=
  if s.rot.fog || !s.inKind kNVM then s
  else
    let w := s.waitingCommit
    let s := s.commitIfDue w
    let s := match w, s.ldg.commit with
      | some i, some c => if c.op == some i then s.beginOp i else s
      | _, _ => s
    s.writeNext

/-! Entries (R52, R60 to R63, R71) -/

/-- The role starts at the first FLASH or CONTEND entry; a keeper's radio stays ON and its banks are held at C1D3 (R258, R317). -/
def State.lensRole (s : State) : State :=
  let s := s.startRole
  if s.isKeeper && !s.pwr.devHold.testBit domRADIO then
    let s := (s.setPwr fun p => { p with devHold := setBit p.devHold domRADIO }).wakeEvent [domRADIO]
    s.forMask F.MEM_POLICY_BANK s.forcedStrict
  else s

/-- Latch the temperature of the shot facet for chords (R28). -/
def State.latchTemps (s : State) (cs : List ChordCfg) : State :=
  let t := s.flowTemp
  let s := cs.foldl (fun (u : State) (c : ChordCfg) => u.setEchc c.chord { u.echc c.chord with temp := t }) s
  { s with flw := { s.flw with temp := t } }

/-- Has a buoy, its role started or not, nothing to do in a radio entry that wakes no domain for it (R415): a DATA or CONTEND entry without
a frame queued, an operation waiting or an answer to come, a FLOOD entry without relaying and without an own flood, neither the one in
which a join request goes out? -/
def State.radioIdle (s : State) : Bool :=
  s.role == roleBUOY && !s.listens && s.msh.await.isNone && s.rad.job.isNone && s.rad.wait.isNone &&
    !(s.mst == bsJOIN && s.inKind s.joinKind) &&
    (((s.inKind kDATA || s.inKind kCONTEND) && s.msh.queues.all (·.isEmpty) && (s.activeOps opRADIO_TX).isEmpty &&
        (s.activeOps opRADIO_SCAN).isEmpty) ||
      (s.inKind kFLOOD && !s.fbit F.MSH_RETRY_RELAY && s.floodClass.isNone))

/-- The domains that the work of the entry in progress needs: those of its kind, CORE for background operations that wait, and CORE and
RADIO where a buoy listens in an IDLE facet (R60, R276, R415). -/
def State.entryMask (s : State) : Nat :=
  let m := if s.radioIdle then 0 else s.needMask s.nowWord
  let m := if s.bgFacet && s.bgWaits then m.lor (2 ^ domCORE) else m
  if s.inKind kIDLE && s.listens then m.lor (2 ^ domCORE + 2 ^ domRADIO) else m

/-- Is an entry in progress, outside a preemption, with every domain of it ON (R63)? -/
def State.entryReady (s : State) : Bool := s.rot.entry.isSome && !s.rot.fog && (maskList 27 s.entryMask).all s.isOn

/-- Start what waits for the kind of the entry in progress, once its domains are ON (R63). -/
def State.startWork (s : State) : State := if s.entryReady then s.background.nvmNext.radioNext.floodNext else s

/-- Wake the domains of the entry in progress, and start its work when they are ON: at the start of its facet, or where a preemption ends
(R63, R71, R340). -/
def State.serveEntry (s : State) : State :=
  if s.rot.entry.isNone || s.rot.fog then s
  else
    let m := s.entryMask
    ((s.setRot fun r => { r with woke := r.woke.lor m }).wakeEvent (maskList 27 m)).startWork

/-- An attempt on the supply link ends; a SLINK_SET that ends makes room for the next background operation (R62, R348, R349). -/
def execSupplyLinkAttempt (x : LinkEnd) (s : State) : Host.Outcome State Fault Refusal :=
  s.run fun s => (s.slinkAttempt x.ack x.also.toNat).startWork

/-- The timeout of a wake's or an entry's transaction (R350). -/
def execDomainTransitionTimeout (s : State) : Host.Outcome State Fault Refusal :=
  s.run fun s => (s.transitionTimeout 0).startWork

/-- The validation of a load ends (R78); an STI_LOAD that ends makes room for the next background operation (R62). -/
def execStiValidationDone (s : State) : Host.Outcome State Fault Refusal := s.run fun s => s.validationDone.startWork

/-- Enter entry n. -/
def State.enterEntry (s : State) (n : Nat) : State :=
  let s := s.setRot fun r => { r with entry := some n }
  let w := s.facetWord n
  let k := facetKind w
  let s := if k = kFLASH ∨ k = kCONTEND then s.lensRole else s
  let s := if k = kSHOT then s.latchTemps (s.chordsIn (facetArg w)) else if s.admits 0 then s.latchTemps s.hostSet else s
  s.serveEntry

/-- The steps of a chord mask on this rotation's hardware shots are abandoned: their slots become FREE, their records follow at S1 (R144,
R167). -/
def State.freeSteps (s : State) (m : Nat) : State :=
  ((maskList 8 m).map fun c => c + 8 * (s.regN Reg.ROT_NUM % 2)).foldl (fun (u : State) (k : Nat) =>
    if u.slotState k = slotFULL ∧ u.fbit (F.AFE_SLOT_CTL_HOST k) = false ∧ u.regN (Reg.AFE_SLOT_ROT k) = u.regN Reg.ROT_NUM then
      u.setSlot k slotFREE
    else u) s

/-- An entry is abandoned for this rotation (R52, R71): counted; a flash listen is a missed flash; a conversion counts as abandoned
(R213); an ECHO entry's hardware steps free their slots. -/
def State.abandonEntry (s : State) (n : Nat) : State :=
  let s := s.addSat F.ROT_PREEMPT_CNT_ABANDONED 1
  let w := s.facetWord n
  if facetKind w = kFLASH ∧ s.keepsWindows then s.flashMissed
  else if facetKind w = kECHO then (if s.hostEcho || s.hostShots then s else s.freeSteps (facetArg w))
  else if facetKind w = kCONV ∧ (facetArg w % 32).land s.elemMask ≠ 0 then s.addSat F.TMU_CNT_ABANDONED 1
  else s

/-- The need of entry n as the load reported it, in µs. -/
def State.needUs (s : State) (n : Nat) : Nat := s.fget (F.ROT_FNEED_NEED n)

/-- Does entry n occur in this rotation (R52): does its facet begin before the mark lead? -/
def State.occurs (s : State) (n : Nat) : Bool := n * s.facetLft + 1 < s.rot.len

/-- Is a facet the start of an entry that is active in this rotation (R61)? -/
def State.startsEntry (s : State) (f : Nat) : Bool :=
  facetKind (s.facetWord f) != kCONTINUE && facetActive (s.facetWord f) (s.regN Reg.ROT_NUM)

/-- Does the Lens run its schedule: the idle rotation or RUN (R53)? -/
def State.schedules (s : State) : Bool := s.lens == lsIDLE || s.lens == lsRUN

/-- An active entry starts t ns after the mark where its need fits (R52, R71), else it is abandoned. -/
def State.tryEntry (s : State) (n t : Nat) : State :=
  if s.occurs n && s.fits n t (s.needUs n) then s.enterEntry n else s.abandonEntry n

/-- Does the start of facet f in recovery pass over a flash window of a buoy (R287)? -/
def State.missesFlash (s : State) (f : Nat) : Bool :=
  s.lens == lsRECOVER && s.rot.back == lsRUN && facetKind (s.facetWord f) == kFLASH && s.keepsWindows

/-- Facet f begins; a facet that does not occur in a shortened rotation never does (R52). Facet 0 is served from the end of the mark
window (R54), which its row stands for. An entry whose facet begins during a preemption waits for its end (R71). In a shortened
rotation its need is tested again (R52). In recovery no entry starts (R53). The facets of an entry that is not active in this rotation
serve nothing, background operations neither (DESIGN CHOICE, log 190). -/
def State.facetStart (s : State) (f : Nat) : State :=
  if !s.occurs f then s
  else
    let s := s.setLft (max 2 (f * s.facetLft))
    if !s.startsEntry f then s
    else if !s.schedules then s.when (s.missesFlash f) State.flashMissed
    else
      let s := s.when (facetKind (s.facetWord f) == kNVM) State.ledgerFacet
      if s.rot.fog then s.setRot fun r => { r with late := r.late ++ [f] }
      else if s.rot.len < s.rotLft then s.tryEntry f ((s.rot.lft * lftUnits + 63) / 64)
      else s.enterEntry f

def execFacetStart (f : Fin 64) (s : State) : Host.Outcome State Fault Refusal := s.run fun s => s.facetStart f

/-- Domains of the entry in progress that the entry of the next facet keeps ON (R63). -/
def State.nextNeeds (s : State) (n : Nat) : Nat :=
  let m := n + facetSpan (s.facetWord n)
  if m < 64 ∧ s.startsEntry m ∧ s.occurs m then s.needMask (s.facetWord m) else 0

/-- An operation whose deadline passed ends where its work pauses (R306): an NVM_WRITE in an NVM facet, a scrub. -/
def State.endExpired (s : State) : State :=
  let s := match s.memu.nvm with
    | some j => if s.opExpiring j.op then (s.tearNvm).complete j.op Sts.CANCELLED upDEADLINE (s.opE j.op).lower 0 else s
    | none => s
  let s := match s.memu.scrub with
    | some (i, _) => if s.opExpiring i then s.endScrub i Sts.CANCELLED upDEADLINE else s
    | none => s
  let s := match s.loadingOp with
    | some i => if s.opExpiring i then (s.fset F.STI_STATUS_LOAD 0).complete i Sts.CANCELLED upDEADLINE 0 0 else s
    | none => s
  match s.ldg.commit with
  | some c => match c.op with
    | some i => if s.opExpiring i then
        (s.complete i Sts.CANCELLED upDEADLINE 0 0).setLdg fun l => { l with commit := some { c with op := none } }
      else s
    | none => s
  | none => s

/-- Domains rest at `at_` LFT after the mark (R63), and those that the next facet end was to rest are done; the steps E1 to E3 of each
entry that begins run from there (R341). -/
def State.restAt (s : State) (l : List Nat) (at_ : Nat) : State :=
  let s := s.setPwr fun p => { p with entered := l.filter (fun k => s.isOn k && !s.held k), enteredLft := at_, restNext := 0 }
  s.restDoms l

/-- A SCRUB pauses at a facet end, and the domain it woke rests with the others (R326, R336). -/
def State.scrubPauses (s : State) : State := s.setMemu fun m => { m with scrubDom := none }

/-- Domains that a fog frame needs at a facet end, in its preemption or on air outside one: they rest at the next one (R70, R73). -/
def State.fogHolds (s : State) : Nat :=
  if s.rot.fog || s.rad.job.any (·.fog) then 2 ^ domCORE + 2 ^ domRADIO else 0

/-- The usable time of the entry in progress ends, at a loaded VBAT for a SHOT entry: each domain that the Lens woke rests, but for those
that the next entry keeps ON (R63, R67, R354). -/
def State.facetEnd (s : State) (vbat : Nat) : State :=
  match s.rot.entry with
  | none =>
    let m := (s.pwr.restNext.lor s.rot.woke).lor (maskOf s.memu.scrubDom.toList)
    let air := m.land s.fogHolds
    ((s.scrubPauses.setRot fun r => { r with woke := 0 }).restAt ((maskList 27 m).filter fun d => !air.testBit d).reverse s.rot.lft).setPwr fun p =>
      { p with restNext := air }
  | some n =>
    let w := s.facetWord n
    let k := facetKind w
    let s := if k = kSHOT then s.vbatLoaded vbat else s
    let s := if kFLASH ≤ k ∧ k ≤ kCONTEND then s.radioFacetEnd k else s
    let s := if k = kNVM ∨ s.bgFacet then s.endExpired else s
    let m := ((if s.bgFacet then s.entryMask.lor (2 ^ domCORE) else s.entryMask).lor (s.needMask w)).lor
      ((s.pwr.restNext.lor s.rot.woke).lor (maskOf s.memu.scrubDom.toList))
    let keep := s.nextNeeds n
    let air := m.land s.fogHolds
    let s := s.scrubPauses.setRot fun r => { r with entry := none, woke := m.land keep }
    (s.restAt ((maskList 27 m).filter fun d => !keep.testBit d && !air.testBit d).reverse (s.entryEnd n)).setPwr fun p => { p with
      restNext := air }

def execFacetEnd (vbat : BitVec 16) (s : State) : Host.Outcome State Fault Refusal := s.run fun s => s.facetEnd vbat.toNat

/-- The mark lead begins (R54): one LFT before the mark; LDG wakes. -/
def execMarkLead (s : State) : Host.Outcome State Fault Refusal :=
  s.run fun s => (s.setLft (s.rot.len - 1)).wakeEvent [domLDG]

/-- An LF tick: the rotation counts, the clock advances, the trial window runs. With VAON gone only the clock in BKP counts. -/
def State.lfTick (s : State) : State :=
  if s.pwr.aonOff then s.rtcTick
  else
    let s := (s.setLft (s.rot.lft + 1)).rtcTick
    { s with upd := { s.upd with trialLft := s.upd.trialLft - 1 } }

def execLfTick (s : State) : Host.Outcome State Fault Refusal := .next s.lfTick

/-! Host measurements (R67 to R69, R190 to R192) -/

/-- Is an instant, in ns after the mark, past the mark window (R54)? -/
def pastWindow (t : Nat) : Bool := 2 * lftUnits ≤ 64 * t

/-- Is the host window that admits class c ready at t ns after the mark: its entry in progress, every domain of it ON, no preemption and
no mark window (R54, R67, R192)? -/
def State.windowReady (s : State) (c t : Nat) : Bool := s.admits c && s.entryReady && pastWindow t

/-- Does a host measurement run? -/
def State.measuring (s : State) : Bool := s.afe.shot.isSome || s.tmu.conv.isSome

/-- Is entry i a SHOT armed for TRIG? -/
def State.armedTrig (s : State) (i : Nat) : Bool := s.opIs i opSHOT && ((s.opE i).par 1 1).testBit 0

/-- Host measurements that wait and that the window admits, in order of acceptance; an armed shot waits for its edge. -/
def State.hostQueue (s : State) : List Nat :=
  ((List.range 16).filter fun i =>
    (s.opE i).st == .active && !(s.opE i).started &&
      (((s.opE i).type == opSHOT && !s.armedTrig i && s.admits 0) || ((s.opE i).type == opCONVERT && s.admits 1))).mergeSort
    fun i j => (s.opE i).acc ≤ (s.opE j).acc

/-- The level the device drives on SYNC at t ns after the mark, none as an input and in power-on reset (R311, R394): in mode 2 high from the first drive edge of a
shot to the close of its last window. -/
def State.syncLevel (s : State) (t : Nat) : Option Bool :=
  if s.pwr.aonOff then none else
  match s.fget F.HIF_CFG_SYNC_MODE with
  | 1 => some s.hif.sync
  | 2 => some (match s.afe.shot with
    | some h => decide (h.t0 + 24 ≤ t ∧ 2 * (t - (h.t0 + 24)) < h.span)
    | none => false)
  | _ => none

/-- The device drives edges on SYNC, which channel 21 is to stamp (R128, R311). -/
def State.driveSync (s : State) (l : List Bool) : State := { s with hif := { s.hif with syncEdges := s.hif.syncEdges ++ l } }

/-- A change of SYNC_MODE from the mode `old` takes effect at the write, with the edges of the pin that follow from it (R311): mode 1 drives
high within the LFT that begins with S6, mode 2 while a shot is in progress, whose last window the write is taken to precede (DESIGN
CHOICE, log 196). As an input the pin has no edges of the device. -/
def State.syncMode (s : State) (old : Nat) : State :=
  let new := s.fget F.HIF_CFG_SYNC_MODE
  let shot := s.afe.shot.isSome
  let pulse := new == 1 && s.rot.lft == 0
  let was := (old == 1 && s.hif.sync) || (old == 2 && shot)
  let q := if old = 2 ∧ shot then s.hif.syncEdges.dropLast else s.hif.syncEdges
  let e : List Bool :=
    if new = 1 then (if pulse == was then [] else [pulse])
    else if shot then (if was then [false] else [true, false])
    else if was then [false] else []
  { s with hif := { s.hif with sync := pulse, syncEdges := if new = 1 ∨ new = 2 then q ++ e else [] } }

/-- A shot begins on the SYNC pin and as an origin of event channels (R134, R311). -/
def State.noteShot (s : State) (t : Nat) : State :=
  let s := s.when (s.fget F.HIF_CFG_SYNC_MODE == 2) fun s => s.driveSync [true, false]
  let s := s.setLdg fun l => { l with shotAt := some (l.shotAt.getD (64 * t)) }
  s.evShotOrigins

/-- Does a host shot of the chords of a mask that fires at t ns after the mark finish at or before the end of its window (R68)? -/
def State.shotFits (s : State) (mask t : Nat) : Bool :=
  64 * (t + 24) + 32 * s.shotSpan mask ≤ s.entryEnd (s.rot.entry.getD 0) * lftUnits

/-- A host shot that a preemption held and that fails its finish test is abandoned (R71, R192). -/
def State.cancelShot (s : State) (i : Nat) : State := (s.completeAs i Sts.CANCELLED).addSat F.ROT_PREEMPT_CNT_ABANDONED 1

/-- The shots that a preemption held are decided at its end, t ns after the mark: one that fails its finish test, or whose window has
ended, is abandoned; the others fire once the window is ready again (R192). -/
def State.decideHeld (s : State) (t : Nat) : State :=
  (((List.range 16).filter fun i => s.opIs i opSHOT && (s.opE i).due && !(s.opE i).started)).foldl (fun (u : State) (i : Nat) =>
    if u.admits 0 && u.shotFits ((u.opE i).par 0 1) t then u else u.cancelShot i) s

/-- The fire decision of host shot i at t ns after the mark: the finish test, then the slot test (R68, R119, R190, R192). The flag says
whether it fired. -/
def State.decideShot (s : State) (i t : Nat) : Bool × State :=
  let e := s.opE i
  let mask := e.par 0 1
  if !s.shotFits mask t then
    (false, if e.due then s.cancelShot i else (s.completeAs i Sts.TOO_LATE).addSat F.ROT_LATE_CNT_LATE 1)
  else if s.freeSlots.length < popCount 8 mask then (false, (s.completeAs i Sts.REFUSED).addSat F.FLW_SHOT_CNT_NOSLOT 1)
  else (true, ((s.beginOp i).fireHost mask e.tag i t).noteShot t)

/-- The next immediate host shot reaches its fire decision; in a preemption it is held (R68, R192). -/
def State.hostShotFire (s : State) (t : Nat) : State :=
  match s.hostQueue with
  | i :: _ =>
    if (s.opE i).type ≠ opSHOT then s
    else if s.rot.fog then s.setOp i { s.opE i with due := true }
    else if s.windowReady 0 t && !s.measuring then (s.decideShot i t).2 else s
  | [] => s

def execHostShotFire (t : Nat) (s : State) : Host.Outcome State Fault Refusal := s.run fun s => s.hostShotFire t

/-- A TRIG edge (R33, R69). -/
def State.trigEdge (s : State) (t : Nat) : State :=
  match (s.activeOps opSHOT).find? fun i => s.armedTrig i && !(s.opE i).started with
  | some i =>
    if s.hostShots && s.windowReady 0 t && !s.measuring then
      let r := s.decideShot i t
      if r.1 then r.2.addSat F.ROT_TRIG_CNT_FIRED 1 else r.2
    else s.addSat F.ROT_TRIG_CNT_IGNORED 1
  | none => s.addSat F.ROT_TRIG_CNT_IGNORED 1

def execTrigEdge (t : Nat) (s : State) : Host.Outcome State Fault Refusal := s.run fun s => s.trigEdge t

/-- A SHOT entry's work starts: its chords fire t ns after the mark (R113). -/
def State.hwShotFire (s : State) (t : Nat) : State :=
  if s.inKind kSHOT && s.entryReady && pastWindow t && !s.hostShots && s.afe.shot.isNone then
    (s.fireHardware (facetArg s.nowWord) t).noteShot t
  else s

def execHwShotFire (t : Nat) (s : State) : Host.Outcome State Fault Refusal := s.run fun s => s.hwShotFire t

/-- The end of a host shot's capture (R191, R306): without on-chip echo it completes, with it the records are awaited. -/
def State.hostCaptured (s : State) (i slots : Nat) : State :=
  if s.opExpiring i then s.complete i Sts.CANCELLED upDEADLINE 0 0
  else if s.hostEcho then s.complete i Sts.DONE 0 0 (slots + 0xFFFF * 2 ^ 16)
  else { s with afe := { s.afe with hostShots := s.afe.hostShots ++ [{ op := i, slots := slots, left := slots }] } }

/-- A capture ends, 10 µs after the last window closed (R120): full-rate samples of RXA and RXB for every chord of the shot in order. -/
def State.captureComplete (s : State) (x : List (List (BitVec 12) × List (BitVec 12))) : State :=
  match s.afe.shot with
  | none => s
  | some h =>
    let s := ((List.range h.chords.length).zip h.chords).foldl (fun (u : State) (p : Nat × ShotChord) =>
      u.completeChord p.2 (x.getD p.1 ([], [])).1 (x.getD p.1 ([], [])).2) s
    let s := { s with afe := { s.afe with shot := none } }
    match h.op with
    | some i => s.hostCaptured i (maskOf (h.chords.map (·.slot)))
    | none => s

def execCaptureComplete (x : List (List (BitVec 12) × List (BitVec 12))) (s : State) : Host.Outcome State Fault Refusal :=
  s.run fun s => s.captureComplete x

/-! Echo steps (R144, R145, R167, R177) -/

/-- The record of slot k of a host shot was written at ring position pos: the SHOT completes with its last record (R191). -/
def State.shotRecord (s : State) (k pos : Nat) : State :=
  match s.afe.hostShots.find? fun h => h.left.testBit k with
  | none => s
  | some h =>
    let h' : HostShot := { h with left := clrBit h.left k, first := some (h.first.getD pos) }
    let rest := s.afe.hostShots.filter fun x => x.op != h.op
    if h'.left = 0 then
      ({ s with afe := { s.afe with hostShots := rest } }).complete h.op Sts.DONE 0 0 (h.slots + (h'.first.getD 0) % 2 ^ 16 * 2 ^ 16)
    else { s with afe := { s.afe with hostShots := s.afe.hostShots.map fun x => if x.op == h.op then h' else x } }

/-- Does slot k belong to the entry in progress: its chord in the mask, and with hardware shots the slot of this rotation's shot? -/
def State.echoSlot (s : State) (k : Nat) : Bool :=
  let c := s.fget (F.AFE_SLOT_CTL_CHORD k)
  s.slotState k == slotFULL && (facetArg s.nowWord).testBit c && s.fbit (F.AFE_SLOT_CTL_HOST k) == s.hostShots &&
    (s.hostShots || (k == c + 8 * (s.regN Reg.ROT_NUM % 2) && s.regN (Reg.AFE_SLOT_ROT k) == s.regN Reg.ROT_NUM))

/-- Run the meter-flow step once the last record of a rotation of hardware shots is written (R177). -/
def State.flowIfDone (s : State) : State :=
  if !s.hostShots && !s.hostFlow && !s.flw.stepped && s.ech.recs.length == s.chordCfgs.length then s.meterFlow s.heldPress else s

/-- Does the step of slot k fit, to the cycle, in the rest of the entry in progress at t ns after the mark (R145)? -/
def State.echoFits (s : State) (k t : Nat) : Bool :=
  match s.chordCfg (s.fget (F.AFE_SLOT_CTL_CHORD k)) with
  | some c =>
    3328 * t + 64000 * s.echoCycles c (s.fget (F.AFE_SLOT_CTL_DECIM k)) ≤ 52 * (s.entryEnd (s.rot.entry.getD 0) * lftUnits)
  | none => false

/-- Is it slot k's turn: host slots go in the order of their shots, those left aside whose step does not fit (R144)? -/
def State.echoTurn (s : State) (k t : Nat) : Bool :=
  !s.hostShots || (s.afe.fired.find? fun j => s.echoSlot j && (j == k || s.echoFits j t)) == some k

/-- A lane reaches slot k at t ns after the mark: the step runs where it still fits (R144, R145). -/
def State.echoStep (s : State) (k t : Nat) : State :=
  if s.hostEcho || !s.inKind kECHO || !s.entryReady || !pastWindow t || !s.echoSlot k || !s.echoTurn k t then s
  else
    match s.chordCfg (s.fget (F.AFE_SLOT_CTL_CHORD k)) with
    | none => s
    | some c =>
      if s.echoFits k t then
        let r := s.processSlot c k
        let s := { r.2 with afe := { r.2.afe with fired := r.2.afe.fired.filter fun j => j != k } }
        (s.shotRecord k r.1).flowIfDone
      else if s.hostShots then s else (s.setSlot k slotFREE).fset F.ECH_STATUS_LATE 1

def execEchoStep (k : Fin 16) (t : Nat) (s : State) : Host.Outcome State Fault Refusal := s.run fun s => s.echoStep k t

/-! Conversions (R209 to R213) -/

/-- A conversion reaches its start at t ns after the mark: a scheduled one, or the next host measurement when that is a CONVERT. -/
def State.conversionStart (s : State) (t : Nat) : State :=
  if s.tmu.conv.isSome || !s.entryReady || !pastWindow t then s
  else if s.inKind kCONV then
    let m := (facetArg s.nowWord % 32).land s.elemMask
    if m = 0 then s
    else if s.fits (s.rot.entry.getD 0) t (s.convUs m s.navg) then s.startConv .sched m s.navg
    else (s.fset F.TMU_STATUS_LATE 1).addSat F.TMU_CNT_LATE 1
  else
    match s.hostQueue with
    | i :: _ =>
      if (s.opE i).type ≠ opCONVERT ∨ s.windowReady 1 t = false ∨ s.measuring then s
      else
        let m := (s.opE i).par 0 1
        if s.fits (s.rot.entry.getD 0) t (s.convUs m s.navg) then (s.beginOp i).startConv (.op i) m s.navg
        else s.completeAs i Sts.TOO_LATE
    | [] => s

def execConversionStart (t : Nat) (s : State) : Host.Outcome State Fault Refusal := s.run fun s => s.conversionStart t

/-- A conversion ends without results; a CONVERT completes (R212, R213). -/
def State.dropConv (s : State) (upper : Nat) : State :=
  match s.tmu.conv with
  | none => s
  | some c =>
    match c.why with
    | .op i => (s.abandonConv).complete i Sts.CANCELLED upper 0 0
    | _ => s.abandonConv

/-- After a discharge: a CONVERT whose deadline has passed ends there unless it was the last (R306); it counts as abandoned (DESIGN CHOICE,
log 200). -/
def State.afterDischarge (s : State) : State :=
  match s.tmu.conv with
  | some c => match c.why with
    | .op i => if s.opExpiring i && s.cyclesLeft != 0 then s.dropConv upDEADLINE else s
    | _ => s
  | none => s

/-- An edge on pin n, GPIO0 to GPIO3: the level that SYS_GPIO_IO.IN shows. A pin that the device drives has none from outside (R395). -/
def State.gpioEdge (s : State) (n : Nat) (rising : Bool) : State :=
  if s.gpioFn n = 3 then s else { s with gpio := if rising then setBit s.gpio n else clrBit s.gpio n }

/-- An edge on SYNC: as an output the pin has only the edges that the device drives (R128, R311). -/
def State.syncEdge (s : State) (stamp : Nat) (rising : Bool) : State :=
  if s.fget F.HIF_CFG_SYNC_MODE = 1 ∨ s.fget F.HIF_CFG_SYNC_MODE = 2 then
    match s.hif.syncEdges with
    | x :: l => if x == rising then ({ s with hif := { s.hif with syncEdges := l } }).evEdge 5 stamp rising else s
    | [] => s
  else s.evEdge 5 stamp rising

/-- An edge on an event channel; channel 20 belongs to the conversion in progress (R130, R136, R195), channels 16 to 19 to the GPIO
pins (R128, R395), channel 21 to SYNC. -/
def execEventEdge (e : Fin 6) (stamp : Word) (rising : Bool) (s : State) : Host.Outcome State Fault Refusal :=
  s.run fun s =>
    if e.val = 4 then (s.dischargeEdge stamp.toNat rising).afterDischarge
    else if e.val < 4 then (s.gpioEdge e rising).evEdge e stamp.toNat rising
    else s.syncEdge stamp.toNat rising

def execDischargeTimeout (s : State) : Host.Outcome State Fault Refusal := s.run fun s => s.dischargeTimeout.afterDischarge

/-- The last cycle has ended: results are written and a CONVERT completes (R196, R212). -/
def State.conversionComplete (s : State) : State :=
  match s.tmu.conv with
  | none => s
  | some c =>
    if s.cyclesLeft ≠ 0 then s
    else
      let s := s.finishConv c
      match c.why with
      | .op i => s.complete i Sts.DONE 0 0 (s.convWord c.mask)
      | _ => s

def execConversionComplete (s : State) : Host.Outcome State Fault Refusal := s.run State.conversionComplete

/-- The ring loses lock; a conversion in progress ends without results (R126, R213). -/
def State.lockLoss (s : State) : State :=
  if s.isOn domTIU ∧ s.fbit F.TIU_STATUS_LOCK then s.loseLock.dropConv 0 else s

def execLockLoss (s : State) : Host.Outcome State Fault Refusal := s.run State.lockLoss

def execRelock (s : State) : Host.Outcome State Fault Refusal := s.run State.relockRing

/-- An origin other than a shot's edge (R134). -/
def execEventOrigin (e : Fin 6) (s : State) : Host.Outcome State Fault Refusal := s.run fun s => s.evOrigin e

def execCoarseOverflow (e : Fin 6) (s : State) : Host.Outcome State Fault Refusal := s.run fun s => s.evOverflow e

/-- A crossing on a port at a stamp from the shot's origin (R111, R127). -/
def execZeroCrossing (port : Fin 16) (stamp : Word) (x : Crossing) (s : State) : Host.Outcome State Fault Refusal :=
  s.run fun s => s.crossing port stamp.toNat x.rising x.swing

/-! Rows of the NVM and the scrubber -/

/-- The scrubber's next word, while background work runs. -/
def execScrubWord (s : State) : Host.Outcome State Fault Refusal :=
  s.run fun s => if s.bgFacet && s.entryReady then (s.scrubWord).startWork else s

/-- An attempt of an NVM_WRITE ends, in an NVM facet with no ledger commit in progress (R332); `bad` is a word that does not take its
program. -/
def execNvmPageAttempt (bad : Option (Fin 128)) (s : State) : Host.Outcome State Fault Refusal :=
  s.run fun s =>
    if s.inKind kNVM && s.entryReady && s.ldg.commit.isNone then (s.nvmAttempt (bad.map (·.val))).writeNext else s

def execRowCopyDone (s : State) : Host.Outcome State Fault Refusal := s.run State.rowCopyDone

/-- The commit interval has passed. -/
def execPeriodicCommit (s : State) : Host.Outcome State Fault Refusal :=
  s.run fun s => (s.setLdg fun l => { l with periodic := true })

/-- A ledger record finishes, `us` after its commit began; with the end of the commit what else is due in the facet starts. A power-fail commit, and one that a device fault found in progress, run outside
NVM facets too (R39, R234, R235, R237). -/
def State.recordProgram (s : State) (bad : Option Nat) (us : Nat) : State :=
  match s.ldg.commit with
  | none => s
  | some c =>
    if c.cause ≠ 2 ∧ c.runOn = false ∧ (s.rot.fog ∨ s.inKind kNVM = false) then s
    else
      let r := s.programNext bad us
      let s := match r.1 with
        | .done d => match d.op with
          | some i => r.2.complete i Sts.DONE 0 0 d.seq
          | none => r.2
        | .failed d => match d.op with
          | some i => r.2.complete i Sts.CANCELLED 0 loVERIFY_FAIL 0
          | none => r.2
        | _ => r.2
      s.nvmNext

def execLedgerRecordProgram (bad : Option (Fin 4)) (us : Nat) (s : State) : Host.Outcome State Fault Refusal :=
  s.run fun s => s.recordProgram (bad.map (·.val)) us

/-- An erase of a ledger page completes in an NVM facet with no commit in progress (R234). -/
def execLedgerPageErase (s : State) : Host.Outcome State Fault Refusal :=
  s.run fun s => if s.inKind kNVM && !s.rot.fog && s.ldg.commit.isNone then s.eraseLedgerPage.wantErase else s

def execPulseStart (p : Fin 2) (s : State) : Host.Outcome State Fault Refusal := s.run fun s => s.pulseStart p
def execPulseEnd (p : Fin 2) (s : State) : Host.Outcome State Fault Refusal := s.run fun s => s.pulseEnd p

end Sys2Proof.Machine
end

