-- ==== Sys2Proof/Machine/Fog.lean ====
section
/-! DEFINITION. Fog preemption (R70 to R74, R192) and the radio's events (R248, R253 to R255, R258 to R286): the listens, transmissions,
receptions and windows, with the fog frame's latency and the end of its preemption; the deadlines of operations (R47, R306). -/

namespace Sys2Proof.Machine

/-! The end of a preemption (R71, R192, R346) -/

/-- Domains that the next facet end rests. -/
def State.restLater (s : State) (l : List Nat) : State := s.setPwr fun p => { p with restNext := p.restNext.lor (maskOf l) }

/-- The preemption ends at t ns after the mark: the entry in progress and the entries whose facets began meanwhile go on, the shots that
it held are decided, and a sleep set that it stopped ends. -/
def State.endFog (s : State) (t : Nat) : State :=
  if !s.rot.fog then s
  else
    let l := s.rot.late
    let s := (s.setRot fun r => { r with fog := false, late := [], waking := false }).restLater [domCORE, domRADIO]
    let s := (l.foldl (fun (u : State) (n : Nat) => u.tryEntry n t) s.unshutWindow.serveEntry)
    (s.decideHeld t).sleepPreempted

/-- Is a fog frame of the device in its listen, on air, or in a random wait before its next attempt? -/
def State.fogActive (s : State) : Bool :=
  (match s.rad.job with | some j => (match j.why with | .own 2 _ => true | _ => false) | none => false) ||
    (match s.rad.wait with | some (.own 2 _) => true | _ => false)

/-- End the preemption where no fog frame is being sent and none is queued behind (R71, R74). -/
def State.settleFog (s : State) (t : Nat) : State :=
  if s.fogActive || s.rad.fogWait || !s.msh.events.isEmpty || 2 ≤ (s.queue 2).length then s else s.endFog t

/-! The event and its abort points (R70) -/

/-- A fog event at t ns after the mark: CORE wakes (R340, R341), and where a frame is sent for it, all other work is preempted. -/
def State.fogEvent (s : State) (t : Nat) : State :=
  match s.msh.events with
  | [] => s
  | e :: rest =>
    let s := s.setMsh fun m => { m with events := rest }
    let s := ((s.abandonRests t [domCORE]).requestWake domCORE).restLater [domCORE]
    if !s.fogSends then s.sleepPreempted
    else
      let s := if s.rot.fog then s else (s.addSat F.ROT_PREEMPT_CNT_PREEMPT 1).setRot fun r => { r with
        fog := true, waking := !s.entryReady }
      s.queueFog e (64 * t)

def execFogEvent (t : Nat) (s : State) : Host.Outcome State Fault Refusal := s.run fun s => s.fogEvent t

/-- Count an abandoned piece of work (R71). -/
def State.countAbandoned (s : State) : State := s.addSat F.ROT_PREEMPT_CNT_ABANDONED 1

/-- Release the domains of the entry in progress (R70). -/
def State.releaseEntry (s : State) : State := s.restDoms (maskList 27 ((s.needMask s.nowWord).lor s.entryMask)).reverse

/-- An echo step is abandoned at the end of its lane cycle: the slot is FREE, and its record follows at S1 (R144, R167). -/
def State.abandonEcho (s : State) (k : Nat) : State :=
  if s.slotState k ≠ slotFULL ∨ s.inKind kECHO = false then s
  else
    let s := if s.fbit (F.AFE_SLOT_CTL_HOST k) then
        { s with ech := { s.ech with lost := s.ech.lost ++
          [⟨s.fget (F.AFE_SLOT_CTL_CHORD k), s.regN (Reg.AFE_SLOT_ROT k), s.fget (F.AFE_SLOT_CTL_TAG k), k⟩] } }
      else s
    (s.setSlot k slotFREE).countAbandoned

/-- A wake in progress at the fog event completes and is released; its entry, not begun, waits for the end of the preemption. What is still
on its way ON, CORE apart, which the fog frame needs, goes to rest from there. -/
def State.deferEntry (s : State) : State :=
  match s.rot.entry with
  | some n =>
    if !s.rot.waking then s
    else
      let l := (maskList 27 s.entryMask).filter fun k => k != domCORE && (s.wakeOfDom k).isSome
      let s := l.foldl (fun (u : State) (k : Nat) => (u.dropWake k).setDom k pwON) s
      (s.releaseEntry).setRot fun r => { r with entry := none, late := n :: r.late, waking := false }
  | none => s

/-- An attempt is cut, on air or in its listen: a failed attempt without an acknowledgement (R70, R281). -/
def State.cutAttempt (s : State) (w : TxWhy) : State :=
  let s := { s.cutTx with rad := { s.cutTx.rad with busy := 0 } }
  match w with
  | .own c fl => s.attemptFailed c fl loNO_ACK
  | .host i => s.completeAs i Sts.CANCELLED
  | .relay => s.setMsh fun m => { m with relays := m.relays.tail }
  | .answer => s.setMsh fun m => { m with answer := none }
  | .down i => s.downFailed i loNO_ACK
  | .flash => s.addSat F.MSH_CNT_MISSED 1
  | .join _ => s.joinFailed

/-- A non-fog transmission is cut at the next bit: a lost attempt. -/
def State.abortTx (s : State) : State :=
  match s.rad.job with
  | some j => if j.fog || j.listen then s else s.cutAttempt j.why
  | none => s

/-- What a non-fog receive, listen or LBT in progress leaves behind. -/
def State.abortRx (s : State) : State :=
  let lbt := s.rad.job.filter fun j => j.listen && !j.fog
  let answer := match s.msh.await with | some (.own 2 _) => false | some _ => true | none => false
  if !(lbt.isSome || answer || s.msh.window || s.rad.rx.isSome || s.rad.scan.isSome) then s
  else
    let s := s.countAbandoned
    let s := match lbt with
      | some j => s.cutAttempt j.why
      | none => s
    let s := { s with rad := { s.rad with rx := none } }
    let s := if s.msh.window then s.flashMissed else s
    let s := match s.rad.scan with
      | some c => ({ s with rad := { s.rad with scan := none } }).completeAs c.op Sts.CANCELLED
      | none => s
    match s.msh.await with
    | some (.own 2 _) => s
    | some (.own c fl) => s.attemptFailed c fl loNO_ACK
    | some (.join _) => s.joinFailed
    | some (.down i) => if s.isKeeper then s.downFailed i loNO_ACK else s.setMsh fun m => { m with await := none }
    | _ => s

/-- An abort point of R70 is reached. Without a preemption it is the abort point of operations whose deadline passed (R306). -/
def State.abortPoint (s : State) (w : AbortWork) : State :=
  if !s.rot.fog then s.endExpired
  else
    match w with
    | .capture => s.releaseEntry
    | .markSeq => s
    | .wake => s.deferEntry
    | .slink => s
    | .echo slots => ((maskList 16 slots.toNat).foldl State.abandonEcho s).releaseEntry
    | .conversion => (if s.tmu.conv.isSome then (s.dropConv 0).countAbandoned else s).releaseEntry
    | .nvm => (s.endExpired).releaseEntry
    | .transmission => s.abortTx
    | .reception => s.abortRx
    | .background => s.endExpired.scrubRest

def execAbortPoint (w : AbortWork) (s : State) : Host.Outcome State Fault Refusal := s.run fun s => s.abortPoint w

/-- The fog frame is built and sent once CORE and RADIO are ON (R73). Where none can be sent at t ns after the mark the preemption ends. -/
def State.fogGo (s : State) (t : Nat) : State :=
  if s.rad.fogWait && s.radioOn then (({ s with rad := { s.rad with fogWait := false } }).sendFog).settleFog t
  else s

/-- The abort points are reached: CORE and RADIO wake, and the fog frame goes out when they are ON (R73). -/
def State.fogFrameSend (s : State) (t : Nat) : State :=
  if (s.queue 2).isEmpty then s.settleFog t
  else (({ s with rad := { s.rad with fogWait := true } }).requestWakes [domCORE, domRADIO]).fogGo t

/-- A stage of a wake is ready (R338); with the last domain of the entry in progress its work starts (R63), and with CORE and RADIO the
fog frame that waits for them (R73). -/
def execWakeStage (k : Fin 27) (us : Nat) (s : State) : Host.Outcome State Fault Refusal :=
  s.run fun s => ((s.wakeStage k us).fogGo ((s.rot.lft * lftUnits + 63) / 64)).startWork

def execFogFrameSend (t : Nat) (s : State) : Host.Outcome State Fault Refusal := s.run fun s => s.fogFrameSend t

/-! Radio events -/

/-- After a radio event outside a preemption, what waits for the radio facet goes on where its domains are ON (R278, R340). -/
def State.thenNext (s : State) : State := s.startWork

/-- Latency of a fog frame whose last bit is on air at t ns after the mark (R73, ROT_FOG_LAT). -/
def State.fogLatency (s : State) (t : Nat) : State :=
  match s.queue 2 with
  | o :: _ =>
    if o.kind ≠ .fog then s else
    let us := min 0xFFFF ((64 * (t : Int) - o.g) / 64000).toNat
    let s := s.fset F.ROT_FOG_LAT_LAST us
    s.fset F.ROT_FOG_MAX_MAX (max us (s.fget F.ROT_FOG_MAX_MAX))
  | [] => s

/-- The last bit of a transmission is on air at t ns after the mark. -/
def State.transmissionEnd (s : State) (t : Nat) : State :=
  match s.rad.job with
  | none => s
  | some j =>
    if j.listen then s
    else
      let fogOwn := match j.why with | .own 2 _ => true | _ => false
      let s := if fogOwn then s.fogLatency t else s
      let s := s.onSent j
      (if fogOwn then s.settleFog t else s).thenNext

def execTransmissionEnd (t : Nat) (s : State) : Host.Outcome State Fault Refusal := s.run fun s => s.transmissionEnd t

/-- A listen ends at t ns after the mark with its mean RSSI (R248). -/
def State.lbtEnd (s : State) (rssi : Byte) (t : Nat) : State :=
  match s.rad.job with
  | none => s
  | some j =>
    if !j.listen then s
    else
      let r := s.listenEnd j rssi
      if !r.1 then r.2
      else
        let s := r.2.onBusy j.why
        if s.rot.fog then s.settleFog t else s.thenNext

def execLbtListenEnd (rssi : Byte) (t : Nat) (s : State) : Host.Outcome State Fault Refusal := s.run fun s => s.lbtEnd rssi t

def execFrameReceived (f : RxFrame) (s : State) : Host.Outcome State Fault Refusal := s.run fun s => (s.frameReceived f).thenNext
def execSfdEnd (t : Nat) (s : State) : Host.Outcome State Fault Refusal := s.run fun s => s.sfdEnd t
def execAnswerWindowEnd (s : State) : Host.Outcome State Fault Refusal := s.run fun s => (s.answerTimeout).thenNext
def execAckSend (s : State) : Host.Outcome State Fault Refusal := s.run State.sendAnswer
def execDownlinkSend (s : State) : Host.Outcome State Fault Refusal := s.run State.sendDownlink
def execRetryWaitEnd (s : State) : Host.Outcome State Fault Refusal := s.run fun s => (s.waitEnd).thenNext
def execFlashSend (s : State) : Host.Outcome State Fault Refusal := s.run State.sendFlash
def execFlashWindowOpen (s : State) : Host.Outcome State Fault Refusal := s.run State.openFlashWindow
def execFlashWindowClose (s : State) : Host.Outcome State Fault Refusal := s.run State.closeFlashWindow
def execFloodRelay (s : State) : Host.Outcome State Fault Refusal := s.run State.sendRelay
def execFloodOriginate (s : State) : Host.Outcome State Fault Refusal := s.run State.originate
def execJoinReq (s : State) : Host.Outcome State Fault Refusal := s.run State.joinDue
def execScanDwellEnd (s : State) : Host.Outcome State Fault Refusal := s.run fun s => (s.dwellEnd).thenNext

/-- A minute boundary of the governor: the bins turn, and a refused fog frame at the head of its queue is asked for again; one that is
admitted goes out, CORE and RADIO woken for it (R251, R279). -/
def State.governorMinute (s : State) : State :=
  let s := s.govMinute.fogMinute
  if s.fogAdmitted then (s.restLater [domCORE, domRADIO]).fogFrameSend ((s.rot.lft * lftUnits + 63) / 64) else s

def execGovernorMinute (s : State) : Host.Outcome State Fault Refusal := s.run State.governorMinute

/-! Deadlines (R47, R306) -/

/-- Remove an operation's frame from the transmit queues and the downlinks; the frame being attempted is no longer. -/
def State.unqueue (s : State) (i : Nat) : State :=
  let mine := fun (o : Own) => o.kind == .host i
  let cur := match s.msh.cur with
    | some c => (match s.queue c with | o :: _ => mine o | [] => false)
    | none => false
  s.setMsh fun m => { m with
    queues := m.queues.map fun q => q.filter fun o => !mine o,
    table := m.table.map fun p => (p.1, { p.2 with down := p.2.down.filter fun o => !mine o }),
    cur := if cur then none else m.cur }

/-- The frame of an operation in a queue or held as a downlink. -/
def State.ownOf (s : State) (i : Nat) : Option Own :=
  (s.msh.queues.flatten ++ s.msh.table.filterMap fun p => p.2.down).find? fun o => o.kind == .host i

/-- Is a transmission, wait or answer window that of operation i? -/
def State.txOf (s : State) (i : Nat) (w : TxWhy) : Bool :=
  match w with
  | .own c _ => (match s.queue c with | o :: _ => o.kind == .host i | [] => false)
  | .down k => (match s.assoc k with | some e => (match e.down with | some o => o.kind == .host i | none => false) | none => false)
  | .host k => k == i
  | _ => false

/-- The lower cause of a RADIO_TX that its deadline ends (R48): CCA_BUSY where the attempt in progress has found the channel busy and is
not on air, else the outcome of the last attempt that ended (DEDUCED, log 183). -/
def State.txLower (s : State) (i : Nat) : Nat :=
  let mine := (s.rad.job.filter fun j => s.txOf i j.why)
  let waits := s.rad.wait.any fun w => s.txOf i w
  let busy := if s.macMode ≠ 0 then (s.opE i).busy else if mine.isSome || waits then s.rad.busy else 0
  if busy ≠ 0 ∧ (mine.any fun j => !j.listen) = false then loCCA_BUSY else ((s.ownOf i).map (·.lower)).getD 0

/-- Stop what the radio does for operation i: its listen or transmission, its random wait, its answer window (R47, R70). -/
def State.stopTx (s : State) (i : Nat) : State :=
  let job := s.rad.job.filter fun j => !s.txOf i j.why
  let wait := s.rad.wait.filter fun w => !s.txOf i w
  let await := s.msh.await.filter fun w => !s.txOf i w
  let busy := if job = s.rad.job ∧ wait = s.rad.wait then s.rad.busy else 0
  ({ s with rad := { s.rad with job := job, wait := wait, busy := busy } }).setMsh fun m => { m with await := await }

/-- The deadline of a RADIO_TX passes: what runs for it stops, its listens and windows at once and its frame at the next bit, no attempt
follows, and it completes with both causes (R47, R49, R70, R306). -/
def State.expireTx (s : State) (i : Nat) : State :=
  ((s.stopTx i).unqueue i).complete i Sts.CANCELLED upDEADLINE (s.txLower i) 0

/-- The deadline of entry i expires (R47, R306). -/
def State.deadline (s : State) (i : Nat) : State :=
  let e := s.opE i
  let now := fun (s : State) => s.complete i Sts.CANCELLED upDEADLINE 0 0
  let later := fun (s : State) => s.setOp i { s.opE i with expiring := true }
  if e.st ≠ .active ∨ e.deadline = 0 then s
  else if e.type = opRADIO_TX then s.expireTx i
  else if !e.started then now s
  else if e.type = opSHOT then
    if (match s.afe.shot with | some h => h.op == some i | none => false) then later s
    else now ({ s with afe := { s.afe with hostShots := s.afe.hostShots.filter fun h => h.op != i } })
  else if e.type = opCONVERT then later s
  else if e.type = opRADIO_SCAN then now ({ s with rad := { s.rad with scan := none, rx := none } })
  else if e.type = opSLINK_SET then s
  else
    let running := if isBackground e.type then s.bgFacet && s.entryReady else s.inKind kNVM && !s.rot.fog
    if running then later s else (later s).endExpired

def execOperationDeadline (i : Fin 16) (s : State) : Host.Outcome State Fault Refusal := s.run fun s => (s.deadline i).startWork

end Sys2Proof.Machine
end

