-- ==== Sys2Proof/Machine/Ed25519.lean ====
section
/-! DEFINITION. Verification of Ed25519 signatures as RFC 8032 defines it, not pre-hashed (R376): SHA-512, the curve
-x² + y² = 1 + d x² y² over the field of 2^255 - 19, and the group equation. -/

namespace Sys2Proof.Machine.Ed

/-! SHA-512 -/

/-- The first 80 primes. -/
def primes80 : List Nat :=
  primes64 ++ [313, 317, 331, 337, 347, 349, 353, 359, 367, 373, 379, 383, 389, 397, 401, 409]

/-- 64 fraction bits of the square root of p. -/
def sqrtFrac64 (p : Nat) : Nat := isqrt 72 (p * 2 ^ 128) % 2 ^ 64

/-- 64 fraction bits of the cube root of p. -/
def cbrtFrac64 (p : Nat) : Nat := icbrtFrom (p * 2 ^ 192) 68 0 % 2 ^ 64

/-- Sum modulo 2^64. -/
def add64 (a b : Nat) : Nat := (a + b) % 2 ^ 64

/-- Right rotation of a 64-bit word. -/
def rotr64 (n a : Nat) : Nat := (a / 2 ^ n + a * 2 ^ (64 - n)) % 2 ^ 64

/-- Extend the message schedule by `n` words, newest first. -/
def extend : Nat → List Nat → List Nat
  | 0, w => w
  | n + 1, w =>
    let g := fun (i : Nat) => w.getD i 0
    let s0 := ((rotr64 1 (g 14)).xor (rotr64 8 (g 14))).xor (g 14 / 2 ^ 7)
    let s1 := ((rotr64 19 (g 1)).xor (rotr64 61 (g 1))).xor (g 1 / 2 ^ 6)
    extend n (add64 (add64 (g 15) s0) (add64 (g 6) s1) :: w)

/-- One round with its constant and schedule word. -/
def round (v : List Nat) (kw : Nat × Nat) : List Nat :=
  let g := fun (i : Nat) => v.getD i 0
  let s1 := ((rotr64 14 (g 4)).xor (rotr64 18 (g 4))).xor (rotr64 41 (g 4))
  let ch := ((g 4).land (g 5)).xor ((2 ^ 64 - 1 - g 4).land (g 6))
  let t1 := add64 (add64 (g 7) s1) (add64 ch (add64 kw.1 kw.2))
  let s0 := ((rotr64 28 (g 0)).xor (rotr64 34 (g 0))).xor (rotr64 39 (g 0))
  let mj := (((g 0).land (g 1)).xor ((g 0).land (g 2))).xor ((g 1).land (g 2))
  [add64 t1 (add64 s0 mj), g 0, g 1, g 2, add64 (g 3) t1, g 4, g 5, g 6]

/-- Compress one 128-byte block. -/
def block (ks h b : List Nat) : List Nat :=
  let w := (List.range 16).map fun i => ((b.drop (8 * i)).take 8).foldl (fun a x => a * 256 + x) 0
  h.zipWith add64 ((ks.zip (extend 64 w.reverse).reverse).foldl round h)

/-- Compress `n` blocks. -/
def blocks (ks : List Nat) : Nat → List Nat → List Nat → List Nat
  | 0, _, h => h
  | n + 1, l, h => blocks ks n (l.drop 128) (block ks h (l.take 128))

/-- SHA-512 of a list of octets. -/
def sha512 (m : List Nat) : List Nat :=
  let n := m.length
  let p := m ++ [0x80] ++ List.replicate ((239 - n % 128) % 128) 0 ++
    (List.range 16).map fun i => 8 * n / 256 ^ (15 - i) % 256
  let h := blocks (primes80.map cbrtFrac64) (p.length / 128) p ((primes80.take 8).map sqrtFrac64)
  (h.map fun x => (List.range 8).map fun i => x / 256 ^ (7 - i) % 256).flatten

/-! The field and the curve -/

/-- The prime of the field. -/
def fp : Nat := 2 ^ 255 - 19

/-- x^e in the field, by the lowest `n` bits of e. -/
def powBits : Nat → Nat → Nat → Nat → Nat
  | 0, _, _, acc => acc
  | n + 1, x, e, acc => powBits n (x * x % fp) (e / 2) (if e % 2 = 1 then acc * x % fp else acc)

def fpow (x e : Nat) : Nat := powBits 256 (x % fp) e 1

def finv (x : Nat) : Nat := fpow x (fp - 2)

def fsub (a b : Nat) : Nat := (a + fp - b % fp) % fp

/-- The constant d of the curve, -121665/121666. -/
def curveD : Nat := (fp - 121665) * finv 121666 % fp

/-- A point in extended coordinates: X, Y, Z, T. -/
structure Pt where
  x : Nat
  y : Nat
  z : Nat
  t : Nat

/-- The neutral point. -/
def Pt.zero : Pt := ⟨0, 1, 1, 0⟩

/-- Sum of two points, d doubled given as `d2`. -/
def Pt.add (d2 : Nat) (p q : Pt) : Pt :=
  let a := fsub p.y p.x * fsub q.y q.x % fp
  let b := (p.y + p.x) * (q.y + q.x) % fp
  let c := p.t * d2 % fp * q.t % fp
  let d := 2 * p.z * q.z % fp
  let e := fsub b a
  let f := fsub d c
  let g := (d + c) % fp
  let h := (b + a) % fp
  ⟨e * f % fp, g * h % fp, f * g % fp, e * h % fp⟩

/-- n · p by the lowest `k` bits of n. -/
def Pt.mulBits (d2 : Nat) : Nat → Nat → Pt → Pt → Pt
  | 0, _, _, acc => acc
  | k + 1, n, p, acc => Pt.mulBits d2 k (n / 2) (p.add d2 p) (if n % 2 = 1 then acc.add d2 p else acc)

def Pt.mul (d2 n : Nat) (p : Pt) : Pt := Pt.mulBits d2 256 n p Pt.zero

/-- Are two points equal? -/
def Pt.same (p q : Pt) : Bool := p.x * q.z % fp == q.x * p.z % fp && p.y * q.z % fp == q.y * p.z % fp

/-- The point with a given y and sign of x. -/
def lift (y sign : Nat) : Option Pt :=
  if fp ≤ y then none
  else
    let u := fsub (y * y) 1
    let v := (curveD * (y * y % fp) + 1) % fp
    let w := u * finv v % fp
    let r := fpow w ((fp + 3) / 8)
    let x :=
      if r * r % fp = w then some r
      else
        let r' := r * fpow 2 ((fp - 1) / 4) % fp
        if r' * r' % fp = w then some r' else none
    match x with
    | none => none
    | some x =>
      if x = 0 ∧ sign = 1 then none
      else
        let x := if x % 2 = sign then x else fp - x
        some ⟨x, y, 1, x * y % fp⟩

/-- Decode the 32 octets of a point. -/
def decodePt (b : List Byte) : Option Pt :=
  let n := ofLe (b.take 32)
  lift (n % 2 ^ 255) (n / 2 ^ 255)

/-- The base point. -/
def base : Option Pt := lift (4 * finv 5 % fp) 0

/-- The order of the base point. -/
def order : Nat := 2 ^ 252 + 27742317777372353535851937790883648493

/-- Does a 64-octet signature of a message verify under a 32-octet public key, with the equation multiplied by the cofactor? -/
def verify (key msg sig : List Byte) : Bool :=
  let d2 := 2 * curveD % fp
  let s := ofLe ((sig.drop 32).take 32)
  match decodePt key, decodePt sig, base with
  | some a, some r, some b =>
    let k := (sha512 (((sig.take 32) ++ key ++ msg).map (·.toNat))).foldr (fun x acc => x + 256 * acc) 0 % order
    s < order && ((b.mul d2 s).mul d2 8).same (((r.add d2 (a.mul d2 k))).mul d2 8)
  | _, _, _ => false

end Sys2Proof.Machine.Ed
end

