-- ==== Sys2Proof/Machine/Mark.lean ====
section
/-! DEFINITION. The mark (R55 to R59, R75): the steps S1 to S6, with a device fault before any one of them (R58). -/

namespace Sys2Proof.Machine

/-! S1 -/

/-- Active entries of facets that a shortened rotation does not reach are abandoned (R52), IDLE entries with the others (DEDUCED, log 159). -/
def State.dropAbsent (s : State) : State :=
  if !s.schedules then s else ((List.range 64).filter fun n => s.startsEntry n && !s.occurs n).foldl State.abandonEntry s

/-- Entries that still wait for the end of a preemption are abandoned for this rotation (R71). -/
def State.dropLate (s : State) : State :=
  (s.rot.late.foldl State.abandonEntry s).setRot fun r => { r with late := [], entry := none }

/-- The records of R167 under hardware shots: every chord of the image without one, in chord order; the pointer moves past the places
of this rotation (R164). -/
def State.missingRecords (s : State) : State :=
  let n := s.chordNums.length
  let s := (s.chordNums.filter fun c => (s.recOf c).isNone).foldl (fun (t : State) (c : Nat) => (t.skipRecord c (t.regN Reg.ROT_NUM) 0).2) s
  s.fset F.ECH_RING_PTR ((s.ech.base + n) % max 1 (s.fget F.ECH_RING_LEN_LEN))

/-- The records of R167 under host shots, of the steps that were abandoned or whose slot a retention loss freed, in chord order. -/
def State.lostRecords (s : State) : State :=
  let s := (s.ech.lost.mergeSort fun a b => a.chord ≤ b.chord).foldl (fun (t : State) (l : EchLost) =>
    let r := t.skipRecord l.chord l.rot l.tag
    r.2.shotRecord l.slot r.1) s
  { s with ech := { s.ech with lost := [] } }

/-- Records, flow and the rotation's class, in RUN (R162, R167, R177). The flag says that the pipe became empty. -/
def State.closeMeasuring (s : State) : Bool × State :=
  if s.lensBack ≠ lsRUN then (false, s)
  else
    let s := if s.hostEcho then s else if s.hostShots then s.lostRecords else s.missingRecords
    let s := if !s.hostFlow && !s.flw.stepped then s.meterFlow s.heldPress else s
    if s.hostEcho then (false, s) else s.emptyStep s.rotClass

/-- The blocks with a commit request. -/
def State.requested (s : State) : List CommitBlock := commitBlocks.filter fun b => s.fbit (commitReqF b)

/-! S4 -/

/-- The addresses of the RWP registers of a region. -/
def rwpAddrs (r : Nat) : List Nat :=
  ((regRows r).filter (·.rwp)).flatMap fun x => (List.range x.count).map fun i => x.base + x.stride * i

/-- What a block does with new active values: AFE gains (R107) and the drive rail (R99), the start-up flow (R184), the Z table (R226). -/
def State.afterCommit (s old : State) (b : CommitBlock) : State :=
  match b with
  | .afe =>
    let s := ((List.range s.chords).filter fun n => s.reg (Reg.AFE_RX n) != old.reg (Reg.AFE_RX n)).foldl State.presetGain s
    if s.fget F.AFE_VDRV_LEVEL != old.fget F.AFE_VDRV_LEVEL then s.setPwr fun p => { p with vdrvReq := true } else s
  | .flw => s.touchStartup.evalQstart
  | .ldg => s.fset F.LDG_STATUS_ZTAB_BAD (b2n s.zTabBad)
  | _ => s

/-- Apply one sampled block: pending to active, REQ clears, SEQ advances (R92, R94). -/
def State.applyBlock (s : State) (b : CommitBlock) : State :=
  let l := rwpAddrs (commitRegion b)
  let t := l.foldl (fun (t : State) (a : Nat) => t.setReg a (t.reg (a + 0x800))) s
  let t := { t with badRegs := t.badRegs.filter fun a => !l.contains a }
  let t := (t.fset (commitReqF b) 0).addWrap (commitSeqF b) 1
  (t.afterCommit s b).fsetBit F.ROT_MARK_RPT_COMMITTED (commitRegion b)

/-! S6 -/

/-- The next rotation begins: its length, and every instant counted from its mark. -/
def State.beginRotation (s : State) : State :=
  let d : Int := s.rot.len * lftUnits
  let next := ((s.rotLft : Int) + s.msh.corr.getD 0).toNat
  let fogs := (s.queue 2).map fun o => { o with g := o.g - d }
  let s := (s.setQueue 2 fogs).setMsh fun m => { m with corr := none, anchors := m.anchors.map fun a => (a.1, a.2 - d) }
  let s := s.setLdg fun l => { l with lastEnd := l.lastEnd.map (· - d), shotAt := none, hostSet := none }
  let s := { s with flw := { s.flw with stepped := false }, ech := { s.ech with recs := [], base := s.fget F.ECH_RING_PTR } }
  let s := (s.setPulsePeriod next 0).setPulsePeriod next 1
  let s := s.setPwr fun p => { p with entered := [] }
  (s.setRot fun r => { r with lft := 0, len := next, entry := none }).showNow

/-- The advance of an apply rotation (R53). A boot load re-run (R343) that was started or armed in an apply rotation stays, and applies at
the first mark in RUN (DESIGN CHOICE, log 186). -/
def State.advanceLens (s : State) : State :=
  if s.lens = lsAPPLY1 then s.fset F.ROT_CFG_STATE lsAPPLY2
  else if s.lens = lsAPPLY2 then
    (s.when (s.fget F.STI_STATUS_LOAD == 3) fun s => s.fset F.STI_STATUS_LOAD 0).fset F.ROT_CFG_STATE lsRUN
  else s

/-- S6 (R51, R55, R75, R163, R311): `adv` says whether an apply state advances, `empty` whether the pipe became empty at S1, `epoch`
whether the epoch advanced during the sequence. A device fault since S1 has reset the empty-pipe state, and then neither EMPTY nor the
fog event comes (DESIGN CHOICE, log 152). -/
def State.markS6 (s : State) (adv empty epoch : Bool) : State :=
  let len := s.rot.len
  let s := s.addWrap F.ROT_NUM_NUM 1
  let s := s.fsetAll [(F.ROT_MARK_RPT_EPOCH, b2n epoch), (F.ROT_MARK_RPT_ROT, s.regN Reg.ROT_NUM % 256)]
  let s := if s.fget F.ROT_IRQ_DIV_OFF = 0 ∧ s.regN Reg.ROT_NUM % (s.fget F.ROT_IRQ_DIV_DIV + 1) = 0 then s.raise F.SYS_IRQ_ROT_MARK else s
  let s := if adv then s.advanceLens else s
  let s := if s.fget F.HIF_CFG_SYNC_MODE = 1 then { s with hif := { s.hif with sync := true, syncEdges := s.hif.syncEdges ++ [true] } } else s
  let s := if empty && s.fbit F.ECH_STATUS_EMPTY then (s.raise F.SYS_IRQ_EMPTY).raiseFog fogEMPTY [] else s
  let s := s.meshS6 len
  let s := if s.upd.swapArmed then { s with upd := { s.upd with swapDue := true } } else s
  s.beginRotation.restDoms [domLDG]

/-! The sequence -/

/-- The mark that ends the rotation, at a fresh die temperature for an apply; `fault` is a device fault detected just before a step of
the sequence, inside S4, or with the apply of S5 (R40, R58). -/
def State.mark (s : State) (temp : BitVec 16) (fault : Option MarkFault) : State :=
  let before := fun (s : State) (k : Nat) => match fault with
    | some f => if f.step.val + 2 = k ∧ f.reload = false then s.deviceFault (f.cause.val + 1) f.also.toNat else s
    | none => s
  let skips := fun (k : Nat) => match fault with
    | some f => decide (f.step.val + 2 ≤ k)
    | none => false
  let epoch := s.fget F.SYS_EPOCH_EPOCH
  let lens := s.lens
  let ran : Bool := s.hostShots && s.lensBack == lsRUN
  -- S1
  let c := (s.setRegN Reg.ROT_MARK_RPT 0).endApply.dropAbsent.dropLate.closeMeasuring
  let sampled := c.2.requested
  let s := before c.2.sampleHostSet 2
  -- S2
  let d := correctedNs s.rot.len s.rateCorr
  let s := before (s.setRegs [(Reg.ROT_LAST_DUR, d % 2 ^ 32), (Reg.ROT_LAST_DUR_HI, d / 2 ^ 32)]) 3
  -- S3
  let s :=
    if skips 3 then (s.noStep (s.rot.len * lftUnits)).fset F.ROT_MARK_RPT_LSKIP 1
    else if s.image.isSome || s.ldg.clearReq then
      let r := s.checkedS3 d (s.rot.len * lftUnits) ran
      r.2.fset F.ROT_MARK_RPT_LSTEP (b2n r.1)
    else s.noStep (s.rot.len * lftUnits)
  let s := before s 4
  -- S4
  let done := match fault with
    | some f => if f.step.val = 3 then sampled.take f.blocks else sampled
    | none => sampled
  let s := before ((if skips 4 then s else done.foldl State.applyBlock s).applyScale) 5
  -- S5
  let load : Bool := s.fget F.STI_STATUS_LOAD == 2 && (s.lens == lsIDLE || s.lens == lsRUN) && lens == s.lens
  let same := match fault with
    | some f => if f.step.val = 4 ∧ f.reload then (f.cause.val + 1) :: faultMask f.also.toNat else []
    | none => []
  let s := if load then (s.applyImage temp same).fset F.ROT_MARK_RPT_APPLY 1
    else if same.isEmpty then s else s.faultAll same id
  let s := before s 6
  -- S6
  s.markS6 (!load && lens == s.lens) c.1 (s.fget F.SYS_EPOCH_EPOCH != epoch)

def execMark (temp : BitVec 16) (fault : Option MarkFault) (s : State) : Host.Outcome State Fault Refusal :=
  s.run fun s => s.mark temp fault

/-- The SYNC pulse of mode 1 ends 1 LFT after S6 (R311). -/
def execSyncPulseEnd (s : State) : Host.Outcome State Fault Refusal :=
  s.run fun s => if s.fget F.HIF_CFG_SYNC_MODE = 1 ∧ s.hif.sync then
      ({ s with hif := { s.hif with sync := false } }).driveSync [false]
    else s

end Sys2Proof.Machine
end

