-- ==== Sys2Proof/Machine/Update.lean ====
section
/-! DEFINITION. Keys and random numbers (R374, R375, R390), the lifecycle requests (R368, R369, R371), and the update: delivery,
verification and its commands (R376 to R383, R386, R389). -/

namespace Sys2Proof.Machine

/-- The lifecycle states (R368). -/
abbrev lcBLANK : Nat := 0
abbrev lcPROVISION : Nat := 1
abbrev lcCALIBRATE : Nat := 2
abbrev lcSEALED : Nat := 3
abbrev lcRETURN : Nat := 4
abbrev lcSCRAP : Nat := 5

def State.life (s : State) : Nat := s.fget F.UPD_LIFE_STATE

/-- The update states (R379). -/
abbrev upIDLE : Nat := 0
abbrev upERASING : Nat := 1
abbrev upRECEIVING : Nat := 2
abbrev upVERIFYING : Nat := 3
abbrev upVERIFIED : Nat := 4
abbrev upTRIAL : Nat := 5

def State.updState (s : State) : Nat := s.fget F.UPD_STATUS_STATE
def State.setUpd (s : State) (f : Upd → Upd) : State := { s with upd := f s.upd }

/-- Set a bit of UPD_EVT; a new setting raises UPD (R391). -/
def State.updEvt (s : State) (f : Fld) : State :=
  if s.fbit f then s else (s.fset f 1).raise F.SYS_IRQ_UPD

/-! Keys (R374, R375) -/

/-- The check value of a key in a slot. -/
def keyCheck (slot : Nat) (k : List Nat) : Nat :=
  let b := if slot ≤ 1 ∨ slot = 3 then sha256 (k.map fun x => BitVec.ofNat 8 x) else aesEnc k (List.replicate 16 0)
  (b.take 4).foldr (fun x acc => x + 256 * acc) 0

/-- Store a key, its check value and its PRESENT bit. -/
def State.storeKey (s : State) (slot : Nat) (k : List Nat) : State :=
  let s := s.setUpd fun u => { u with keys := setAt u.keys slot (some k) }
  (s.setRegN (Reg.UPD_KEY_KCV slot) (keyCheck slot k)).fsetBit F.UPD_KEY_ST_PRESENT slot

/-- Does a slot hold a key? -/
def State.hasKey (s : State) (slot : Nat) : Bool := (s.upd.keys.getD slot none).isSome

/-- The data registers as octets. -/
def State.keyData (s : State) : List Nat :=
  ((List.range 8).map fun w => (leBytes 4 (s.regN (Reg.UPD_KEY_D w))).map (·.toNat)).flatten

/-- The outcome of a key write: RES, and the state with the key written where it is 0. -/
def State.keyOutcome (s : State) : Nat × State :=
  let slot := s.fget F.UPD_KEY_SEL_SLOT
  let d := s.keyData
  if 1 ≤ slot ∧ slot ≤ 3 then
    if s.life ≤ lcPROVISION ∧ s.hasKey slot = false then (0, s.storeKey slot (d.take (if slot = 2 then 16 else 32))) else (1, s)
  else if slot = 4 then
    match s.upd.keys.getD 2 none with
    | some w =>
      if 1 ≤ s.life ∧ s.life ≤ 3 then
        match unwrapKey w (d.take 24) with
        | some k => (0, s.storeKey 4 k)
        | none => (2, s)
      else (1, s)
    | none => (1, s)
  else (1, s)

/-- UPD_KEY_CTL.GO. -/
def State.keyWrite (s : State) : State :=
  let r := s.keyOutcome
  let s := (List.range 8).foldl (fun (t : State) (w : Nat) => t.setRegN (Reg.UPD_KEY_D w) 0) r.2
  s.fset F.UPD_KEY_ST_RES r.1

/-! Random numbers (R390) -/

/-- Draw 32 random bits; zero while a health test is failed. -/
def State.trngRead (s : State) : Nat × State :=
  if s.upd.trngBad then (0, s) else ((Config.trng s.free).toNat, { s with free := s.free + 1 })

/-- Draw the key-encryption key, or wait for the generator. -/
def State.drawKek (s : State) : State :=
  if s.upd.trngBad then s.setUpd fun u => { u with kekWait := true }
  else
    let k := ((List.range 4).map fun i => nats (leBytes 4 (Config.trng (s.free + i)).toNat)).flatten
    (({ s with free := s.free + 4 }).setUpd fun u => { u with kekWait := false }).storeKey 5 k

/-- A health test fails. -/
def execTrngHealthFail (s : State) : Host.Outcome State Fault Refusal :=
  s.run fun s => (s.updEvt F.UPD_EVT_TRNG_FAIL).setUpd fun u => { u with trngBad := true }

/-- The retest after a failure; a pass serves the draws that wait. -/
def State.trngRetest (s : State) (pass : Bool) : State :=
  if !s.upd.trngBad then s
  else if !pass then s.updEvt F.UPD_EVT_TRNG_FAIL
  else
    let s := s.setUpd fun u => { u with trngBad := false }
    let s := if s.upd.kekWait then s.drawKek else s
    if s.upd.cellWait then s.drawCellKey else s

def execTrngRetest (pass : Bool) (s : State) : Host.Outcome State Fault Refusal := s.run fun s => s.trngRetest pass

/-! Lifecycle requests (R369, R371) -/

/-- Is a ledger export confirmed (R371)? -/
def State.exportOk (s : State) : Bool :=
  let seq := s.regN Reg.UPD_RET_SEQ
  match commitOf s.ringRecords seq with
  | none => false
  | some c =>
    let dig := ((List.range 8).map fun w => (leBytes 4 (s.regN (Reg.UPD_RET_DIG w))).map (·.toNat)).flatten
    seq == s.regN Reg.LDG_SEQ && sha256 (c.flatMap (·.data)) == dig &&
      (List.range 17).all fun a => a == acOPTIME || a == acERRTIME ||
        (let d := ((c.drop (a / 3 + 1)).head?.map (·.data)).getD []
         leAt d (0x10 + 12 * (a % 3)) 12 == (s.acc a).v && leAt d (0x34 + a % 3) 1 == (s.acc a).wrap)

/-- Does a transition need a confirmed export? -/
def needsExport (src dst : Nat) : Bool := src == lcSEALED && (dst == lcRETURN || dst == lcSCRAP)

/-- Is there a transition from `src` to `dst` (R369)? -/
def hasTransition (src dst : Nat) : Bool :=
  (src < 4 && dst == src + 1) || (src < 5 && dst == lcSCRAP)

/-- The other condition of a transition. -/
def State.transitionOk (s : State) (src dst : Nat) : Bool :=
  let active := s.updState == upIDLE && s.fbit F.STI_STATUS_ACTIVE
  if dst = lcPROVISION then s.hasKey 1 && s.hasKey 2 && s.hasKey 3
  else if dst = lcCALIBRATE then active
  else if dst = lcSEALED then
    active && s.fget F.STI_STATUS_LOAD == 0 && !s.fbit F.FLW_STATUS_COEF_BAD && !s.fbit F.TMU_STATUS_COEF_BAD &&
      !s.fbit F.RTC_STATUS_COEF_BAD
  else src != lcSEALED || dst == lcRETURN || dst == lcSCRAP

/-- The reason a word of UPD_LIFE_REQ is refused; 0: it is not (R369). A cancel is refused for its format only. -/
def State.lifeReason (s : State) (v : Nat) : Nat :=
  let dst := bitsOf v 0 3
  let src := s.life
  if bitsOf v 16 16 ≠ 0x4C43 ∨ bitsOf v 8 8 ≠ 255 - dst then 1
  else if dst = 7 then 0
  else if s.updState = upVERIFIED ∨ s.updState = upTRIAL then 5
  else if !hasTransition src dst then 2
  else if !s.transitionOk src dst then 3
  else if needsExport src dst && !s.exportOk then 4
  else 0

/-- Does a word of UPD_LIFE_REQ complete LOCKED? -/
def State.lifeLocked (s : State) (v : Nat) : Bool := s.life == lcSCRAP || s.lifeReason v != 0

/-- The device reads the ring for a request that comes to the test of the export (R318, R320, R371). -/
def State.touchExport (s : State) (v : Nat) : State :=
  s.when (needsExport s.life (bitsOf v 0 3) && (s.lifeReason v == 0 || s.lifeReason v == 4)) State.touchRing

/-- What a refused word of UPD_LIFE_REQ reports: REASON tells why, and stays where the format and the table have nothing against a word
that SCRAP refuses (R369, R372). -/
def State.lifeRefused (s : State) (v : Nat) : State :=
  if s.lifeReason v = 0 then s else (s.touchExport v).fsetAll [(F.UPD_LIFE_REQ_ST, 2), (F.UPD_LIFE_REASON, s.lifeReason v)]

/-- An accepted word of UPD_LIFE_REQ. -/
def State.lifeRequest (s : State) (v : Nat) : State :=
  let dst := bitsOf v 0 3
  (s.touchExport v).fsetAll [(F.UPD_LIFE_ARMED, dst), (F.UPD_LIFE_REQ_ST, if dst = 7 then 0 else 1), (F.UPD_LIFE_REASON, 0)]

/-! Delivery (R379 to R381) -/

/-- Bit of a block in the bitmap. -/
def State.blockMapped (s : State) (b : Nat) : Bool := (s.regN (Reg.UPD_MAP (b / 32))).testBit (b % 32)

/-- BEGIN: the bitmap clears and the erase begins. -/
def State.updBegin (s : State) : State :=
  let s := (List.range 64).foldl (fun (t : State) (w : Nat) => t.setRegN (Reg.UPD_MAP w) 0) s
  ((s.setRegN Reg.UPD_MAP_CNT 0).setUpd fun u => { u with staging := [] }).fset F.UPD_STATUS_STATE upERASING

/-- Does the erase or a programming get NVM time (R380)? In an NVM facet it comes after the work of R62: no ledger commit runs or waits, and
no NVM_WRITE. -/
def State.updTime (s : State) : Bool :=
  s.image.isNone ||
    (s.inKind kNVM && s.entryReady && s.ldg.commit.isNone && s.ldg.due.isEmpty && !s.ldg.perDue && s.memu.nvm.isNone &&
      (s.activeOps opNVM_WRITE).isEmpty && s.waitingCommit.isNone)

/-- The last page of the inactive slot is erased. -/
def State.eraseDone (s : State) : State :=
  if s.updState ≠ upERASING ∨ s.updTime = false then s
  else
    let b := s.inactiveBase
    let s := (List.range 256).foldl (fun (t : State) (q : Nat) => t.erasePage (b + 0x800 * q)) s
    s.fset F.UPD_STATUS_STATE upRECEIVING

def execEraseDone (s : State) : Host.Outcome State Fault Refusal := s.run State.eraseDone

/-- A block arrives: its status and the state after. -/
def State.blockArrives (s : State) (b : Nat) (d : List Byte) : Nat × State :=
  if s.updState = upERASING ∧ s.life ≠ lcSCRAP then (Sts.REFUSED, s)
  else if s.updState ≠ upRECEIVING ∨ s.life = lcSCRAP then (Sts.LOCKED, s)
  else if s.blockMapped b then (Sts.DONE, s)
  else
    if s.upd.staging.length ≥ 16 then (Sts.REFUSED, s)
    else (Sts.DONE, s.setUpd fun u => { u with staging := (u.staging.filter fun x => x.1 != b) ++ [(b, d)] })

/-- Write the 16 words of a block. -/
def State.writeBlock (s : State) (a : Nat) (d : List Byte) : State :=
  (List.range 16).foldl (fun (t : State) (w : Nat) => t.writeWord (a + 16 * w) ((d.drop (16 * w)).take 16 |>.map (·.toNat))) s

/-- The first word of a block that does not verify. -/
def State.blockFails (s : State) (a : Nat) (d : List Byte) : Option Nat :=
  (List.range 16).find? fun w => !s.verifyWord (a + 16 * w) ((d.drop (16 * w)).take 16 |>.map (·.toNat))

/-- Attempts at a block: `bad` gives for each in turn the word that does not take its program, no word once it is empty; a flip mask can
spoil one as well. The first word that fails verify ends an attempt and is logged (R332, R381). Was one without such a word? -/
def State.programBlock (s : State) (a : Nat) (d : List Byte) : Nat → List Nat → Bool × State
  | 0, _ => (false, s)
  | n + 1, bad =>
    let t := s.writeBlock a d
    match (t.blockFails a d).toList ++ bad.take 1 with
    | [] => (true, t)
    | w :: l =>
      let t := (bad.take 1).foldl (fun (u : State) (x : Nat) => u.scrambleWord (a + 16 * x)) t
      (t.logEvent (a + 16 * l.foldl min w) clsVERIFY .nvmProgram (t.strict a) 0 0).programBlock a d n bad.tail

/-- The staged block with the lowest offset is programmed; `bad` names the words at which its attempts failed verify, in order (R381). -/
def State.blockProgram (s : State) (bad : List Nat) : State :=
  match s.upd.staging.foldl (fun (m : Option (Nat × List Byte)) x => match m with
      | some y => if x.1 < y.1 then some x else some y
      | none => some x) none with
  | none => s
  | some (b, d) =>
    if s.updState ≠ upRECEIVING ∨ s.updTime = false then s
    else
      let a := s.inactiveBase + 256 * b
      let s := s.setUpd fun u => { u with staging := u.staging.filter fun x => x.1 != b }
      let r := s.programBlock a d 3 bad
      let m := Reg.UPD_MAP (b / 32)
      if r.1 then (r.2.setRegN m (setBit (r.2.regN m) (b % 32))).addSat F.UPD_MAP_CNT_COUNT 1 else r.2.updEvt F.UPD_EVT_PROG_FAIL

def execBlockProgram (bad : List (Fin 16)) (s : State) : Host.Outcome State Fault Refusal :=
  s.run fun s => s.blockProgram (bad.map (·.val))

/-! Verification (R376 to R378, R382, R389) -/

/-- A verification error: its code, its component, and the load error of STRUCT. -/
structure VerErr where
  code : Nat
  comp : Nat
  sti : Nat := 0
  deriving DecidableEq, Repr

/-- Component i of a manifest: is it COPY? -/
def mfCopy (m : List Byte) (i : Nat) : Bool := (leAt m (0x21 + 48 * i) 1).testBit 0
def mfVersion (m : List Byte) (i : Nat) : Nat := leAt m (0x24 + 48 * i) 4
def mfOffset (m : List Byte) (i : Nat) : Nat := leAt m (0x28 + 48 * i) 4
def mfLength (m : List Byte) (i : Nat) : Nat := leAt m (0x2C + 48 * i) 4
def mfDigest (m : List Byte) (i : Nat) : List Byte := sliceBytes m (0x30 + 48 * i) 32

/-- The manifest of a slot. -/
def State.manifest (s : State) (base : Nat) : List Byte := s.peek base 512

/-- The bytes of component i of a slot. -/
def State.component (s : State) (base : Nat) (m : List Byte) (i : Nat) : List Byte := s.peek (base + mfOffset m i) (min (mfLength m i) 0x80000)

/-- 0x1: the first block that is missing. -/
def State.verMissing (s : State) (m : List Byte) : Option VerErr :=
  if !s.blockMapped 0 || !s.blockMapped 1 then some ⟨1, 0, 0⟩
  else
    ((List.range 6).find? fun i =>
      !mfCopy m i && (List.range 2048).any fun b =>
        mfOffset m i < 256 * (b + 1) && 256 * b < mfOffset m i + mfLength m i && !s.blockMapped b).map fun i => ⟨1, i + 1, 0⟩

/-- Are all bytes zero? -/
def zeros (b : List Byte) : Bool := b.all (· == 0)

/-- Does entry i of a manifest keep R376 by itself and against the active manifest? -/
def State.entryOk (s : State) (m : List Byte) (i : Nat) : Bool :=
  let act := s.manifest s.activeBase
  leAt m (0x20 + 48 * i) 1 == i + 1 && leAt m (0x21 + 48 * i) 1 < 2 && leAt m (0x22 + 48 * i) 2 == 0 &&
    mfOffset m i % 256 == 0 && 0x200 ≤ mfOffset m i && mfOffset m i + mfLength m i ≤ 0x80000 &&
    (i != 4 || (mfLength m i % 4 == 0 && 36 ≤ mfLength m i && mfLength m i ≤ 16384)) && (i != 5 || mfLength m i == 1024) &&
    (!mfCopy m i || (s.hasManifest s.activeBase && mfVersion m i == mfVersion act i && mfDigest m i == mfDigest act i &&
      mfLength m i == mfLength act i)) &&
    (List.range i).all fun j => mfOffset m i + mfLength m i ≤ mfOffset m j || mfOffset m j + mfLength m j ≤ mfOffset m i

/-- 0x2: the manifest's own fields, then its entries. -/
def State.verManifest (s : State) (m : List Byte) : Option VerErr :=
  let sigs := leAt m 0x11 1
  let head := leAt m 0 4 == 0x464D5654 && leAt m 4 2 == 1 && leAt m 0x10 1 == 6 && sigs < 8 && zeros (sliceBytes m 0x12 14) &&
    (List.range 3).all fun k => sigs.testBit k || zeros (sliceBytes m (0x140 + 64 * k) 64)
  if !head then some ⟨2, 0, 0⟩ else ((List.range 6).find? fun i => !s.entryOk m i).map fun i => ⟨2, i + 1, 0⟩

/-- Does component i change (R376)? -/
def State.changes (s : State) (m : List Byte) (i : Nat) : Bool :=
  !mfCopy m i && (!s.hasManifest s.activeBase || mfDigest m i != mfDigest (s.manifest s.activeBase) i)

/-- The metrological sections of a STRUCT component, with their padding (R389). -/
def structMetro (b : List Byte) : List Byte := metroBytes (sectionsOf b (leAt b 8 4)).1

/-- The signatures a changed component needs, as bits 0 vendor, 1 customer, 2 metrology (R377). -/
def State.sigsNeeded (s : State) (m : List Byte) (base i : Nat) : Nat :=
  if s.life = lcPROVISION ∨ s.life = lcCALIBRATE then (if i = 4 ∨ i = 5 then 2 else 1)
  else if s.life = lcSEALED then
    if i = 2 then 5
    else if i = 5 then 6
    else if i = 4 then
      let old := match s.activeStruct with
        | some (a, n) => structMetro (s.peek a (min n 16384))
        | none => []
      if structMetro (s.component base m 4) = old then 2 else 6
    else 1
  else 1

/-- 0x4: every signature present must verify, one of vendor or customer must be there, and every changed component has its own. -/
def State.verSignature (s : State) (m : List Byte) (base : Nat) : Option VerErr :=
  let sigs := leAt m 0x11 1
  let slot := fun (k : Nat) => if k = 2 then 3 else k
  let good := fun (k : Nat) => match s.upd.keys.getD (slot k) none with
    | some key => Ed.verify (key.map fun x => BitVec.ofNat 8 x) (m.take 0x140) (sliceBytes m (0x140 + 64 * k) 64)
    | none => false
  if sigs % 4 = 0 ∨ (List.range 3).any (fun k => sigs.testBit k && !good k) then some ⟨4, 0, 0⟩
  else ((List.range 6).find? fun i => s.changes m i && (s.sigsNeeded m base i).land sigs != s.sigsNeeded m base i).map fun i => ⟨4, i + 1, 0⟩

/-- 0x5: versions against their counters (R387). -/
def State.verRollback (s : State) (m : List Byte) : Option VerErr :=
  match (List.range 6).find? fun i => mfVersion m i < s.regN (Reg.UPD_CNT i) with
  | some i => some ⟨5, i + 1, 0⟩
  | none => if leAt m 0x0C 4 < s.regN (Reg.UPD_CNT 6) then some ⟨5, 0, 0⟩ else none

/-- Copy n bytes from one word boundary to another: whole words, then a part of one by read, merge and write (R321, R323). -/
def State.copyBytes (s : State) (src dst n : Nat) : State :=
  let s := s.copyWords src dst (n / 16)
  if n % 16 = 0 then s
  else
    let r := s.readWord (src + n / 16 * 16) .copy
    r.2.mergeWrite (dst + n / 16 * 16) ((r.1.data.take (n % 16)).map (BitVec.ofNat 8)) r.1.poison

/-- Copy the COPY components from the active slot. -/
def State.copyComponents (s : State) (m : List Byte) (base : Nat) : State :=
  let act := s.manifest s.activeBase
  ((List.range 6).filter (mfCopy m)).foldl (fun (t : State) (i : Nat) =>
    t.copyBytes (t.activeBase + mfOffset act i) (base + mfOffset m i) (mfLength m i)) s

/-- Does a component's SHA-256 equal its digest? -/
def State.digestOk (s : State) (base : Nat) (m : List Byte) (i : Nat) : Bool :=
  sha256 (s.component base m i) == nats (mfDigest m i)

/-- Does a COEF component keep R378? -/
def coefLayout (b : List Byte) : Bool :=
  leAt b 0 4 == 0x46435654 && leAt b 4 2 == 1 && leAt b 6 2 == 1024 && zeros (sliceBytes b (0x010 + 4 * 0x12) 24) &&
    zeros (sliceBytes b (0x210 + 4 * 0x16) 8) && zeros (sliceBytes b (0x270 + 4 * 0x22) 8) && zeros (sliceBytes b 0x300 252) &&
    crc32 (b.take 0x3FC) == leAt b 0x3FC 4

/-- The legal checksum of the set in a slot (R389). -/
def State.legalSum (s : State) (base : Nat) : List Nat :=
  let m := s.manifest base
  sha256 (s.component base m 2 ++ s.component base m 5 ++ structMetro (s.component base m 4) ++ leBytes 4 s.sysId)

/-- Is a word of the n bytes at an address poisoned? -/
def State.anyBad (s : State) (a n : Nat) : Bool := (List.range (ceilDiv n 16)).any fun w => s.peekBad (a + 16 * w)

/-- 0xA: a poisoned word of the manifest or of a component. -/
def State.verPoison (s : State) (m : List Byte) (base : Nat) : Option VerErr :=
  if s.anyBad base 512 then some ⟨10, 0, 0⟩
  else ((List.range 6).find? fun i => s.anyBad (base + mfOffset m i) (mfLength m i)).map fun i => ⟨10, i + 1, 0⟩

/-- Is component 4 a source that R87 refuses: its length is not TOTAL_LEN, or a word of it is poisoned? -/
def State.structSource (s : State) (m : List Byte) (base : Nat) : Bool :=
  leAt (s.component base m 4) 8 4 != mfLength m 4 || s.anyBad (base + mfOffset m 4) (mfLength m 4)

/-- The device reads the components of a set up to number n (R318, R320). -/
def State.touchComps (s : State) (m : List Byte) (base n : Nat) : State :=
  (List.range n).foldl (fun (t : State) (i : Nat) => t.touch (base + mfOffset m i) (min (mfLength m i) 0x80000)) s

/-- The checks from the digests on, once the copies stand (R382). -/
def State.verContents (s : State) (m : List Byte) (base : Nat) : Option VerErr :=
  match (List.range 6).find? fun i => !s.digestOk base m i with
  | some i => some ⟨6, i + 1, 0⟩
  | none =>
    match if s.structSource m base then some ⟨leSOURCE, 0, 0⟩ else s.checkImage (s.component base m 4) with
    | some e => some ⟨7, 5, e.code⟩
    | none =>
      if !coefLayout (s.component base m 5) then some ⟨8, 6, 0⟩
      else if s.life == lcSEALED && leAt m 0x0C 4 ≤ s.regN Reg.UPD_LEGAL_VER && s.legalSum base != s.legalSum s.activeBase then some ⟨9, 0, 0⟩
      else s.verPoison m base

/-- The device reads what the checks compare with in the active set, as far as they came: its manifest for the entries (R376), its STRUCT
component for the signatures (R377), what its legal checksum covers (R389). -/
def State.touchActiveSet (s : State) (m : List Byte) (e : Option VerErr) : State :=
  let at_ := match e with
    | some x => 16 * x.code + x.comp
    | none => 0xB0
  let s := s.when (0x20 < at_ && s.hasManifest s.activeBase) fun s => s.touch s.activeBase 512
  let s := s.when (0x45 ≤ at_ && s.life == lcSEALED && s.changes m 4) State.touchStruct
  if 0x90 ≤ at_ ∧ s.life = lcSEALED ∧ leAt m 0x0C 4 ≤ s.regN Reg.UPD_LEGAL_VER then
    let act := s.manifest s.activeBase
    [2, 5, 4].foldl (fun (t : State) (i : Nat) => t.touch (t.activeBase + mfOffset act i) (min (mfLength act i) 0x80000)) s
  else s

/-- The checks of R382 in order on the inactive slot: the first that fails, and the state with the copies made. -/
def State.verifySet (s : State) : Option VerErr × State :=
  let base := s.inactiveBase
  let m := s.manifest base
  let s := s.touch base 512
  let part := leAt m 6 2
  match [if s.upd.fromRecv then s.verMissing m else none, s.verManifest m,
      if part = 0 ∨ part = s.sysId % 65536 then none else some ⟨3, 0, 0⟩, s.verSignature m base, s.verRollback m].findSome? id with
  | some e => (some e, s.touchActiveSet m (some e))
  | none =>
    let s := s.copyComponents m base
    let r := s.verContents m base
    (r, (s.touchActiveSet m r).touchComps m base (match r with | some e => if e.code = 6 then e.comp else 6 | none => 6))

/-- Verification ends (R382); one that a device fault interrupted starts again after recovery (R381). -/
def State.verificationDone (s : State) : State :=
  if s.updState ≠ upVERIFYING ∨ s.recovering then s
  else
    let r := s.verifySet
    let s := match r.1 with
      | none => r.2.fset F.UPD_STATUS_STATE upVERIFIED
      | some e => r.2.fsetAll [(F.UPD_STATUS_ERROR, e.code), (F.UPD_STATUS_ERR_COMP, e.comp), (F.UPD_STATUS_STI_ERR, e.sti),
          (F.UPD_STATUS_STATE, if r.2.upd.fromRecv then upRECEIVING else upIDLE)]
    s.updEvt F.UPD_EVT_VERIFY_DONE

def execVerificationDone (s : State) : Host.Outcome State Fault Refusal := s.run State.verificationDone

/-! Commands (R379, R383, R386) -/

/-- VERIFY. -/
def State.updVerify (s : State) : State :=
  let src := s.updState
  let s := s.fsetAll [(F.UPD_STATUS_ERROR, 0), (F.UPD_STATUS_ERR_COMP, 0), (F.UPD_STATUS_STI_ERR, 0), (F.UPD_STATUS_STATE, upVERIFYING)]
  s.setUpd fun u => { u with fromRecv := src == upRECEIVING }

/-- ABORT, or a reset before the trial. -/
def State.updAbort (s : State) : State :=
  ((s.fset F.UPD_STATUS_STATE upIDLE).setUpd fun u => { u with staging := [], swapArmed := false, swapDue := false }).updEvt F.UPD_EVT_ABORTED

/-- Is a word of UPD_CTL refused? ABORT acts alone; two other commands together find no row for the second (R379). -/
def State.updCtlLocked (s : State) (v : Nat) : Bool :=
  let st := s.updState
  s.life == lcSCRAP ||
    (if v.testBit 3 then !(upERASING ≤ st && st ≤ upVERIFIED)
     else if v % 8 = 0 then false
     else if v % 8 = 1 then st != upIDLE
     else if v % 8 = 2 then !(st == upIDLE || st == upRECEIVING)
     else if v % 8 = 4 then !(st == upVERIFIED && s.fget F.UPD_LIFE_ARMED == 7)
     else true)

/-- An accepted word of UPD_CTL. -/
def State.updCtl (s : State) (v : Nat) : State :=
  if v.testBit 3 then s.updAbort
  else if v % 8 = 1 then s.updBegin
  else if v % 8 = 2 then s.updVerify
  else if v % 8 = 4 then s.setUpd fun u => { u with swapArmed := true }
  else s

/-- Does UPD_CONFIRM.GO complete LOCKED (R386)? -/
def State.confirmLocked (s : State) : Bool := s.updState != upTRIAL || s.fget F.UPD_SELFTEST_PASS != 0x3F

/-- UPD_CONFIRM.GO: the counters take the active set's versions (R386, R387). -/
def State.updConfirm (s : State) : State :=
  let m := s.manifest s.activeBase
  let s := (List.range 7).foldl (fun (t : State) (i : Nat) =>
    t.setRegN (Reg.UPD_CNT i) (max (t.regN (Reg.UPD_CNT i)) (if i = 6 then leAt m 0x0C 4 else mfVersion m i))) s
  let s := s.fsetAll [(F.UPD_STATUS_STATE, upIDLE), (F.UPD_STATUS_LAST, 1)]
  (s.setUpd fun u => { u with trialLft := 0 }).updEvt F.UPD_EVT_CONFIRMED

end Sys2Proof.Machine
end

