-- ==== Sys2Proof/Machine/MeshHost.lean ====
section
/-! DEFINITION. What the host does to the mesh and the radio through their registers (R255, R275, R276, R279, R280): joining, leaving,
reports, fog alarms, the provisioning of the keeper's association table and the release of receive buffers. -/

namespace Sys2Proof.Machine

/-! MSH_CTL (R276, R280) -/

/-- MSH_CTL.JOIN: a buoy that is not associated joins at the next flash that allows it, and AUTOJOIN counts again. -/
def State.meshJoin (s : State) : State :=
  if s.role ≠ roleBUOY then s
  else
    let s := s.setMsh fun m => { m with suspended := false }
    if s.mst = bsOFF ∨ s.mst = bsSCAN then s.setMsh fun m => { m with joinReq := true } else s

/-- MSH_CTL.LEAVE: an associated buoy queues one LEAVE; any buoy whose role runs returns to SCAN and suspends AUTOJOIN. -/
def State.meshLeave (s : State) : State :=
  if s.isBuoy = false then s
  else
    let assoc := s.mst == bsASSOC || s.mst == bsDARK
    let o : Own := { kind := .leave, type := tyLEAVE, cls := 0, dst := 0, body := leBytes 4 (s.regN Reg.MSH_ADDR),
                     src := some (s.fget F.MSH_SHORT_SHORT) }
    let s := if assoc then s.queueOwn o else s
    (s.dropAssociation).setMsh fun m => { m with suspended := true, joinReq := false }

/-- MSH_CTL.REPORT: a report at the next S6, where the MAC builds reports. -/
def State.meshReport (s : State) : State :=
  if s.isBuoy || s.isWmMac then s.setMsh fun m => { m with reportReq := true } else s

/-- A word of MSH_CTL: its bits act in ascending order. -/
def State.meshCtl (s : State) (v : Nat) : State :=
  let s := if v.testBit 0 then s.meshJoin else s
  let s := if v.testBit 1 then s.meshLeave else s
  (if v.testBit 2 then s.meshReport else s).thenNext

/-- MSH_FOG_GO: a host alarm with the octets of MSH_FOG_D0 and D1 (R279). -/
def State.fogAlarm (s : State) : State :=
  s.raiseFog fogHOST (leBytes 4 (s.regN Reg.MSH_FOG_D0) ++ leBytes 4 (s.regN Reg.MSH_FOG_D1))

/-! Provisioning (R275) -/

abbrev prDONE : Nat := 0
abbrev prREFUSED : Nat := 1
abbrev prUNWRAP : Nat := 2

/-- The wrapped key in MSH_PROV_WRAP0 to WRAP5. -/
def State.provWrap (s : State) : List Nat :=
  (List.range 6).flatMap fun w => (leBytes 4 (s.regN (Reg.MSH_PROV_WRAP w))).map (·.toNat)

/-- Does a provisioning command name an entry of a running keeper's table? -/
def State.provOk (s : State) : Bool := s.isKeeper && s.fget F.MSH_PROV_IDX_IDX < s.light.maxAssoc

/-- Report a command's result. -/
def State.provRes (s : State) (r : Nat) : State := s.fset F.MSH_PROV_CTL_RES r

/-- CMD 1: the entry becomes PROVISIONED; its key is unwrapped under the customer key and wrapped under the key-encryption key. -/
def State.provWrite (s : State) : State :=
  let i := s.fget F.MSH_PROV_IDX_IDX
  let busy := match s.assoc i with | some e => e.joined | none => false
  if !s.provOk || busy then s.provRes prREFUSED
  else
    match (s.upd.keys.getD 2 none).bind fun k => unwrapKey k s.provWrap with
    | none => s.provRes prUNWRAP
    | some k => (s.setAssoc i { long := s.regN Reg.MSH_PROV_LONG, key := wrapKey s.kek k }).provRes prDONE

/-- CMD 2: the entry becomes FREE; an operation whose downlink it held completes CANCELLED. -/
def State.provDelete (s : State) : State :=
  if !s.provOk then s.provRes prREFUSED
  else
    let i := s.fget F.MSH_PROV_IDX_IDX
    let down := (s.assoc i).bind (·.down)
    let s := (s.freeAssoc i).provRes prDONE
    match down with
    | some o =>
      match o.kind with
      | .host k => s.completeAs k Sts.CANCELLED
      | _ => s
    | none => s

/-- CMD 3: the entry's state, supervision count and LONG show. -/
def State.provLoad (s : State) : State :=
  if !s.provOk then s.provRes prREFUSED
  else
    let e := s.assoc (s.fget F.MSH_PROV_IDX_IDX)
    let st := match e with | some x => if x.joined then 2 else 1 | none => 0
    (s.fsetAll [(F.MSH_PROV_CTL_STATE, st), (F.MSH_PROV_CTL_SUPV, ((e.map (·.supv)).getD 0)),
      (F.MSH_PROV_LONG_LONG, ((e.map (·.long)).getD 0))]).provRes prDONE

/-- A word of MSH_PROV_CTL. -/
def State.provCtl (s : State) (v : Nat) : State :=
  if v % 4 = 1 then s.provWrite else if v % 4 = 2 then s.provDelete else if v % 4 = 3 then s.provLoad else s

/-! What the radio shows -/

/-- What the radio does, as RAD_STATUS.STATE codes it: 0 at rest, 1 idle, 2 listening before a frame, 3 receiving, 4 transmitting. -/
def State.radioState (s : State) : Nat :=
  if s.dom domRADIO ≠ pwON then 0
  else
    match s.rad.job with
    | some j => if j.listen then 2 else 4
    | none => if s.rad.rx.isSome || s.rxOpen then 3 else 1

/-- RAD_STATUS: what the radio does, and the fields of the active image. -/
def State.radStatus (s : State) : Nat :=
  match s.radio with
  | some r => s.radioState + r.phy * 2 ^ 8 + r.band % 2 * 2 ^ 16 + r.opts % 4 * 2 ^ 17
  | none => s.radioState

end Sys2Proof.Machine
end

