-- ==== Sys2Proof/Machine/RegIO.lean ====
section
/-! DEFINITION. Host reads and writes of registers, word by word (R16 to R23): which addresses hold a register, what a read returns
and does, which words complete LOCKED, and what a word does when it is applied. -/

namespace Sys2Proof.Machine

/-! Where registers are (R4, R16, R17) -/

/-- Is `a` a register of a block of `n` that stand `stride` apart from `base`? Its index. -/
def regIdx (base stride n a : Nat) : Option Nat :=
  if base ≤ a ∧ a < base + stride * n ∧ (a - base) % stride = 0 then some ((a - base) / stride) else none

/-- Is `a` the region of a unit that the part lacks? -/
def State.absentUnit (s : State) (a : Nat) : Bool := !s.hasRadio && (a / 0x10000 == 10 || a / 0x10000 == 11)

/-- Does a register region serve a word at `a`? -/
def State.regAt (s : State) (a : Nat) : Bool :=
  a < 0x100000 && (s.absentUnit a || (findReg a).isSome || (findPending a).isSome)

/-- The active offset of an RWP register named by its active or its pending offset (R20). -/
def activeAddr (a : Nat) : Nat := if (findPending a).isSome then a - 0x800 else a

/-! Reads (R19, R295) -/

/-- Read a register that has no effect of its own: write-only bits read zero, RC bits clear. -/
def State.readPlain (s : State) (a : Nat) : Nat × State :=
  match findReg a with
  | some r =>
    let v := s.reg a
    ((v &&& ~~~(BitVec.ofNat 32 r.wo)).toNat, if r.rc = 0 then s else s.setReg a (v &&& ~~~(BitVec.ofNat 32 r.rc)))
  | none => (s.regN a, s)

/-- SYS_GPIO_IO: the input levels in functions 1 and 2, and the output latch (R395). -/
def State.gpioIo (s : State) : Nat :=
  maskOf ((List.range 4).filter fun n => s.gpio.testBit n && (s.gpioFn n == 1 || s.gpioFn n == 2)) + s.fget F.SYS_GPIO_IO_OUT * 2 ^ 8

/-- Table entries in a state, as a mask. -/
def State.opMask (s : State) (st : OpState) : Nat := maskOf ((List.range 16).filter fun i => (s.opE i).st == st)

def State.readSys (s : State) (a : Nat) : Nat × State :=
  if a = Reg.SYS_ID then (s.sysId, s)
  else if a = Reg.SYS_CAPS then (s.sysCaps, s)
  else if a = Reg.SYS_GPIO_IO then (s.gpioIo, s)
  else s.readPlain a

def State.readHif (s : State) (a : Nat) : Nat × State :=
  if a = Reg.HIF_STATUS then
    (popCount 16 (s.opMask .active) + popCount 16 (s.opMask .complete) * 2 ^ 8 + s.hif.win.length * 2 ^ 16, s)
  else if a = Reg.HIF_OPMAP then (s.opMask .active + s.opMask .complete * 2 ^ 16, s)
  else s.readPlain a

/-- A read of a result queue or of COUNT of a statistics unit (R132, R140). -/
def State.readTiu (s : State) (a : Nat) : Nat × State :=
  match regIdx (Reg.TIU_EV_VAL 0) 32 6 a with
  | some e => s.evTake e
  | none =>
    match regIdx (Reg.TIU_ST_COUNT 0) 32 22 a with
    | some c => ((s.stat c).n + s.fget (F.TIU_ST_COUNT_EXCL c) * 2 ^ 16, s.statSnapshot c)
    | none => s.readPlain a

def State.readEch (s : State) (a : Nat) : Nat × State :=
  if a = Reg.ECH_GDLY_VAL then ((Config.gainDelay (min 120 (s.fget F.ECH_GDLY_IDX_GAIN))).toNat, s) else s.readPlain a

def State.readFlw (s : State) (a : Nat) : Nat × State :=
  if a = Reg.FLW_COEF_VAL then
    let i := s.fget F.FLW_COEF_IDX_IDX
    (s.coefFlw i, s.when (inFlwTable i) fun s => s.touchCoef (0x010 + 4 * i) 4)
  else if a = Reg.FLW_STATUS then s.flwSnapshot.readPlain a
  else s.readPlain a

def State.readTmu (s : State) (a : Nat) : Nat × State :=
  if a = Reg.TMU_COEF_VAL then
    let i := s.fget F.TMU_COEF_IDX_IDX
    (s.coefTmu i, s.when (i < 0x16) fun s => s.touchCoef (0x210 + 4 * i) 4)
  else if a = Reg.TMU_STATUS then s.tmuSnapshot.readPlain a
  else s.readPlain a

/-- A read of W0 of an accumulator takes its snapshot (R217). -/
def State.readLdg (s : State) (a : Nat) : Nat × State :=
  if a = Reg.LDG_KTAB_VAL then (s.ktabValue, s)
  else
    match regIdx (Reg.LDG_ACC_W0 0) 16 17 a with
    | some k => (s.accSnapshot k).readPlain a
    | none => s.readPlain a

def State.readRad (s : State) (a : Nat) : Nat × State :=
  if a = Reg.RAD_STATUS then (s.radStatus, s)
  else if a = Reg.RAD_GOV_USED then (s.govUsedNow, s)
  else if a = Reg.RAD_GOV_BUDGET then (s.govBudgetNow, s)
  else s.readPlain a

def State.readMsh (s : State) (a : Nat) : Nat × State :=
  if a = Reg.MSH_KEVT then s.takeKevt else s.readPlain a

def State.readMem (s : State) (a : Nat) : Nat × State :=
  if a = Reg.MEM_LOG_CTL then s.logSnapshot.readPlain a else s.readPlain a

/-- A read of a time register may freeze or release the clock (R359). -/
def State.readRtc (s : State) (a : Nat) : Nat × State :=
  match regIdx Reg.RTC_SUBSEC 4 9 a with
  | some f => s.timeRead f
  | none =>
    if a = Reg.RTC_COEF_VAL then
      let i := s.fget F.RTC_COEF_IDX_IDX
      (s.coefRtc i, s.when (i < 0x22) fun s => s.touchCoef (0x270 + 4 * i) 4)
    else s.readPlain a

/-- Bits of absent banks read zero in the PWR region (R4). -/
def State.readPwr (s : State) (a : Nat) : Nat × State :=
  let r := s.readPlain a
  let gone := (List.range 16).filter fun b => s.banks ≤ b
  let bits := if a = Reg.PWR_STATE1 then gone.flatMap fun b => [2 * (domMEM b - 16), 2 * (domMEM b - 16) + 1]
    else if a = Reg.PWR_REST ∨ a = Reg.PWR_HOLD ∨ a = Reg.PWR_SLEEPSET then gone.map domMEM
    else if a = Reg.PWR_RETLOST then gone
    else []
  (bits.foldl clrBit r.1, r.2)

def State.readUpd (s : State) (a : Nat) : Nat × State :=
  if a = Reg.UPD_TRIAL_LEFT then (if s.updState = upTRIAL then s.upd.trialLft / 32768 else 0, s)
  else if a = Reg.UPD_TRNG then s.trngRead
  else if a = Reg.UPD_KEY_KCV 0 then (((s.upd.keys.getD 0 none).map (keyCheck 0)).getD 0, s)
  else s.readPlain a

/-- Is a register read as poisoned (R293): one of the marked registers, or a coefficient whose NVM word is? -/
def State.regPoison (s : State) (a : Nat) : Bool :=
  s.regBad a || (a == Reg.FLW_COEF_VAL && inFlwTable (s.fget F.FLW_COEF_IDX_IDX) && s.coefBad (0x010 + 4 * s.fget F.FLW_COEF_IDX_IDX)) ||
    (a == Reg.TMU_COEF_VAL && s.fget F.TMU_COEF_IDX_IDX < 0x16 && s.coefBad (0x210 + 4 * s.fget F.TMU_COEF_IDX_IDX)) ||
    (a == Reg.RTC_COEF_VAL && s.fget F.RTC_COEF_IDX_IDX < 0x22 && s.coefBad (0x270 + 4 * s.fget F.RTC_COEF_IDX_IDX))

/-- Read a register: its value and the state after; an absent part reads zero (R4). -/
def State.readReg (s : State) (a : Nat) : Nat × State :=
  if s.absentReg a then (0, s)
  else
    match a / 0x10000 with
    | 0 => s.readSys a
    | 1 => s.readHif a
    | 5 => s.readTiu a
    | 6 => s.readEch a
    | 7 => s.readFlw a
    | 8 => s.readTmu a
    | 9 => s.readLdg a
    | 10 => s.readRad a
    | 11 => s.readMsh a
    | 12 => s.readMem a
    | 13 => s.readPwr a
    | 14 => s.readRtc a
    | 15 => s.readUpd a
    | _ => s.readPlain a

/-! Words that complete LOCKED under their own rule (R295) -/

/-- A metrological RWP register in SEALED (R94). -/
def State.metroLocked (s : State) (a : Nat) : Bool := s.life == lcSEALED && isRwp a && isMetro (activeAddr a)

/-- Event channels (R136): channel 20 belongs to the TMU; a running channel keeps its configuration; an invalid one is not armed. -/
def State.tiuLocked (s : State) (a v : Nat) : Bool :=
  match regIdx (Reg.TIU_EV_CFG 0) 32 6 a with
  | some e => e == 4 || s.evState e == evARMED || s.evState e == evRUN
  | none =>
    match regIdx (Reg.TIU_EV_ARM 0) 32 6 a with
    | some e => e == 4 || (v % 4 == 1 && s.evState e != evARMED && s.evState e != evRUN && !s.evValid e)
    | none => false

/-- The ledger: CLEAR outside BLANK, PROVISION and CALIBRATE (R219); the increment set in hardware flow (R33). -/
def State.ldgLocked (s : State) (a v : Nat) : Bool :=
  (a == Reg.LDG_CTL && v.testBit 0 && lcSEALED ≤ s.life) ||
    (Reg.LDG_HOSTINC_W 0 ≤ a && a ≤ Reg.LDG_HOSTINC_GO && !s.hostFlow)

def State.memLocked (s : State) (a v : Nat) : Bool :=
  (a == Reg.MEM_FLIP_CTL && v.testBit 5 && s.armLocked (v % 32)) || (a == Reg.MEM_RETIRE && v.testBit 17 && s.updBusy)

def State.pwrLocked (s : State) (a v : Nat) : Bool :=
  (a == Reg.PWR_HOLD && s.holdLocked v) || (a == Reg.PWR_SLEEPSET && s.sleepLocked)

def State.updLocked (s : State) (a v : Nat) : Bool :=
  (a == Reg.UPD_LIFE_REQ && s.lifeLocked v) || (a == Reg.UPD_CTL && s.updCtlLocked v) ||
    (a == Reg.UPD_CONFIRM && v.testBit 0 && s.confirmLocked) || (a == Reg.UPD_WINDOW && s.updState == upTRIAL)

/-- Does a word complete LOCKED? -/
def State.wordLocked (s : State) (a v : Nat) : Bool :=
  if s.absentReg a then false
  else
    match a / 0x10000 with
    | 4 => (a == Reg.AFE_SLOT_REL || (regIdx (Reg.AFE_TEXP 0) 4 8 a).isSome) && !s.hostEcho
    | 5 => s.tiuLocked a v
    | 6 => s.metroLocked a || (a == Reg.ECH_CTL && s.hostEcho) || (a == Reg.ECH_HOSTEVT && !s.hostEcho)
    | 7 => s.metroLocked a || (a == Reg.FLW_CTL && s.hostFlow)
    | 8 => s.metroLocked a
    | 9 => s.metroLocked a || s.ldgLocked a v
    | 12 => s.memLocked a v
    | 13 => s.pwrLocked a v
    | 14 => (a == Reg.RTC_TRIM && !s.hostTrim) || (a == Reg.RTC_COMMIT && s.rtcCommitBad v)
    | 15 => s.updLocked a v
    | _ => false

/-! Writes (R19 to R21, R92) -/

/-- The value a write leaves in a register by its access types. -/
def RegRow.next (r : RegRow) (old v : Word) : Word :=
  let rw := BitVec.ofNat 32 (r.rw.lor r.wo)
  ((old &&& ~~~rw ||| v &&& rw) &&& ~~~(v &&& BitVec.ofNat 32 r.w1c)) ||| (v &&& BitVec.ofNat 32 r.w1s)

/-- Write a register by its access types alone; an RWP register by either offset sets its pending copy (R92). -/
def State.writePlain (s : State) (a v : Nat) : State :=
  let w := BitVec.ofNat 32 v
  match findReg a with
  | some r =>
    if r.rwp then s.setReg (a + 0x800) (w &&& BitVec.ofNat 32 r.rw) else s.setReg a (r.next (s.reg a) w)
  | none =>
    match findPending a with
    | some r => s.setReg a (w &&& BitVec.ofNat 32 r.rw)
    | none => s

/-- DISCARD: every pending copy of a region takes its active value and REQ clears (R92). -/
def State.discardCommit (s : State) (region : Nat) : State :=
  ((rwpAddrs region).foldl (fun (t : State) (a : Nat) => t.setReg (a + 0x800) (t.reg a)) s).fset ⟨region * 0x10000 + 0x7FC, 0, 1⟩ 0

/-- A word of a COMMIT register (R92). -/
def State.writeCommit (s : State) (region v : Nat) : State :=
  if v.testBit 1 then s.discardCommit region
  else if v.testBit 0 then s.fset ⟨region * 0x10000 + 0x7FC, 0, 1⟩ 1
  else s

/-- HIF_CFG: a change of SYNC_MODE takes effect at the write (R311). -/
def State.writeHif (s : State) (a v : Nat) : State :=
  let t := s.writePlain a v
  if a = Reg.HIF_CFG ∧ t.fget F.HIF_CFG_SYNC_MODE ≠ s.fget F.HIF_CFG_SYNC_MODE then t.syncMode (s.fget F.HIF_CFG_SYNC_MODE) else t

/-- AFE_SLOT_REL releases FULL slots (R121). -/
def State.writeAfe (s : State) (a v : Nat) : State :=
  if a = Reg.AFE_SLOT_REL then (maskList 16 v).foldl (fun (t : State) (k : Nat) => t.releaseSlot k) s else s.writePlain a v

/-- EV_ARM: DISARM acts alone; GO arms a channel that is not armed or running (R136). -/
def State.writeEvArm (s : State) (e v : Nat) : State :=
  if v.testBit 1 then s.evDisarm e
  else if v.testBit 0 && s.evState e != evARMED && s.evState e != evRUN then s.evArm e
  else s

/-- ST_CFG: SRC and N, then STOP alone or GO (R138). -/
def State.writeStat (s : State) (c v : Nat) : State :=
  let s := s.fsetAll [(F.TIU_ST_CFG_SRC c, v % 4), (F.TIU_ST_CFG_N c, bitsOf v 16 16)]
  if v.testBit 3 then (if s.fget (F.TIU_ST_CFG_STATE c) = 1 then s.fset (F.TIU_ST_CFG_STATE c) 0 else s)
  else if v.testBit 2 then s.statGo c
  else s

def State.writeTiu (s : State) (a v : Nat) : State :=
  match regIdx (Reg.TIU_EV_ARM 0) 32 6 a with
  | some e => s.writeEvArm e v
  | none =>
    match regIdx (Reg.TIU_ST_CFG 0) 32 22 a with
    | some c => s.writeStat c v
    | none => s.writePlain a v

/-- ECH_CTL: reseeds and cleared averages of the chords present (R159, R160). -/
def State.echCtl (s : State) (v : Nat) : State :=
  let s := (maskList s.chords v).foldl (fun (t : State) (n : Nat) => t.unseed n) s
  (maskList s.chords (v / 2 ^ 8)).foldl (fun (t : State) (n : Nat) => t.clearAvg n) s

/-- ECH_HOSTEVT.EMPTY (R169). -/
def State.hostEmpty (s : State) : State := ((s.fset F.ECH_STATUS_EMPTY 1).raise F.SYS_IRQ_EMPTY).raiseFog fogEMPTY []

/-- ECH_HOSTEVT.REFILL (R169). -/
def State.hostRefill (s : State) : State := s.fsetAll [(F.ECH_STATUS_EMPTY, 0), (F.ECH_STATUS_REFILL, 1)]

def State.writeEch (s : State) (a v : Nat) : State :=
  if a = Reg.ECH_CTL then s.echCtl v
  else if a = Reg.ECH_HOSTEVT then
    let s := if v.testBit 0 then s.hostEmpty else s
    if v.testBit 1 then s.hostRefill else s
  else s.writePlain a v

/-- FLW_CTL: chords leave FAILED and ratio rings empty (R181, R182). -/
def State.flwCtl (s : State) (v : Nat) : State :=
  let s := (maskList s.chords v).foldl (fun (t : State) (n : Nat) => t.unfailChord n) s
  (maskList s.chords (v / 2 ^ 8)).foldl (fun (t : State) (n : Nat) => t.setRing n []) s

def State.writeFlw (s : State) (a v : Nat) : State := if a = Reg.FLW_CTL then s.flwCtl v else s.writePlain a v

/-- LDG_CTL.CLEAR waits for S3 of the next mark (R219). -/
def State.writeLdg (s : State) (a v : Nat) : State :=
  if a = Reg.LDG_CTL then (if v.testBit 0 then s.setLdg fun l => { l with clearReq := true } else s) else s.writePlain a v

def State.writeRad (s : State) (a v : Nat) : State := if a = Reg.RAD_RXREL then s.releaseRx v else s.writePlain a v

def State.writeMsh (s : State) (a v : Nat) : State :=
  if a = Reg.MSH_CTL then s.meshCtl v
  else if a = Reg.MSH_FOG_GO then (if v.testBit 0 then s.fogAlarm else s)
  else if a = Reg.MSH_PROV_CTL then s.provCtl v
  else s.writePlain a v

/-- MEM_FLIP_CTL: REGION, then DISARM or ARM (R324). -/
def State.writeFlip (s : State) (v : Nat) : State :=
  let s := s.fset F.MEM_FLIP_CTL_REGION (v % 32)
  if v.testBit 6 then s.flipDisarm else if v.testBit 5 then s.flipArm (v % 32) else s

/-- MEM_RETIRE: its fields, then the retirements they name (R329, R330). -/
def State.writeRetire (s : State) (v : Nat) : State :=
  let s := s.fsetAll [(F.MEM_RETIRE_BANK, v % 16), (F.MEM_RETIRE_ROW, bitsOf v 4 5), (F.MEM_RETIRE_PAGE, bitsOf v 23 9)]
  let s := if v.testBit 16 then s.retireRow (v % 16) (bitsOf v 4 5) else s
  if v.testBit 17 then s.retirePage (bitsOf v 23 9) else s

def State.writeMem (s : State) (a v : Nat) : State :=
  if a = Reg.MEM_POLICY then s.policyWrite v
  else if a = Reg.MEM_LOG_CTL then (if v.testBit 16 then s.logClear else s)
  else if a = Reg.MEM_FLIP_CTL then s.writeFlip v
  else if a = Reg.MEM_RETIRE then s.writeRetire v
  else s.writePlain a v

def State.writePwr (s : State) (a v : Nat) : State :=
  if a = Reg.PWR_HOLD then s.holdDoms v else if a = Reg.PWR_SLEEPSET then s.sleepWrite v else s.writePlain a v

/-- RTC_COMMIT: DISCARD alone, or GO (R360). -/
def State.writeRtcCommit (s : State) (v : Nat) : State :=
  if v.testBit 1 then s.rtcDiscard else if v.testBit 0 then s.rtcCommit else s

def State.writeRtc (s : State) (a v : Nat) : State :=
  match regIdx Reg.RTC_SEC 4 8 a with
  | some f => s.rtcPend f v
  | none =>
    if a = Reg.RTC_UNFREEZE then (if v.testBit 0 then s.unfreeze else s)
    else if a = Reg.RTC_COMMIT then s.writeRtcCommit v
    else if a = Reg.RTC_TRIM then s.trimWrite v
    else s.writePlain a v

def State.writeUpd (s : State) (a v : Nat) : State :=
  if a = Reg.UPD_LIFE_REQ then s.lifeRequest v
  else if a = Reg.UPD_CTL then s.updCtl v
  else if a = Reg.UPD_CONFIRM then (if v.testBit 0 then s.updConfirm else s)
  else if a = Reg.UPD_KEY_CTL then (if v.testBit 0 then s.keyWrite else s)
  else s.writePlain a v

/-- Apply a word that does not complete LOCKED; an absent part ignores it (R4). -/
def State.writeReg (s : State) (a v : Nat) : State :=
  if s.absentReg a then s
  else if a % 0x10000 = 0x7FC ∧ (findReg a).isSome then s.writeCommit (a / 0x10000) v
  else
    match a / 0x10000 with
    | 1 => s.writeHif a v
    | 4 => s.writeAfe a v
    | 5 => s.writeTiu a v
    | 6 => s.writeEch a v
    | 7 => s.writeFlw a v
    | 9 => s.writeLdg a v
    | 10 => s.writeRad a v
    | 11 => s.writeMsh a v
    | 12 => s.writeMem a v
    | 13 => s.writePwr a v
    | 14 => s.writeRtc a v
    | 15 => s.writeUpd a v
    | _ => s.writePlain a v

end Sys2Proof.Machine
end

