-- ==== Sys2Proof/Machine/HostMem.lean ====
section
/-! DEFINITION. Host READ and WRITE frames (R17, R18, R77, R295, R313): judged word by word before anything takes effect, then applied
or read in ascending order, registers and memory alike. -/

namespace Sys2Proof.Machine

/-! Addresses -/

/-- Bytes of a span that lie in the register regions. -/
def regPart (a n : Nat) : Nat := if a < 0x100000 then min n (0x100000 - a) else 0

/-- Does a span lie wholly in the memory windows of this part (R7, R16)? SRAM and capture SRAM touch where sixteen banks are present. -/
def State.memOk (s : State) (a n : Nat) : Bool :=
  let sram := 0x100000 + 0x8000 * s.banks
  (0x100000 ≤ a && a + n ≤ sram) || (0x180000 ≤ a && a + n ≤ 0x186000) || (0x100000 ≤ a && s.banks == 16 && a + n ≤ 0x186000) ||
    (0x200000 ≤ a && a + n ≤ 0x310000)

/-- Register words of a span. -/
def regWords (a n : Nat) : List Nat := (List.range (n / 4)).map fun i => a + 4 * i

/-- Does no word of a frame break R17 or R7? -/
def State.frameOk (s : State) (a n : Nat) : Bool :=
  let k := regPart a n
  (k == 0 || (a % 4 == 0 && k % 4 == 0 && (regWords a k).all s.regAt)) && (n == k || s.memOk (a + k) (n - k))

/-- Do two spans meet? -/
def spansMeet (a n lo hi : Nat) : Bool := n != 0 && a < hi && lo < a + n

/-! READ -/

/-- Does a READ complete LOCKED: it touches BANK0 (R313)? -/
def readLocked (a n : Nat) : Bool := spansMeet a n 0x100000 0x108000

/-- The spans of the memories that have a power domain: the banks, the capture SRAM and the NVM (R334). -/
def domainSpans : List (Nat × Nat) :=
  (List.range 16).map (fun b => (0x100000 + 0x8000 * b, 0x108000 + 0x8000 * b)) ++ [(0x180000, 0x186000), (0x200000, 0x310000)]

/-- Wake the memories that a span touches and return them to the state they were in (R295, R335, R336). -/
def State.touchBanks (s : State) (a n : Nat) : State :=
  domainSpans.foldl (fun (t : State) (w : Nat × Nat) => if spansMeet a n w.1 w.2 then t.hostTouch w.1 else t) s

/-- Read register words in ascending order: the bytes with their poison marks. -/
def State.readWords (s : State) : List Nat → List (Byte × Bool) × State
  | [] => ([], s)
  | a :: t =>
    let bad := s.regPoison a
    let r := s.readReg a
    let rest := r.2.readWords t
    ((leBytes 4 r.1).map (fun (b : Byte) => (b, bad)) ++ rest.1, rest.2)

/-- Banks a running keeper holds its table and seen-cache in (R275). -/
def State.keeperBanks (s : State) : List Nat :=
  match s.image with
  | some i => if s.isKeeper then (List.range i.keeperBanks).map (i.keeperBank + ·) else []
  | none => []

/-- Bytes read from address a, those of the keeper's table and seen-cache as free values: the spec does not give their layout (R275). -/
def State.hideKeeper (s : State) (a : Nat) (l : List (Byte × Bool)) : List (Byte × Bool) × State :=
  let mine := fun (i : Nat) => s.keeperBanks.any fun b => 0x100000 + 0x8000 * b ≤ a + i && a + i < 0x108000 + 0x8000 * b
  if (List.range l.length).any mine then
    let v := s.draw
    (((List.range l.length).zip (l.zip (leBytes l.length v.1))).map fun p => if mine p.1 then (p.2.2, p.2.1.2) else p.2.1, v.2)
  else (l, s)

/-- Read a span that frameOk admits. -/
def State.readFrame (s : State) (a n : Nat) : List (Byte × Bool) × State :=
  let k := regPart a n
  let r := s.readWords (regWords a k)
  if n = k then r
  else
    let m := (r.2.touchBanks (a + k) (n - k)).readMarked (a + k) (n - k) .host
    let h := m.2.hideKeeper (a + k) m.1
    (r.1 ++ h.1, h.2)

/-- The status of a READ (R295). -/
def State.readStatus (s : State) (a n : Nat) : Nat :=
  if !s.frameOk a n then Sts.BAD_ADDR else if readLocked a n then Sts.LOCKED else Sts.DONE

/-! WRITE -/

/-- Words of register data with their addresses. -/
def wordsOf (a : Nat) (d : List Byte) (n : Nat) : List (Nat × Nat) := (List.range (n / 4)).map fun i => (a + 4 * i, leAt d (4 * i) 4)

/-- Memory a host may not write: BANK0, BANK1, capture SRAM, the NVM windows and the keeper banks (R18, R77, R275, R313). -/
def State.memWriteLocked (s : State) (a n : Nat) : Bool :=
  spansMeet a n 0x100000 0x110000 || spansMeet a n 0x180000 0x186000 || spansMeet a n 0x200000 0x310000 ||
    s.keeperBanks.any fun b => spansMeet a n (0x100000 + 0x8000 * b) (0x108000 + 0x8000 * b)

/-- The state a commit word of the clock is judged in: the time fields the frame writes are pending (R360). -/
def State.rtcFrame (s : State) (l : List (Nat × Nat)) : State :=
  l.foldl (fun (t : State) (p : Nat × Nat) =>
    match regIdx Reg.RTC_SEC 4 8 p.1 with
    | some f => t.rtcPend f p.2
    | none => t) s

/-- Does a word of a frame complete LOCKED (R295)? -/
def State.frameWordLocked (s : State) (l : List (Nat × Nat)) (p : Nat × Nat) : Bool :=
  if p.1 = Reg.RTC_COMMIT then (s.rtcFrame l).wordLocked p.1 p.2 else s.wordLocked p.1 p.2

/-- What a refused frame still leaves: BADSET (R360) and the reason of a refused transition (R369). -/
def State.afterLocked (s : State) (l : List (Nat × Nat)) : State :=
  l.foldl (fun (t : State) (p : Nat × Nat) =>
    if s.frameWordLocked l p then
      if p.1 = Reg.RTC_COMMIT then t.fset F.RTC_STATUS_BADSET 1
      else if p.1 = Reg.UPD_LIFE_REQ then t.lifeRefused p.2
      else t
    else t) s

/-- Write memory, waking the banks that rest OFF. -/
def State.writeMemory (s : State) (a : Nat) (d : List Byte) : State := (s.touchBanks a d.length).writeBytes a d

/-- A WRITE frame (R295): its status and the state after. -/
def State.writeFrame (s : State) (a : Nat) (d : List Byte) : Nat × State :=
  let n := d.length
  let k := regPart a n
  let l := wordsOf a d k
  if !s.frameOk a n then (Sts.BAD_ADDR, s)
  else if l.any (s.frameWordLocked l) || s.memWriteLocked (a + k) (n - k) then (Sts.LOCKED, s.afterLocked l)
  else
    let t := l.foldl (fun (t : State) (p : Nat × Nat) => t.writeReg p.1 p.2) s
    (Sts.DONE, if n = k then t else t.writeMemory (a + k) (d.drop k))

end Sys2Proof.Machine
end

