-- ==== Sys2Proof/Machine/OpSubmit.lean ====
section
/-! DEFINITION. The operations' own submission checks (check 6 of R294), their lower budgets (R45, R281, R332), and what starts at
once when an operation is accepted in a facet that runs it (R62). -/

namespace Sys2Proof.Machine

/-- Length of the parameter block of a TYPE (R304): none for a code that names no operation. -/
def paramLen (type : Nat) : Option Nat :=
  if type = opSHOT ∨ type = opCONVERT ∨ type = opRADIO_SCAN ∨ type = opSLINK_SET then some 4
  else if type = opNVM_WRITE ∨ type = opRADIO_TX then some 12
  else if type = opSCRUB ∨ type = opSTI_LOAD then some 8
  else if type = opLEDGER_COMMIT then some 0
  else none

/-- The first failing check of a list, in order. -/
def firstFail : List (Bool × Nat) → Option Nat
  | [] => none
  | (c, st) :: t => if c then some st else firstFail t

/-- SHOT (R189). -/
def State.checkShot (s : State) (p : List Byte) : Option Nat :=
  let m := leAt p 0 1
  firstFail [(!s.hostShots, Sts.LOCKED), (m / 2 ^ s.chords != 0, Sts.NOT_PRESENT),
    (m == 0 || (maskList 8 m).any (fun n => !s.hostChords.testBit n) || leAt p 1 1 / 2 != 0 || leAt p 2 2 != 0, Sts.REFUSED)]

/-- CONVERT (R211). -/
def State.checkConvert (s : State) (p : List Byte) : Option Nat :=
  let m := leAt p 0 1
  firstFail [(!s.hostTherm, Sts.LOCKED), (m.testBit 4 && !s.hasPressure, Sts.NOT_PRESENT),
    (m == 0 || (maskList 5 m).any (fun i => !s.elemSet i) || m / 32 != 0 || leAt p 1 3 != 0, Sts.REFUSED)]

/-- Is a span in the SRAM banks present? A RADIO_TX body in a bank that the part lacks is outside the window, BAD_ADDR (DESIGN CHOICE,
log 188). -/
def State.inSram (s : State) (a n : Nat) : Bool := 0x100000 ≤ a && a + n ≤ 0x100000 + 0x8000 * s.banks

/-- NVM_WRITE (R331, R383). -/
def State.checkNvmWrite (s : State) (p : List Byte) : Option Nat :=
  let src := leAt p 0 3
  let dst := leAt p 4 3
  let pages := leAt p 8 2
  let n := pages * 0x800
  firstFail [(!s.inSram src n || !(0x200000 ≤ dst && dst + n ≤ 0x300000), Sts.BAD_ADDR),
    (spansMeet src n 0x100000 0x108000 || spansMeet dst n s.activeBase (s.activeBase + 0x80000) || s.updBusy, Sts.LOCKED),
    (src % 16 != 0 || dst % 0x800 != 0 || pages == 0 || 64 < pages || leAt p 3 1 != 0 || leAt p 7 1 != 0 || leAt p 10 2 != 0, Sts.REFUSED)]

/-- SCRUB (R325). -/
def State.checkScrub (s : State) (p : List Byte) : Option Nat :=
  let a := leAt p 0 3
  let n := leAt p 4 4
  let within := fun (lo hi : Nat) => lo ≤ a && a < hi && a + n ≤ hi
  firstFail [(!(within 0x100000 (0x100000 + 0x8000 * s.banks) || within 0x180000 0x186000 || within 0x200000 0x300000 ||
      within 0x300000 0x310000), Sts.BAD_ADDR),
    (a % 16 != 0 || n % 16 != 0 || n < 16 || 0x100000 < n || leAt p 3 1 != 0, Sts.REFUSED)]

/-- RADIO_TX with MAC host-assisted (R252). -/
def State.checkTxHost (s : State) (p : List Byte) : Option Nat :=
  let n := leAt p 8 2
  firstFail [(!s.inSram (leAt p 4 3) n, Sts.BAD_ADDR),
    (!chanOk s.phy s.band (leAt p 0 1) || n == 0 || (if isWm s.phy then 255 else 511) < n || leAt p 2 1 / 16 != 0 || leAt p 7 1 != 0 ||
      leAt p 10 2 != 0, Sts.REFUSED)]

/-- The ASSOC entry of a short address. -/
def State.joinedEntry (s : State) (short : Nat) : Option AssocEntry :=
  if short = 0 then none else (s.assoc (short - 1)).filter (·.joined)

/-- Is the receiver of a host body refused (R282)? The table that a keeper keeps serves before its role starts again (R287). -/
def State.dstRefused (s : State) (dst cls : Nat) : Bool :=
  if s.role = roleKEEPER then
    if dst = 0xFFFF then !s.hasEntry kFLOOD || s.queueFull cls
    else match s.joinedEntry dst with
      | some e => e.down.isSome
      | none => true
  else if s.role = roleBUOY then dst != 0 || s.mst == bsOFF || s.mst == bsSCAN || s.mst == bsJOIN || s.queueFull cls
  else if s.role = 0 then s.queueFull cls
  else true

/-- RADIO_TX with MAC in hardware mode (R282). -/
def State.checkTxMac (s : State) (p : List Byte) : Option Nat :=
  let cls := leAt p 2 1
  let n := leAt p 8 2
  firstFail [(!s.inSram (leAt p 4 3) n, Sts.BAD_ADDR),
    ((if s.role = roleBUOY then 2 else 1) < cls || 4 ≤ leAt p 3 1 || (2 ≤ leAt p 3 1 && !(s.role == 0 && s.phy == 0x11)) || leAt p 7 1 != 0 ||
      n == 0 || (if isWm s.phy then 200 else 485) < n || leAt p 10 2 != 0 || s.dstRefused (leAt p 0 2) cls, Sts.REFUSED)]

/-- RADIO_TX: no radio (R5), no RADIO section (R257), then the checks of the MAC mode. -/
def State.checkRadioTx (s : State) (p : List Byte) : Option Nat :=
  if !s.hasRadio then some Sts.NOT_PRESENT
  else if s.radio.isNone then some Sts.REFUSED
  else if s.macMode = 0 then s.checkTxMac p
  else s.checkTxHost p

/-- RADIO_SCAN (R254, R257). -/
def State.checkRadioScan (s : State) (p : List Byte) : Option Nat :=
  firstFail [(!s.hasRadio, Sts.NOT_PRESENT),
    (s.radio.isNone || !chanOk s.phy s.band (leAt p 0 1) || leAt p 1 1 != 0 || leAt p 2 2 == 0, Sts.REFUSED)]

/-- SLINK_SET (R351). -/
def State.checkSlink (s : State) (p : List Byte) : Option Nat :=
  let rail := leAt p 0 1
  let v := leAt p 1 1
  firstFail [(1 < rail || leAt p 2 2 != 0 || (rail == 0 && (v < 100 || 120 < v)) || (rail == 1 && v != 0 && (v < 33 || 240 < v)) ||
    (rail == 1 && s.image.isSome), Sts.REFUSED)]

/-- STI_LOAD (R304). -/
def checkLoad (p : List Byte) : Option Nat :=
  let src := leAt p 0 4
  firstFail [(bitsOf src 24 7 != 0 || (src.testBit 31 && (src % 2 ^ 24 != 0 || leAt p 4 4 != 0)), Sts.REFUSED)]

/-- The submission checks of a TYPE. -/
def State.checkOp (s : State) (type : Nat) (p : List Byte) : Option Nat :=
  if type = opSHOT then s.checkShot p
  else if type = opCONVERT then s.checkConvert p
  else if type = opNVM_WRITE then s.checkNvmWrite p
  else if type = opSCRUB then s.checkScrub p
  else if type = opRADIO_TX then s.checkRadioTx p
  else if type = opRADIO_SCAN then s.checkRadioScan p
  else if type = opSLINK_SET then s.checkSlink p
  else if type = opSTI_LOAD then checkLoad p
  else none

/-- Budget B of a RADIO_TX in µs (R281). -/
def State.txBudget (s : State) (p : List Byte) : Nat :=
  let n := leAt p 8 2
  if s.macMode ≠ 0 then
    let air := if isWm s.phy then wmAir s.phy n else sunAir s.phy (leAt p 2 1 % 2 == 1) s.preLen n
    s.plainBudget (max 1 (min 8 (leAt p 3 1))) air
  else if s.isWmMac then s.plainBudget s.lbtTries (s.wmOwnAir (2 ≤ leAt p 3 1) n)
  else if leAt p 0 2 = 0xFFFF then s.plainBudget s.lbtTries (sunAir s.phy s.fecOn s.preLen (n + 26))
  else s.meshBudget (n + 22) (leAt p 2 1 % 4 == 2)

/-- The lower full budget B in µs (R45); 0 where an operation has no lower mechanism. -/
def State.budgetOf (s : State) (type : Nat) (p : List Byte) : Nat :=
  if type = opNVM_WRITE then 9900 * leAt p 8 2
  else if type = opSLINK_SET then 256
  else if type = opRADIO_TX then s.txBudget p
  else 0

/-! Acceptance -/

/-- An accepted host body enters its queue, or waits as a keeper's downlink (R278, R282, R283). -/
def State.queueHostTx (s : State) (i : Nat) : State :=
  let e := s.opE i
  let dst := e.par 0 2
  let o : Own := { kind := .host i, type := tyDATA, cls := e.par 2 1, dst := if s.role = roleKEEPER then dst else 0, body := [],
                   directOnly := (e.par 3 1).testBit 0, fmtB := (e.par 3 1).testBit 1 }
  if s.role = roleKEEPER ∧ dst ≠ 0xFFFF then
    match s.assoc (dst - 1) with
    | some a => s.setAssoc (dst - 1) { a with down := some o }
    | none => s
  else s.setQueue o.cls (s.queue o.cls ++ [o])

/-- What an accepted operation does at once: a body is queued, a keeper's scan is refused (R285), and work whose facet runs starts where its
domains are ON, since a host frame wakes none (R340). -/
def State.opAccepted (s : State) (i type : Nat) : State :=
  if type = opRADIO_TX then (if s.macMode = 0 then s.queueHostTx i else s).thenNext
  else if type = opRADIO_SCAN then
    if s.macMode = 0 ∧ s.role = roleKEEPER then s.completeAs i Sts.REFUSED else s.thenNext
  else if type = opNVM_WRITE ∨ type = opLEDGER_COMMIT ∨ isBackground type then s.startWork
  else s

end Sys2Proof.Machine
end

