-- ==== Sys2Proof/Machine/Reset.lean ====
section
/-! DEFINITION. The resets (R44, R231, R336, R353, R355, R356, R370, R372, R373), the boot that follows them (R80, R384, R389), the trial
with its revert (R383 to R385), and the rows of the device faults (R37, R40, R322, R353). -/

namespace Sys2Proof.Machine

/-- The resets (R44); a revert names its cause as UPD_STATUS.LAST does (R385). -/
inductive ResetKind where
  | power | rstn | swap | revert (last : Nat)
  deriving DecidableEq, Repr

/-! What a reset keeps -/

/-- Registers that keep their value: BKP (R356), fuse NVM (R328, R374, R387), in AON the operating hours (R141) and the
SEQ of the newest verified commit, which R371 compares again at the applying reset. -/
def keptReg (aon : Bool) (a : Nat) : Bool :=
  a / 0x10000 == 14 || (Reg.UPD_CNT 0 ≤ a && a ≤ Reg.UPD_CNT 6) || (Reg.UPD_KEY_KCV 0 ≤ a && a ≤ Reg.UPD_KEY_KCV 5) ||
    (Reg.MEM_REMAP 0 ≤ a && a ≤ Reg.MEM_REMAP 15) || (Reg.MEM_NVLIST 0 ≤ a && a ≤ Reg.MEM_NVLIST 63) ||
    a == Reg.MSH_ADDR || a == Reg.MSH_FCNT || a == Reg.TMU_TRIM || (aon && (a == Reg.TIU_HOURS || a == Reg.LDG_SEQ))

/-- Is BANK0, in RETAIN, found lost by its check at a reset (R342)? -/
def State.bank0Lost (s : State) : Bool :=
  s.dom (domMEM 0) == pwRETAIN && (s.pwr.tripped.testBit 0 || !s.canariesOk 0)

/-- Does the mesh keep its association through the reset: BANK0 and the keeper banks retained and valid (R287)? -/
def State.meshHeld (s : State) : Bool :=
  let banks := match (match s.image with
      | some i => some i
      | none => s.lastImage) with
    | some i => (List.range i.keeperBanks).map (i.keeperBank + ·)
    | none => []
  !s.bank0Lost && (0 :: banks).all fun b => s.pwr.retain.testBit b && !s.pwr.tripped.testBit b

/-- The memories at a reset: banks that are not kept and the capture SRAM read zero words; every bank then stands in RETAIN (R355, R373). -/
def State.wipeMem (s : State) (kept : Nat → Bool) : State :=
  let t := (List.range 16).foldl (fun (t : State) (b : Nat) =>
    let t := if kept b then t else t.zeroBank b
    if kept b && s.dom (domMEM b) == pwRETAIN then t else t.writeCanaries b) s
  (t.zeroCapture).writeCanaries 16

/-- The mesh after a reset (R271, R287). -/
def Msh.afterReset (m : Msh) (held : Bool) : Msh :=
  if held then
    { boot := m.boot, fcntEnd := m.fcntEnd, cellKey := m.cellKey, klong := m.klong, seen := m.seen, newest := m.newest, kevts := m.kevts,
      table := m.table.map fun p => (p.1, { p.2 with down := none }) }
  else { boot := m.boot, fcntEnd := m.fcntEnd }

/-- Everything at its reset value but what R44, R231, R251, R328, R336, R356 and R374 keep; `wipe` is the wipe of a transition (R370). -/
def State.resetBase (s : State) (aon wipe : Bool) : State :=
  let old := s
  let held := aon && !wipe && s.meshHeld
  let kept := fun (b : Nat) => aon && !wipe && s.pwr.retain.testBit b && !(b == 0 && old.bank0Lost)
  let s := (s.tearNvm.tearErase).wipeMem kept
  let s := { s with
    regs := s.regs.filter fun p => keptReg aon p.1, badRegs := s.badRegs.filter (keptReg aon),
    hif := {}, memu := {}, afe := {}, tiu := {}, ech := {}, flw := {}, tmu := {}, rot := {}, image := none,
    pwr := { retain := if aon then old.pwr.retain else 3,
             tripped := maskOf ((List.range 16).filter fun b => kept b && old.dom (domMEM b) == pwRETAIN && old.pwr.tripped.testBit b) },
    ldg := if aon then
        { acc := old.ldg.acc, pulses := old.ldg.pulses.map fun (p : Pulse) => { res := p.res }, seqUsed := old.ldg.seqUsed, torn := s.ldg.torn,
          storeErr := old.ldg.storeErr }
      else { torn := s.ldg.torn },
    rad := { bins := if aon then old.rad.bins else ({} : Rad).bins },
    msh := old.msh.afterReset held,
    upd := { keys := old.upd.keys, trngBad := old.upd.trngBad, kekWait := old.upd.kekWait },
    lastImage := if aon then (match old.image with
      | some i => some i
      | none => old.lastImage) else none }
  let s := s.fsetAll [(F.UPD_LIFE_STATE, old.life), (F.UPD_LIFE_DEBUG, b2n (old.life != lcSEALED && old.life != lcSCRAP)),
    (F.UPD_STATUS_SLOT, old.fget F.UPD_STATUS_SLOT), (F.UPD_KEY_ST_PRESENT, old.fget F.UPD_KEY_ST_PRESENT),
    (F.MEM_RETIRE_ST_NVFREE, old.fget F.MEM_RETIRE_ST_NVFREE)]
  let s := if aon then s.fsetAll [(F.LDG_PULSE_ST_BACKLOG 0, old.fget (F.LDG_PULSE_ST_BACKLOG 0)),
      (F.LDG_PULSE_ST_BACKLOG 1, old.fget (F.LDG_PULSE_ST_BACKLOG 1))] else s
  if held then s.fset F.MSH_SHORT_SHORT (old.fget F.MSH_SHORT_SHORT) else s

/-! Lifecycle transitions (R370) -/

/-- Entry to RETURN or SCRAP: the ledger store, the ledger NVM and key slots 1 to 5 are wiped. -/
def State.wipeReturn (s : State) : State :=
  let s := ((s.ledgerZero.eraseKeys 0x300000 0x310000).setLdg fun l => { acc := l.acc }).setRegN Reg.LDG_SEQ 0
  let s := s.setUpd fun u => { u with keys := u.keys.take 1 ++ List.replicate 5 none, kekWait := false }
  let s := (List.range 5).foldl (fun (t : State) (k : Nat) => t.setRegN (Reg.UPD_KEY_KCV (k + 1)) 0) s
  s.fset F.UPD_KEY_ST_PRESENT (s.fget F.UPD_KEY_ST_PRESENT % 2)

/-- What becomes of an armed transition at an RSTN reset: was one dropped, was one applied, and the state with the new lifecycle state
and its wipes. -/
def State.applyLife (s : State) : Bool × Bool × State :=
  let dst := s.fget F.UPD_LIFE_ARMED
  if dst = 7 then (false, false, s)
  else if needsExport s.life dst && !s.exportOk then (true, false, s)
  else
    let s := s.fset F.UPD_LIFE_STATE dst
    (false, true, if dst = lcRETURN ∨ dst = lcSCRAP then s.wipeReturn else s)

/-! Boot (R80, R384, R389) -/

/-- The first component of the active slot whose digest fails; component 0 where no set stands there (R384). -/
def State.bootBad (s : State) : Option Nat :=
  if !s.hasManifest s.activeBase then some 0
  else
    let m := s.manifest s.activeBase
    (List.range 6).find? fun i => !s.digestOk s.activeBase m i

/-- The digest check of every reset and the boot load that follows it (R80, R384); in SCRAP no boot load runs (R372). -/
def State.checkBoot (s : State) : State :=
  let bad := s.bootBad
  let s := s.touch s.activeBase 512
  let s := s.when (s.hasManifest s.activeBase) fun s =>
    s.touchComps (s.manifest s.activeBase) s.activeBase (match bad with | some i => i + 1 | none => 6)
  if bad.isSome then (if s.updState = upTRIAL then s else s.fset F.UPD_STATUS_BOOT_FAIL 1)
  else if s.life = lcSCRAP then s
  else s.startBoot

/-- Report the active set: component versions, legal version and legal checksum (R389). -/
def State.reportSet (s : State) : State :=
  if !s.hasManifest s.activeBase then s
  else
    let m := s.manifest s.activeBase
    let sum := s.legalSum s.activeBase
    let s := (List.range 6).foldl (fun (t : State) (i : Nat) => t.setRegN (Reg.UPD_COMP_VER i) (mfVersion m i)) s
    let s := (List.range 8).foldl (fun (t : State) (w : Nat) => t.setRegN (Reg.UPD_LEGAL_SUM w) (leAt (bytesOf sum) (4 * w) 4)) s
    s.setRegN Reg.UPD_LEGAL_VER (leAt m 0x0C 4)

/-- Evaluations at every reset: boot count (R271), ageing (R143), rate correction (R363), coefficient checks (R173, R204). -/
def State.bootChecks (s : State) (temp : BitVec 16) : State :=
  (((s.bootFcnt.evalAgeing).recompute temp).checkCoefs).checkTmuCoefs

/-! The update through a reset (R379, R383, R385) -/

/-- The update after a reset of a kind, `old` being the state before it: abort, revert, or the start of the trial. -/
def State.updReset (s old : State) (kind : ResetKind) : State :=
  let st := old.updState
  let slot := old.fget F.UPD_STATUS_SLOT
  if kind = .swap then
    let s := s.fsetAll [(F.UPD_STATUS_SLOT, 1 - slot), (F.UPD_STATUS_STATE, upTRIAL), (F.UPD_WINDOW_SEC, old.fget F.UPD_WINDOW_SEC)]
    s.setUpd fun u => { u with trialLft := min 86400 (max 60 (old.fget F.UPD_WINDOW_SEC)) * 32768 }
  else if st = upTRIAL then
    let last := match kind with
      | .revert l => l
      | _ => 4
    let s := s.fsetAll [(F.UPD_STATUS_SLOT, 1 - slot), (F.UPD_STATUS_LAST, last)]
    (s.setRegN Reg.UPD_SELFTEST (old.regN Reg.UPD_SELFTEST)).updEvt F.UPD_EVT_REVERTED
  else if st ≠ upIDLE then s.updEvt F.UPD_EVT_ABORTED
  else s

/-! The reset -/

/-- One reset at a fresh die temperature, to the start of the boot load. -/
def State.resetOnce (s : State) (kind : ResetKind) (temp : BitVec 16) : State :=
  let aon := kind != .power
  let lf := if kind = .rstn then s.applyLife else (false, false, s)
  let lost := aon && s.bank0Lost
  let t := lf.2.2.resetBase aon lf.2.1
  let t := if !aon || kind = .rstn then t else t.fset F.UPD_LIFE_ARMED (s.fget F.UPD_LIFE_ARMED)
  let t := if lf.1 then (t.fsetAll [(F.UPD_LIFE_REQ_ST, 3), (F.UPD_LIFE_REASON, 6)]).updEvt F.UPD_EVT_LIFE_DROPPED else t
  let t := if lf.2.1 && t.life == lcPROVISION then t.drawKek else t
  let t := t.updReset s kind
  let t := ((t.bootLedger aon).bootChecks temp).reportSet
  let t := if lost then
      (((t.fset ⟨Reg.PWR_RETLOST, 0, 1⟩ 1).raise F.SYS_IRQ_RET_LOST).raiseFog fogRET_LOST (leBytes 4 1))
    else t
  let t := t.checkBoot
  if lost then t.bankLost else t

/-- A self-test i of the trial fails: its bit is set and the set reverts (R384, R385). -/
def State.trialFails (s : State) (i : Nat) (temp : BitVec 16) : State :=
  (s.fsetBit F.UPD_SELFTEST_FAIL i).resetOnce (.revert 3) temp

/-- A reset; a component of a set on trial that fails its digest check reverts it at once (R384). -/
def State.resetDevice (s : State) (kind : ResetKind) (temp : BitVec 16) : State :=
  let t := s.resetOnce kind temp
  if t.updState = upTRIAL then
    match t.bootBad with
    | some i => t.trialFails i temp
    | none => t
  else t

def execRstnReset (temp : BitVec 16) (s : State) : Host.Outcome State Fault Refusal := s.run fun s => s.resetDevice .rstn temp

/-- AON gets power: the power-on reset (R353). -/
def execPowerOn (temp : BitVec 16) (s : State) : Host.Outcome State Fault Refusal :=
  .next (({ s with pwr := { s.pwr with aonOff := false } }).resetDevice .power temp)

/-- The swap reset, due once the mark after ACTIVATE has passed (R383). -/
def execSwapReset (temp : BitVec 16) (s : State) : Host.Outcome State Fault Refusal :=
  s.run fun s => if s.upd.swapDue && s.updState == upVERIFIED then s.resetDevice .swap temp else s

/-- VAON falls below its threshold: a page being programmed or erased is cut short, and nothing but BKP works until power-on (R353). -/
def execAonPowerLoss (s : State) : Host.Outcome State Fault Refusal :=
  s.run fun s => (s.tearNvm.tearErase).setPwr fun p => { p with aonOff := true }

/-- The outcome of a self-test where the device's own state gives it: LENS by the first mark, MAC without a radio, STRUCT by the boot load,
COEF by its layout (R384); none while it has not ended. -/
def State.selfTestResult (s : State) (i : Nat) (pass : Bool) : Option Bool :=
  if i = 1 then (if s.regN Reg.ROT_NUM = 0 then none else some pass)
  else if i = 3 ∧ s.hasRadio = false then some true
  else if i = 4 then
    (if s.fget F.STI_STATUS_LOAD = 1 then none else some (s.fget F.STI_STATUS_ERROR == 0 && (s.fbit F.STI_STATUS_ACTIVE || s.fget F.STI_STATUS_LOAD != 0)))
  else if i = 5 then some (coefLayout (s.component s.activeBase (s.manifest s.activeBase) 5))
  else some pass

/-- A self-test of the trial ends (R384, R385). -/
def State.selfTest (s : State) (i : Nat) (pass : Bool) (temp : BitVec 16) : State :=
  if s.updState ≠ upTRIAL then s
  else
    let r := s.selfTestResult i pass
    let s := if i = 5 then s.touchCoef 0 1024 else s
    match r with
    | none => s
    | some true => s.fsetBit F.UPD_SELFTEST_PASS i
    | some false => s.trialFails i temp

def execSelfTest (test : Fin 6) (pass : Bool) (temp : BitVec 16) (s : State) : Host.Outcome State Fault Refusal :=
  s.run fun s => s.selfTest test pass temp

/-- The trial window expires (R385). -/
def execTrialWindowExpiry (temp : BitVec 16) (s : State) : Host.Outcome State Fault Refusal :=
  s.run fun s => if s.updState = upTRIAL then s.resetDevice (.revert 2) temp else s

/-! Device faults (R37, R40, R322, R353) -/

/-- A fault with this cause and the mask of further causes of its cycle. Where the mask has SLINK_FAIL and a transaction is there for
it, the domain-transition timeout fires in that cycle (R40, R350). -/
def State.faultCycle (s : State) (cause : Nat) (also : BitVec 5) : State :=
  if also.getLsbD (fcSLINK_FAIL - 1) && s.transitionDue then s.transitionTimeout (also.toNat.lor (2 ^ (cause - 1)))
  else s.deviceFault cause also.toNat

def execWdog (also : BitVec 5) (s : State) : Host.Outcome State Fault Refusal := s.run fun s => s.faultCycle fcWDOG also

/-- The Watch core consumes poison (R322). -/
def execPoisonExec (also : BitVec 5) (s : State) : Host.Outcome State Fault Refusal :=
  s.run fun s => s.faultCycle fcPOISON_EXEC also

def execClkLoss (also : BitVec 5) (s : State) : Host.Outcome State Fault Refusal := s.run fun s => s.faultCycle fcCLK_LOSS also

def execBrownout (also : BitVec 5) (s : State) : Host.Outcome State Fault Refusal :=
  s.run fun s => s.faultCycle fcBROWNOUT also

def execRecoveryComplete (s : State) : Host.Outcome State Fault Refusal := s.run State.recover

end Sys2Proof.Machine
end

