-- ==== Sys2Proof/Machine/Hif.lean ====
section
/-! DEFINITION. The host interface (R289 to R311): request frames with their CRC and check order, responses, the duplicate window, stream
reads, operation submission and status, update blocks. -/

namespace Sys2Proof.Machine

/-! Responses (R292, R293) -/

/-- FLAGS of a response header. -/
def State.respFlags (s : State) : Nat := b2n s.hirq + 2 * b2n s.recovering

/-- A response without data, its header built in this state. -/
def State.header (s : State) (status : Nat) : Resp := { status := status, epoch := s.fget F.SYS_EPOCH_EPOCH, flags := s.respFlags }

/-- Send a response. -/
def State.respond (s : State) (r : Resp) : State := { s with hif := { s.hif with resp := some r } }

/-- Answer a request that has no data. -/
def State.answer (s : State) (status : Nat) : State := s.respond (s.header status)

/-- Index of the first 4-byte group that holds a poisoned byte; 0xFFFF when none does. -/
def firstBadGroup (l : List (Byte × Bool)) : Nat :=
  let k := (l.takeWhile fun p => !p.2).length
  if k < l.length then k / 4 else 0xFFFF

/-- Data and trailer of a response that carries data: poisoned bytes are sent as zero. -/
def Resp.withData (r : Resp) (l : List (Byte × Bool)) : Resp :=
  let f := firstBadGroup l
  { r with data := l.map fun p => if p.2 then 0 else p.1, trailer := some (if f = 0xFFFF then Sts.DONE else Sts.POISON, f) }

/-- The response's bytes after the sync byte, without the CRC (R292). -/
def Resp.bytes (r : Resp) : List Byte :=
  leBytes 1 r.status ++ leBytes 1 r.epoch ++ leBytes 1 r.aux ++ leBytes 1 r.flags ++ r.data ++
    (match r.trailer with | some t => leBytes 1 t.1 ++ [0] ++ leBytes 2 t.2 | none => [])

/-- The response as it goes out after its wait bytes: the sync byte, the bytes and the CRC-16 over them, low byte first (R292). -/
def Resp.wire (r : Resp) : List Byte := 0xA5 :: r.bytes ++ leBytes 2 (crc16 r.bytes)

/-- Zero data whose trailer repeats the status. -/
def Resp.withZeros (r : Resp) (n : Nat) : Resp := { r with data := List.replicate n 0, trailer := some (r.status, 0xFFFF) }

/-! Requests (R290, R294) -/

abbrev opcREAD : Nat := 1
abbrev opcWRITE : Nat := 2
abbrev opcOP_SUBMIT : Nat := 3
abbrev opcOP_STATUS : Nat := 4
abbrev opcSTREAM_READ : Nat := 5
abbrev opcUPDATE_BLOCK : Nat := 6

/-- A request frame as received (R290). -/
structure Frame where
  opcode : Nat
  tag : Nat
  addr : Nat
  len : Nat
  payload : List Byte := []
  crc : Nat
  deriving DecidableEq, Repr

/-- The bytes the CRC covers. -/
def Frame.bytes (f : Frame) : List Byte :=
  leBytes 1 f.opcode ++ leBytes 1 f.tag ++ leBytes 3 f.addr ++ leBytes 2 f.len ++ f.payload

/-- Does the CRC pass? -/
def Frame.crcOk (f : Frame) : Bool := crc16 f.bytes == f.crc

/-- Bytes of data the response of an opcode carries; none for an opcode without data. -/
def Frame.dataLen (f : Frame) : Option Nat :=
  if f.opcode = opcREAD ∨ f.opcode = opcSTREAM_READ then some f.len else if f.opcode = opcOP_STATUS then some 20 else none

/-- A response other than DONE to a frame: zero data and a trailer where the opcode has data. -/
def State.refuseFrame (s : State) (f : Frame) (status : Nat) : Resp :=
  match f.dataLen with
  | some n => (s.header status).withZeros n
  | none => s.header status

/-- Is a frame one of those the duplicate window holds (R299)? A frame of an unknown OPCODE is (R294, check 3). -/
def Frame.cached (f : Frame) : Bool :=
  f.tag != 0 && f.opcode != opcREAD && f.opcode != opcOP_STATUS && (f.opcode != opcSTREAM_READ || f.addr.testBit 4)

/-- Enter a frame and its status in the window where it belongs there. -/
def State.cacheFrame (s : State) (f : Frame) (status : Nat) : State :=
  if f.cached then s.enterWin { tag := f.tag, opcode := f.opcode, status := status } else s

/-- The cached status of a repeat (R300): none where the frame is new. -/
def State.repeatOf (s : State) (f : Frame) : Option Nat :=
  if f.tag = 0 then none
  else
    match s.hif.win.find? fun w => w.tag == f.tag with
    | some w => some w.status
    | none =>
      if f.opcode = opcOP_SUBMIT then
        (s.hif.ops.find? fun e => e.st != .free && e.tag == f.tag).map (·.status)
      else none

/-- Check 3 (R294, R301, R304): is the frame's form refused? The reserved bits of the OP_SUBMIT header are ignored (R21). -/
def Frame.formBad (f : Frame) : Bool :=
  if f.opcode = opcREAD then f.len == 0
  else if f.opcode = opcWRITE then f.len == 0 || f.len != f.payload.length
  else if f.opcode = opcOP_SUBMIT then
    f.addr != 0 || f.tag == 0 || f.len != f.payload.length || f.len < 8 || paramLen (leAt f.payload 0 1) != some (f.len - 8)
  else if f.opcode = opcOP_STATUS then f.len != 0 || 0x400 ≤ f.addr
  else if f.opcode = opcSTREAM_READ then f.len == 0 || 1556 < f.len || 0x20 ≤ f.addr
  else if f.opcode = opcUPDATE_BLOCK then f.len != 256 || f.payload.length != 256
  else true

/-! Stream reads (R297, R298) -/

/-- Clean bytes. -/
def unmarked (l : List Byte) : List (Byte × Bool) := l.map fun b => (b, false)

/-- The stream of slot k, truncated or filled to n bytes; the capture SRAM is woken for it. -/
def State.stream (s : State) (k n : Nat) : List (Byte × Bool) × State :=
  let s := s.touchBanks (slotAddr k) 0x600
  let desc := [Reg.AFE_SLOT_CTL k, Reg.AFE_SLOT_ROT k, Reg.AFE_SLOT_WIN k, Reg.AFE_SLOT_RXA k, Reg.AFE_SLOT_RXB k].flatMap fun a =>
    leBytes 4 (s.regN a)
  let a1 := s.readMarked (slotAddr k) (4 * s.fget (F.AFE_SLOT_RXA_NST k)) .host
  let b1 := a1.2.readMarked (slotAddr k + 0x300) (4 * s.fget (F.AFE_SLOT_RXB_NST k)) .host
  let a2 := b1.2.readMarked (slotAddr k + 0x100) 512 .host
  let b2 := a2.2.readMarked (slotAddr k + 0x400) 512 .host
  let l := unmarked desc ++ a1.1 ++ b1.1 ++ a2.1 ++ b2.1
  ((l ++ unmarked (List.replicate (n - l.length) 0)).take n, b2.2)

/-- Serve a STREAM_READ that is no repeat. -/
def State.serveStream (s : State) (f : Frame) : State :=
  let k := f.addr % 16
  let rel := f.addr.testBit 4
  let d := s.stream k f.len
  let status :=
    if !rel then Sts.DONE else if !s.hostEcho then Sts.LOCKED else if d.2.slotState k = slotFULL then Sts.DONE else Sts.REFUSED
  let t := if rel && status == Sts.DONE then d.2.releaseSlot k else d.2
  (t.cacheFrame f status).respond ((s.header status).withData d.1)

/-! Operations (R301 to R308) -/

/-- Serve an OP_SUBMIT that passed check 3: epoch, recovery, the operation's checks, a full table, acceptance. -/
def State.serveSubmit (s : State) (f : Frame) : State :=
  let type := leAt f.payload 0 1
  let flags := leAt f.payload 1 1
  let p := f.payload.drop 8
  let refuse := fun (st : Nat) => (s.cacheFrame f st).answer st
  if flags.testBit 1 && leAt f.payload 2 1 != s.fget F.SYS_EPOCH_EPOCH then refuse Sts.STALE_EPOCH
  else if s.recovering then refuse Sts.DISCARDED
  else
    match s.checkOp type p with
    | some st => refuse st
    | none =>
      match s.freeOp with
      | none => (s.addSat F.HIF_OPFULL_CNT_COUNT 1).answer Sts.OP_FULL
      | some i =>
        let s := s.enterOp i f.tag type flags (leAt f.payload 4 4) (s.budgetOf type p) p
        ((s.cacheFrame f Sts.ACCEPTED).answer Sts.ACCEPTED).opAccepted i type

/-- The entry an OP_STATUS names: the COMPLETE entry that completed first, or the entry with the tag (R308). -/
def State.lookupOp (s : State) (addr : Nat) : Option Nat :=
  if addr.testBit 8 then
    ((List.range 16).filter fun i => (s.opE i).st == .complete).mergeSort (fun i j => (s.opE i).order ≤ (s.opE j).order) |>.head?
  else (List.range 16).find? fun i => (s.opE i).st != .free && (s.opE i).tag == addr % 256

/-- The record an OP_STATUS returns. -/
def State.statusRecord (s : State) (addr : Nat) : List Byte :=
  match s.lookupOp addr with
  | some i => (s.opE i).record (if (s.opE i).st = .complete then 2 else 1)
  | none =>
    let w := if addr.testBit 8 then none else (s.hif.win.find? fun w => w.tag == addr % 256).bind (·.record)
    w.getD (List.replicate 20 0)

/-- RELEASE frees a COMPLETE entry. -/
def State.releaseOp (s : State) (addr : Nat) : State :=
  match s.lookupOp addr with
  | some i => if addr.testBit 9 && (s.opE i).st == .complete then s.setOp i {} else s
  | none => s

/-- Serve an OP_STATUS. -/
def State.serveStatus (s : State) (f : Frame) : State :=
  (s.releaseOp f.addr).respond ((s.header Sts.DONE).withData (unmarked (s.statusRecord f.addr)))

/-! READ, WRITE and UPDATE_BLOCK (R295, R296) -/

/-- Serve a READ of n bytes: the header is built before the data is fetched. -/
def State.serveRead (s : State) (a n : Nat) : State :=
  let st := s.readStatus a n
  if st = Sts.DONE then
    let d := s.readFrame a n
    d.2.respond ((s.header st).withData d.1)
  else s.respond ((s.header st).withZeros n)

/-- Serve a WRITE. -/
def State.serveWrite (s : State) (f : Frame) : State :=
  let r := s.writeFrame f.addr f.payload
  (r.2.cacheFrame f r.1).answer r.1

/-- Serve an UPDATE_BLOCK (R296, R381). -/
def State.serveBlock (s : State) (f : Frame) : State :=
  let r := if f.addr % 256 ≠ 0 ∨ 0x80000 ≤ f.addr then (Sts.BAD_ADDR, s) else s.blockArrives (f.addr / 256) f.payload
  (r.2.cacheFrame f r.1).answer r.1

/-! A whole request -/

/-- Does a boot without a valid set (R384) not serve this opcode? -/
def State.bootLocked (s : State) (f : Frame) : Bool :=
  s.fbit F.UPD_STATUS_BOOT_FAIL && (f.opcode == opcOP_SUBMIT || f.opcode == opcSTREAM_READ)

/-- A repeat is answered with the cached status and not executed; a STREAM_READ with RELEASE carries the slot's present content
(R298, R300). -/
def State.serveRepeat (s : State) (f : Frame) (cached : Nat) : State :=
  let s := s.addSat F.HIF_DUP_CNT_DUP 1
  if f.opcode = opcSTREAM_READ ∧ f.addr.testBit 4 ∧ f.formBad = false then
    let d := s.stream (f.addr % 16) f.len
    d.2.respond (({ s.header Sts.DUPLICATE with aux := cached }).withData d.1)
  else s.respond { s.refuseFrame f Sts.DUPLICATE with aux := cached }

/-- A complete request (R291): the checks of R294 in order, then the access. -/
def State.request (s : State) (f : Frame) : State :=
  if !f.crcOk then (s.addSat F.HIF_CNT_BAD_CRC 1).answer Sts.BAD_CRC
  else
    match s.repeatOf f with
    | some st => s.serveRepeat f st
    | none =>
      if f.formBad then (s.cacheFrame f Sts.REFUSED).respond (s.refuseFrame f Sts.REFUSED)
      else if s.bootLocked f then (s.cacheFrame f Sts.LOCKED).respond (s.refuseFrame f Sts.LOCKED)
      else if f.opcode = opcREAD then s.serveRead f.addr f.len
      else if f.opcode = opcWRITE then s.serveWrite f
      else if f.opcode = opcOP_SUBMIT then s.serveSubmit f
      else if f.opcode = opcOP_STATUS then s.serveStatus f
      else if f.opcode = opcSTREAM_READ then s.serveStream f
      else s.serveBlock f

/-- An OPCODE that names none of the six, where a request carries one. -/
def unknownOpcode (r : OpReq) : Option Nat :=
  (r.opcode.map (·.toNat)).filter fun o => o == 0 || opcUPDATE_BLOCK < o

/-- The frame of an OP_SUBMIT: header and parameter block. A TYPE of no operation may stand in place of the row's (R304), and an unknown
OPCODE in place of OP_SUBMIT's, with no payload then (R290, R294). -/
def submitFrame (type : Nat) (r : OpReq) : Frame :=
  let p := leBytes 1 (((r.type.map (·.toNat)).filter fun t => (paramLen t).isNone).getD type) ++ [r.flags, r.epoch, r.rsvd] ++ leBytes 4 r.deadline.toNat ++ r.params
  match unknownOpcode r with
  | some o => { opcode := o, tag := r.tag.toNat, addr := r.addr.toNat, len := p.length, crc := r.crc.toNat }
  | none => { opcode := opcOP_SUBMIT, tag := r.tag.toNat, addr := r.addr.toNat, len := p.length, payload := p, crc := r.crc.toNat }

def execRead (tag : Byte) (addr : BitVec 24) (len : BitVec 16) (crc : BitVec 16) (s : State) : Host.Outcome State Fault Refusal :=
  s.run fun s => s.request { opcode := opcREAD, tag := tag.toNat, addr := addr.toNat, len := len.toNat, crc := crc.toNat }

def execWrite (tag : Byte) (addr : BitVec 24) (data : List Byte) (crc : BitVec 16) (s : State) : Host.Outcome State Fault Refusal :=
  s.run fun s => s.request
    { opcode := opcWRITE, tag := tag.toNat, addr := addr.toNat, len := data.length, payload := data, crc := crc.toNat }

def execOpStatus (tag : Byte) (addr : BitVec 24) (len : BitVec 16) (crc : BitVec 16) (s : State) : Host.Outcome State Fault Refusal :=
  s.run fun s => s.request { opcode := opcOP_STATUS, tag := tag.toNat, addr := addr.toNat, len := len.toNat, crc := crc.toNat }

def execStreamRead (tag : Byte) (addr : BitVec 24) (len : BitVec 16) (crc : BitVec 16) (s : State) : Host.Outcome State Fault Refusal :=
  s.run fun s => s.request { opcode := opcSTREAM_READ, tag := tag.toNat, addr := addr.toNat, len := len.toNat, crc := crc.toNat }

def execUpdateBlock (tag : Byte) (addr : BitVec 24) (data : List Byte) (crc : BitVec 16) (s : State) :
    Host.Outcome State Fault Refusal :=
  s.run fun s => s.request
    { opcode := opcUPDATE_BLOCK, tag := tag.toNat, addr := addr.toNat, len := data.length, payload := data, crc := crc.toNat }

/-- HCSN rises before the request is complete (R291): no response follows. -/
def execRequestAbort (s : State) : Host.Outcome State Fault Refusal :=
  s.run fun s =>
    let s := s.addSat F.HIF_CNT_ABORT 1
    { s with hif := { s.hif with resp := none } }

def execShot (r : OpReq) (s : State) : Host.Outcome State Fault Refusal := s.run fun s => s.request (submitFrame opSHOT r)
def execConvert (r : OpReq) (s : State) : Host.Outcome State Fault Refusal := s.run fun s => s.request (submitFrame opCONVERT r)
def execNvmWrite (r : OpReq) (s : State) : Host.Outcome State Fault Refusal := s.run fun s => s.request (submitFrame opNVM_WRITE r)
def execScrub (r : OpReq) (s : State) : Host.Outcome State Fault Refusal := s.run fun s => s.request (submitFrame opSCRUB r)
def execRadioTx (r : OpReq) (s : State) : Host.Outcome State Fault Refusal := s.run fun s => s.request (submitFrame opRADIO_TX r)
def execRadioScan (r : OpReq) (s : State) : Host.Outcome State Fault Refusal := s.run fun s => s.request (submitFrame opRADIO_SCAN r)
def execLedgerCommit (r : OpReq) (s : State) : Host.Outcome State Fault Refusal :=
  s.run fun s => s.request (submitFrame opLEDGER_COMMIT r)
def execSlinkSet (r : OpReq) (s : State) : Host.Outcome State Fault Refusal := s.run fun s => s.request (submitFrame opSLINK_SET r)
def execStiLoad (r : OpReq) (s : State) : Host.Outcome State Fault Refusal := s.run fun s => s.request (submitFrame opSTI_LOAD r)

end Sys2Proof.Machine
end

