-- ==== Sys2Proof/Machine/HostRegs.lean ====
section
/-! DEFINITION. The commands that are one register access of the host: an untagged WRITE of one word, or an untagged READ of 4 bytes, that
arrives with a passing CRC (R291, R295). -/

namespace Sys2Proof.Machine

/-- An untagged WRITE of one word. -/
def State.hostWord (s : State) (a v : Nat) : State :=
  let r := s.writeFrame a (leBytes 4 v)
  r.2.answer r.1

/-- An untagged READ of one register. -/
def State.hostRead (s : State) (a : Nat) : State := s.serveRead a 4

def execRegisterWrite (addr : BitVec 24) (v : Word) (s : State) : Host.Outcome State Fault Refusal :=
  s.run fun s => s.hostWord addr.toNat v.toNat

/-- A write by the active or the pending offset (R92). -/
def execPendingWrite (addr : BitVec 24) (v : Word) (s : State) : Host.Outcome State Fault Refusal :=
  s.run fun s => s.hostWord addr.toNat v.toNat

def execCommitReq (b : CommitBlock) (s : State) : Host.Outcome State Fault Refusal := s.run fun s => s.hostWord (commitReg b) 1
def execCommitDiscard (b : CommitBlock) (s : State) : Host.Outcome State Fault Refusal := s.run fun s => s.hostWord (commitReg b) 2

/-! Ledger, flow and thermal snapshots (R180, R203, R217) -/

def execAccumulatorSnapshot (a : Fin 17) (s : State) : Host.Outcome State Fault Refusal := s.run fun s => s.hostRead (Reg.LDG_ACC_W0 a)
def execFlwStatusSnapshot (s : State) : Host.Outcome State Fault Refusal := s.run fun s => s.hostRead Reg.FLW_STATUS
def execTmuStatusSnapshot (s : State) : Host.Outcome State Fault Refusal := s.run fun s => s.hostRead Reg.TMU_STATUS

/-! The time-interval unit (R132, R136, R138, R140) -/

def execEventChannelArm (e : Fin 6) (s : State) : Host.Outcome State Fault Refusal := s.run fun s => s.hostWord (Reg.TIU_EV_ARM e) 1
def execEventChannelDisarm (e : Fin 6) (s : State) : Host.Outcome State Fault Refusal := s.run fun s => s.hostWord (Reg.TIU_EV_ARM e) 2
def execResultQueueRead (e : Fin 6) (s : State) : Host.Outcome State Fault Refusal := s.run fun s => s.hostRead (Reg.TIU_EV_VAL e)

/-- A word of ST_CFG with GO and without STOP. -/
def execStatisticsGo (c : Fin 22) (v : Word) (s : State) : Host.Outcome State Fault Refusal :=
  s.run fun s => s.hostWord (Reg.TIU_ST_CFG c) (setBit (clrBit v.toNat 3) 2)

/-- A word of ST_CFG with STOP. -/
def execStatisticsStop (c : Fin 22) (v : Word) (s : State) : Host.Outcome State Fault Refusal :=
  s.run fun s => s.hostWord (Reg.TIU_ST_CFG c) (setBit v.toNat 3)

def execStatisticsSnapshot (c : Fin 22) (s : State) : Host.Outcome State Fault Refusal := s.run fun s => s.hostRead (Reg.TIU_ST_COUNT c)

/-! Slots, echo and flow (R121, R159, R160, R169, R181, R182) -/

def execSlotRelease (mask : BitVec 16) (s : State) : Host.Outcome State Fault Refusal :=
  s.run fun s => s.hostWord Reg.AFE_SLOT_REL mask.toNat
def execReseed (mask : Byte) (s : State) : Host.Outcome State Fault Refusal := s.run fun s => s.hostWord Reg.ECH_CTL mask.toNat
def execAmpReset (mask : Byte) (s : State) : Host.Outcome State Fault Refusal :=
  s.run fun s => s.hostWord Reg.ECH_CTL (mask.toNat * 2 ^ 8)
def execHostEmpty (s : State) : Host.Outcome State Fault Refusal := s.run fun s => s.hostWord Reg.ECH_HOSTEVT 1
def execHostRefill (s : State) : Host.Outcome State Fault Refusal := s.run fun s => s.hostWord Reg.ECH_HOSTEVT 2
def execUnfail (mask : Byte) (s : State) : Host.Outcome State Fault Refusal := s.run fun s => s.hostWord Reg.FLW_CTL mask.toNat
def execRatioReset (mask : Byte) (s : State) : Host.Outcome State Fault Refusal :=
  s.run fun s => s.hostWord Reg.FLW_CTL (mask.toNat * 2 ^ 8)

/-! The ledger (R219, R230) -/

def execClearLedger (v : Word) (s : State) : Host.Outcome State Fault Refusal := s.run fun s => s.hostWord Reg.LDG_CTL v.toNat
def execHostincGo (s : State) : Host.Outcome State Fault Refusal := s.run fun s => s.hostWord Reg.LDG_HOSTINC_GO 1

/-! Radio and mesh (R255, R275, R276, R279, R280, R288) -/

def execRxrel (mask : BitVec 4) (s : State) : Host.Outcome State Fault Refusal := s.run fun s => s.hostWord Reg.RAD_RXREL mask.toNat
def execJoin (s : State) : Host.Outcome State Fault Refusal := s.run fun s => s.hostWord Reg.MSH_CTL 1
def execLeave (s : State) : Host.Outcome State Fault Refusal := s.run fun s => s.hostWord Reg.MSH_CTL 2
def execReport (s : State) : Host.Outcome State Fault Refusal := s.run fun s => s.hostWord Reg.MSH_CTL 4
def execFogGo (s : State) : Host.Outcome State Fault Refusal := s.run fun s => s.hostWord Reg.MSH_FOG_GO 1
def execProvisionWrite (s : State) : Host.Outcome State Fault Refusal := s.run fun s => s.hostWord Reg.MSH_PROV_CTL 1
def execProvisionDelete (s : State) : Host.Outcome State Fault Refusal := s.run fun s => s.hostWord Reg.MSH_PROV_CTL 2
def execProvisionLoad (s : State) : Host.Outcome State Fault Refusal := s.run fun s => s.hostWord Reg.MSH_PROV_CTL 3
def execKeeperEventRead (s : State) : Host.Outcome State Fault Refusal := s.run fun s => s.hostRead Reg.MSH_KEVT

/-! Memory (R317, R324, R327, R329, R330) -/

/-- MEM_RETIRE with GO; PAGE as it stands. -/
def execRowRetire (bank : Fin 16) (row : Fin 32) (s : State) : Host.Outcome State Fault Refusal :=
  s.run fun s => s.hostWord Reg.MEM_RETIRE (bank + row * 2 ^ 4 + 2 ^ 16 + s.fget F.MEM_RETIRE_PAGE * 2 ^ 23)

/-- MEM_RETIRE with NVGO; BANK and ROW as they stand. -/
def execPageRetire (page : Fin 512) (s : State) : Host.Outcome State Fault Refusal :=
  s.run fun s => s.hostWord Reg.MEM_RETIRE
    (s.fget F.MEM_RETIRE_BANK + s.fget F.MEM_RETIRE_ROW * 2 ^ 4 + 2 ^ 17 + page * 2 ^ 23)

def execFlipArm (region : Fin 32) (s : State) : Host.Outcome State Fault Refusal :=
  s.run fun s => s.hostWord Reg.MEM_FLIP_CTL (region + 2 ^ 5)
def execFlipDisarm (region : Fin 32) (s : State) : Host.Outcome State Fault Refusal :=
  s.run fun s => s.hostWord Reg.MEM_FLIP_CTL (region + 2 ^ 6)
def execLogSnapshot (s : State) : Host.Outcome State Fault Refusal := s.run fun s => s.hostRead Reg.MEM_LOG_CTL
def execLogClear (s : State) : Host.Outcome State Fault Refusal := s.run fun s => s.hostWord Reg.MEM_LOG_CTL (2 ^ 16)
def execPolicyWrite (v : Word) (s : State) : Host.Outcome State Fault Refusal := s.run fun s => s.hostWord Reg.MEM_POLICY v.toNat

/-! Power (R344, R345) -/

def execHold (v : Word) (s : State) : Host.Outcome State Fault Refusal := s.run fun s => s.hostWord Reg.PWR_HOLD v.toNat
def execSleepSet (v : Word) (s : State) : Host.Outcome State Fault Refusal := s.run fun s => s.hostWord Reg.PWR_SLEEPSET v.toNat

/-! The clock (R359, R360, R364) -/

/-- A write of a time register, 0 RTC_SUBSEC to 8 RTC_YEAR; RTC_SUBSEC is read-only. -/
def execRtcFieldWrite (f : Fin 9) (v : Word) (s : State) : Host.Outcome State Fault Refusal :=
  s.run fun s => s.hostWord (Reg.RTC_SUBSEC + 4 * f) v.toNat
def execRtcCommit (s : State) : Host.Outcome State Fault Refusal := s.run fun s => s.hostWord Reg.RTC_COMMIT 1
def execRtcDiscard (s : State) : Host.Outcome State Fault Refusal := s.run fun s => s.hostWord Reg.RTC_COMMIT 2
def execRtcUnfreeze (s : State) : Host.Outcome State Fault Refusal := s.run fun s => s.hostWord Reg.RTC_UNFREEZE 1
def execTimeRead (f : Fin 9) (s : State) : Host.Outcome State Fault Refusal := s.run fun s => s.hostRead (Reg.RTC_SUBSEC + 4 * f)
def execTrimWrite (v : Word) (s : State) : Host.Outcome State Fault Refusal := s.run fun s => s.hostWord Reg.RTC_TRIM v.toNat

/-! Update, lifecycle and keys (R369, R375, R379, R386, R390) -/

def execUpdBegin (s : State) : Host.Outcome State Fault Refusal := s.run fun s => s.hostWord Reg.UPD_CTL 1
def execUpdVerify (s : State) : Host.Outcome State Fault Refusal := s.run fun s => s.hostWord Reg.UPD_CTL 2
def execUpdActivate (s : State) : Host.Outcome State Fault Refusal := s.run fun s => s.hostWord Reg.UPD_CTL 4
def execUpdAbort (s : State) : Host.Outcome State Fault Refusal := s.run fun s => s.hostWord Reg.UPD_CTL 8
def execUpdConfirm (s : State) : Host.Outcome State Fault Refusal := s.run fun s => s.hostWord Reg.UPD_CONFIRM 1
def execTransitionRequest (v : Word) (s : State) : Host.Outcome State Fault Refusal :=
  s.run fun s => s.hostWord Reg.UPD_LIFE_REQ v.toNat
def execTransitionCancel (v : Word) (s : State) : Host.Outcome State Fault Refusal :=
  s.run fun s => s.hostWord Reg.UPD_LIFE_REQ v.toNat
def execKeyWrite (s : State) : Host.Outcome State Fault Refusal := s.run fun s => s.hostWord Reg.UPD_KEY_CTL 1
def execTrngRead (s : State) : Host.Outcome State Fault Refusal := s.run fun s => s.hostRead Reg.UPD_TRNG

end Sys2Proof.Machine
end

