-- ==== Sys2Proof/Machine/Dispatch.lean ====
section
/-! DEFINITION. The meaning of a command: one arm per constructor of Instr. -/

namespace Sys2Proof.Machine

/-- The effect of a command on everything but the queue. -/
def exec (i : Instr) (s : State) : Host.Outcome State Fault Refusal :=
  match i with
  | .read tag addr len crc => Sys2Proof.Machine.execRead tag addr len crc s
  | .write tag addr data crc => Sys2Proof.Machine.execWrite tag addr data crc s
  | .opStatus tag addr len crc => Sys2Proof.Machine.execOpStatus tag addr len crc s
  | .streamRead tag addr len crc => Sys2Proof.Machine.execStreamRead tag addr len crc s
  | .updateBlock tag addr data crc => Sys2Proof.Machine.execUpdateBlock tag addr data crc s
  | .requestAbort => Sys2Proof.Machine.execRequestAbort s
  | .shot r => Sys2Proof.Machine.execShot r s
  | .convert r => Sys2Proof.Machine.execConvert r s
  | .nvmWrite r => Sys2Proof.Machine.execNvmWrite r s
  | .scrub r => Sys2Proof.Machine.execScrub r s
  | .radioTx r => Sys2Proof.Machine.execRadioTx r s
  | .radioScan r => Sys2Proof.Machine.execRadioScan r s
  | .ledgerCommit r => Sys2Proof.Machine.execLedgerCommit r s
  | .slinkSet r => Sys2Proof.Machine.execSlinkSet r s
  | .stiLoad r => Sys2Proof.Machine.execStiLoad r s
  | .operationDeadline n => Sys2Proof.Machine.execOperationDeadline n s
  | .registerWrite addr v => Sys2Proof.Machine.execRegisterWrite addr v s
  | .pendingWrite addr v => Sys2Proof.Machine.execPendingWrite addr v s
  | .commitReq b => Sys2Proof.Machine.execCommitReq b s
  | .commitDiscard b => Sys2Proof.Machine.execCommitDiscard b s
  | .accumulatorSnapshot a => Sys2Proof.Machine.execAccumulatorSnapshot a s
  | .flwStatusSnapshot => Sys2Proof.Machine.execFlwStatusSnapshot s
  | .tmuStatusSnapshot => Sys2Proof.Machine.execTmuStatusSnapshot s
  | .eventChannelArm e => Sys2Proof.Machine.execEventChannelArm e s
  | .eventChannelDisarm e => Sys2Proof.Machine.execEventChannelDisarm e s
  | .resultQueueRead e => Sys2Proof.Machine.execResultQueueRead e s
  | .statisticsGo c v => Sys2Proof.Machine.execStatisticsGo c v s
  | .statisticsStop c v => Sys2Proof.Machine.execStatisticsStop c v s
  | .statisticsSnapshot c => Sys2Proof.Machine.execStatisticsSnapshot c s
  | .slotRelease mask => Sys2Proof.Machine.execSlotRelease mask s
  | .reseed mask => Sys2Proof.Machine.execReseed mask s
  | .ampReset mask => Sys2Proof.Machine.execAmpReset mask s
  | .hostEmpty => Sys2Proof.Machine.execHostEmpty s
  | .hostRefill => Sys2Proof.Machine.execHostRefill s
  | .unfail mask => Sys2Proof.Machine.execUnfail mask s
  | .ratioReset mask => Sys2Proof.Machine.execRatioReset mask s
  | .clearLedger v => Sys2Proof.Machine.execClearLedger v s
  | .hostincGo => Sys2Proof.Machine.execHostincGo s
  | .rxrel mask => Sys2Proof.Machine.execRxrel mask s
  | .join => Sys2Proof.Machine.execJoin s
  | .leave => Sys2Proof.Machine.execLeave s
  | .report => Sys2Proof.Machine.execReport s
  | .fogGo => Sys2Proof.Machine.execFogGo s
  | .provisionWrite => Sys2Proof.Machine.execProvisionWrite s
  | .provisionDelete => Sys2Proof.Machine.execProvisionDelete s
  | .provisionLoad => Sys2Proof.Machine.execProvisionLoad s
  | .keeperEventRead => Sys2Proof.Machine.execKeeperEventRead s
  | .rowRetire bank row => Sys2Proof.Machine.execRowRetire bank row s
  | .pageRetire page => Sys2Proof.Machine.execPageRetire page s
  | .flipArm region => Sys2Proof.Machine.execFlipArm region s
  | .flipDisarm region => Sys2Proof.Machine.execFlipDisarm region s
  | .logSnapshot => Sys2Proof.Machine.execLogSnapshot s
  | .logClear => Sys2Proof.Machine.execLogClear s
  | .policyWrite v => Sys2Proof.Machine.execPolicyWrite v s
  | .hold v => Sys2Proof.Machine.execHold v s
  | .sleepSet v => Sys2Proof.Machine.execSleepSet v s
  | .sleepSetStart stop => Sys2Proof.Machine.execSleepSetStart stop s
  | .rtcFieldWrite f v => Sys2Proof.Machine.execRtcFieldWrite f v s
  | .rtcCommit => Sys2Proof.Machine.execRtcCommit s
  | .rtcDiscard => Sys2Proof.Machine.execRtcDiscard s
  | .rtcUnfreeze => Sys2Proof.Machine.execRtcUnfreeze s
  | .timeRead f => Sys2Proof.Machine.execTimeRead f s
  | .trimWrite v => Sys2Proof.Machine.execTrimWrite v s
  | .updBegin => Sys2Proof.Machine.execUpdBegin s
  | .updVerify => Sys2Proof.Machine.execUpdVerify s
  | .updActivate => Sys2Proof.Machine.execUpdActivate s
  | .updAbort => Sys2Proof.Machine.execUpdAbort s
  | .updConfirm => Sys2Proof.Machine.execUpdConfirm s
  | .transitionRequest v => Sys2Proof.Machine.execTransitionRequest v s
  | .transitionCancel v => Sys2Proof.Machine.execTransitionCancel v s
  | .keyWrite => Sys2Proof.Machine.execKeyWrite s
  | .trngRead => Sys2Proof.Machine.execTrngRead s
  | .trigEdge t => Sys2Proof.Machine.execTrigEdge t s
  | .rstnReset temp => Sys2Proof.Machine.execRstnReset temp s
  | .powerOn temp => Sys2Proof.Machine.execPowerOn temp s
  | .wdog also => Sys2Proof.Machine.execWdog also s
  | .poisonExec also => Sys2Proof.Machine.execPoisonExec also s
  | .clkLoss also => Sys2Proof.Machine.execClkLoss also s
  | .brownout also => Sys2Proof.Machine.execBrownout also s
  | .recoveryComplete => Sys2Proof.Machine.execRecoveryComplete s
  | .bkpPowerLoss => Sys2Proof.Machine.execBkpPowerLoss s
  | .powerFailWarning t => Sys2Proof.Machine.execPowerFailWarning t s
  | .supplyRecovered => Sys2Proof.Machine.execSupplyRecovered s
  | .retentionMonitorTrip b => Sys2Proof.Machine.execRetentionMonitorTrip b s
  | .lockLoss => Sys2Proof.Machine.execLockLoss s
  | .relock => Sys2Proof.Machine.execRelock s
  | .eventOrigin e => Sys2Proof.Machine.execEventOrigin e s
  | .eventEdge e stamp rising => Sys2Proof.Machine.execEventEdge e stamp rising s
  | .coarseOverflow e => Sys2Proof.Machine.execCoarseOverflow e s
  | .zeroCrossing port stamp x => Sys2Proof.Machine.execZeroCrossing port stamp x s
  | .lfTick => Sys2Proof.Machine.execLfTick s
  | .freezeTimeout => Sys2Proof.Machine.execFreezeTimeout s
  | .rateRecompute temp => Sys2Proof.Machine.execRateRecompute temp s
  | .hourAdvance temp => Sys2Proof.Machine.execHourAdvance temp s
  | .mark temp fault => Sys2Proof.Machine.execMark temp fault s
  | .swapReset temp => Sys2Proof.Machine.execSwapReset temp s
  | .markLead => Sys2Proof.Machine.execMarkLead s
  | .facetStart f => Sys2Proof.Machine.execFacetStart f s
  | .facetEnd vbat => Sys2Proof.Machine.execFacetEnd vbat s
  | .apply1Work rises => Sys2Proof.Machine.execApply1Work rises s
  | .apply2Work => Sys2Proof.Machine.execApply2Work s
  | .stiValidationDone => Sys2Proof.Machine.execStiValidationDone s
  | .hwShotFire t => Sys2Proof.Machine.execHwShotFire t s
  | .hostShotFire t => Sys2Proof.Machine.execHostShotFire t s
  | .captureComplete x => Sys2Proof.Machine.execCaptureComplete x s
  | .echoStep k t => Sys2Proof.Machine.execEchoStep k t s
  | .conversionStart t => Sys2Proof.Machine.execConversionStart t s
  | .dischargeTimeout => Sys2Proof.Machine.execDischargeTimeout s
  | .conversionComplete => Sys2Proof.Machine.execConversionComplete s
  | .periodicCommit => Sys2Proof.Machine.execPeriodicCommit s
  | .ledgerRecordProgram bad us => Sys2Proof.Machine.execLedgerRecordProgram bad us s
  | .ledgerPageErase => Sys2Proof.Machine.execLedgerPageErase s
  | .nvmPageAttempt bad => Sys2Proof.Machine.execNvmPageAttempt bad s
  | .scrubWord => Sys2Proof.Machine.execScrubWord s
  | .rowCopyDone => Sys2Proof.Machine.execRowCopyDone s
  | .pulseStart p => Sys2Proof.Machine.execPulseStart p s
  | .pulseEnd p => Sys2Proof.Machine.execPulseEnd p s
  | .governorMinute => Sys2Proof.Machine.execGovernorMinute s
  | .lbtListenEnd rssi t => Sys2Proof.Machine.execLbtListenEnd rssi t s
  | .transmissionEnd t => Sys2Proof.Machine.execTransmissionEnd t s
  | .frameReceived f => Sys2Proof.Machine.execFrameReceived f s
  | .answerWindowEnd => Sys2Proof.Machine.execAnswerWindowEnd s
  | .ackSend => Sys2Proof.Machine.execAckSend s
  | .downlinkSend => Sys2Proof.Machine.execDownlinkSend s
  | .retryWaitEnd => Sys2Proof.Machine.execRetryWaitEnd s
  | .flashSend => Sys2Proof.Machine.execFlashSend s
  | .flashWindowOpen => Sys2Proof.Machine.execFlashWindowOpen s
  | .flashWindowClose => Sys2Proof.Machine.execFlashWindowClose s
  | .floodRelay => Sys2Proof.Machine.execFloodRelay s
  | .floodOriginate => Sys2Proof.Machine.execFloodOriginate s
  | .joinReq => Sys2Proof.Machine.execJoinReq s
  | .scanDwellEnd => Sys2Proof.Machine.execScanDwellEnd s
  | .fogEvent t => Sys2Proof.Machine.execFogEvent t s
  | .abortPoint w => Sys2Proof.Machine.execAbortPoint w s
  | .fogFrameSend t => Sys2Proof.Machine.execFogFrameSend t s
  | .wakeStage k us => Sys2Proof.Machine.execWakeStage k us s
  | .supplyLinkAttempt x => Sys2Proof.Machine.execSupplyLinkAttempt x s
  | .domainTransitionTimeout => Sys2Proof.Machine.execDomainTransitionTimeout s
  | .vdrvSettle => Sys2Proof.Machine.execVdrvSettle s
  | .eraseDone => Sys2Proof.Machine.execEraseDone s
  | .blockProgram bad => Sys2Proof.Machine.execBlockProgram bad s
  | .verificationDone => Sys2Proof.Machine.execVerificationDone s
  | .selfTest test pass temp => Sys2Proof.Machine.execSelfTest test pass temp s
  | .trialWindowExpiry temp => Sys2Proof.Machine.execTrialWindowExpiry temp s
  | .trngHealthFail => Sys2Proof.Machine.execTrngHealthFail s
  | .trngRetest pass => Sys2Proof.Machine.execTrngRetest pass s
  | .syncPulseEnd => Sys2Proof.Machine.execSyncPulseEnd s
  | .sfdEnd t => Sys2Proof.Machine.execSfdEnd t s
  | .aonPowerLoss => Sys2Proof.Machine.execAonPowerLoss s

end Sys2Proof.Machine
end

