-- ==== Sys2Proof/Safety.lean ====
section
/-! DEFINITION. The terms of the claims: what a sound state is, what a command keeps, what an answer is, and what a frame leaves alone. -/

namespace Sys2Proof.Machine

/-- The canonical form of the memories: equal contents are equal data. -/
def Memory.wf (m : List Host.Cell) : Bool := Assoc.wf memDefault m

/-- The canonical form of the register file. -/
def RegFile.wf (r : List (Nat × Word)) : Bool := Assoc.wf regDefault r

/-- The invariant of the machine: both stores in canonical form. -/
def State.Inv (s : State) : Prop := RegFile.wf s.regs = true ∧ Memory.wf s.mem = true

/-- What no command touches when it acts on a sound state r: the state stays sound, the part and its step stay, and the queue stays. -/
def State.Kept (r s : State) : Prop := s.Inv ∧ s.part = r.part ∧ s.step = r.step ∧ s.pending = r.pending

/-- A sound state of a powered device (R353). -/
def State.Up (s : State) : Prop := s.Inv ∧ s.pwr.aonOff = false

/-- The last response is one without data: its status, and EPOCH, HIRQ and RECOVERING as the state shows them (R292). -/
def State.Replied (t : State) (status : Nat) : Prop :=
  t.hif.resp = some { status := status, epoch := t.fget F.SYS_EPOCH_EPOCH, flags := b2n t.hirq + 2 * b2n t.recovering }

/-- The last response is DONE with four clean bytes of data that hold a value (R293). -/
def State.RepliedWord (t : State) (v : Nat) : Prop :=
  ∃ r, t.hif.resp = some r ∧ r.status = Sts.DONE ∧ r.data = leBytes 4 v ∧ r.trailer = some (Sts.DONE, 0xFFFF)

/-- An access finds memory b (a bank, or 16 for the capture SRAM) with its content: it is not in RETAIN, or its monitor has not tripped and both
canaries read back (R342). -/
def State.Intact (s : State) (b : Nat) : Prop :=
  s.dom (if b = 16 then domCAPT else domMEM b) ≠ pwRETAIN ∨ (s.pwr.tripped.testBit b = false ∧ s.canariesOk b = true)

/-- The chords of a shot in progress have slots, and ports, that the part numbers (R119, R32). -/
def State.ShotSound (s : State) : Prop :=
  ∀ h c, s.afe.shot = some h → c ∈ h.chords → c.slot < 16 ∧ ∀ g, s.chordCfg c.chord = some g → g.portA < 16 ∧ g.portB < 16

/-- A frame: registers outside l keep their values. -/
def State.RegsBut (s t : State) (l : List Nat) : Prop := ∀ a, a ∉ l → t.reg a = s.reg a

/-- A frame: but for registers in l and the response, t is s. -/
def State.OnlyRegs (s t : State) (l : List Nat) : Prop :=
  t = { s with regs := t.regs, hif := { s.hif with resp := t.hif.resp } } ∧ s.RegsBut t l

/-- A frame: but for registers in l, the response, and what the error check of the words that the device reads does, t is s (R318, R320, R327). -/
def State.OnlyRead (s t : State) (l : List Nat) : Prop :=
  t = { s with regs := t.regs, hif := { s.hif with resp := t.hif.resp }, memu := { s.memu with log := t.memu.log, logNext := t.memu.logNext } } ∧
    s.RegsBut t (l ++ [Reg.MEM_ECC_CNT, Reg.MEM_EVT, Reg.SYS_IRQ])

/-- The request frame that a command carries (R290). -/
def frameOf : Instr → Option Frame
  | .read tag addr len crc =>
    some { opcode := opcREAD, tag := tag.toNat, addr := addr.toNat, len := len.toNat, crc := crc.toNat }
  | .write tag addr data crc =>
    some { opcode := opcWRITE, tag := tag.toNat, addr := addr.toNat, len := data.length, payload := data, crc := crc.toNat }
  | .opStatus tag addr len crc => some { opcode := opcOP_STATUS, tag := tag.toNat, addr := addr.toNat, len := len.toNat, crc := crc.toNat }
  | .streamRead tag addr len crc => some { opcode := opcSTREAM_READ, tag := tag.toNat, addr := addr.toNat, len := len.toNat, crc := crc.toNat }
  | .updateBlock tag addr data crc =>
    some { opcode := opcUPDATE_BLOCK, tag := tag.toNat, addr := addr.toNat, len := data.length, payload := data, crc := crc.toNat }
  | .shot r => some (submitFrame opSHOT r)
  | .convert r => some (submitFrame opCONVERT r)
  | .nvmWrite r => some (submitFrame opNVM_WRITE r)
  | .scrub r => some (submitFrame opSCRUB r)
  | .radioTx r => some (submitFrame opRADIO_TX r)
  | .radioScan r => some (submitFrame opRADIO_SCAN r)
  | .ledgerCommit r => some (submitFrame opLEDGER_COMMIT r)
  | .slinkSet r => some (submitFrame opSLINK_SET r)
  | .stiLoad r => some (submitFrame opSTI_LOAD r)
  | _ => none

/-- A frame: t is s but for the response, and the duplicate window, in which the command's frame stands first with this status where the window holds
frames of its kind (R299). -/
def State.OnlyAnswered (s t : State) (c : Instr) (status : Nat) : Prop :=
  ∃ f, frameOf c = some f ∧ t = { s with hif := { s.hif with
    resp := t.hif.resp
    win := if f.cached then ({ tag := f.tag, opcode := f.opcode, status := status } :: s.hif.win).take 16 else s.hif.win } }

/-- What every reset leaves (R44, R54, R80, R336, R356): the epoch and the rotation count at 0, no image, the Lens idle, the operation table
and the duplicate window empty, keys and the clock's time kept (its correction is formed anew), and a boot load started unless the state is SCRAP or the active set fails. -/
def State.AfterReset (s t : State) : Prop :=
  t.fget F.SYS_EPOCH_EPOCH = 0 ∧ t.regN Reg.ROT_NUM = 0 ∧ t.image = none ∧ t.lens = lsIDLE ∧ t.hif = {} ∧ t.upd.keys = s.upd.keys ∧
    t.life = s.life ∧ t.rtc = { s.rtc with next := t.rtc.next } ∧
    (∀ a, a / 0x10000 = 14 → a ∉ [Reg.RTC_TEMP, Reg.RTC_STATUS, Reg.RTC_CORR] → t.reg a = s.reg a) ∧
    (t.life = lcSCRAP ∨ t.fget F.UPD_STATUS_BOOT_FAIL = 1 ∨ t.updState = upTRIAL ∨
      (t.fget F.STI_STATUS_LOAD = 1 ∧ t.fget F.STI_STATUS_BOOT = 1))

/-- A set on trial was taken back: the other slot is active, and REVERTED is shown (R385). -/
def State.Reverted (s t : State) : Prop :=
  t.updState = upIDLE ∧ t.fget F.UPD_STATUS_SLOT = 1 - s.fget F.UPD_STATUS_SLOT ∧ t.fget F.UPD_EVT_REVERTED = 1 ∧ t.upd.keys = s.upd.keys ∧
    t.fget F.SYS_EPOCH_EPOCH = 0 ∧ t.image = none

/-- A device fault was taken whose causes of one cycle are cs (R37 to R40, R53). -/
def State.Faulted (s t : State) (cs : List Nat) : Prop :=
  t.fget F.SYS_EPOCH_EPOCH = (s.fget F.SYS_EPOCH_EPOCH + 1) % 256 ∧ t.fget F.SYS_EPOCH_FAULTS = min 65535 (s.fget F.SYS_EPOCH_FAULTS + 1) ∧
    t.recovering = true ∧ t.fget F.SYS_IRQ_FAULT = 1 ∧ t.fget F.SYS_FAULT_CAUSE_CAUSE = cs.foldl min 7 ∧
    t.fget F.SYS_FAULT_CAUSE_EPOCH = (s.fget F.SYS_EPOCH_EPOCH + 1) % 256 ∧
    (∀ c ∈ cs, t.ftest F.SYS_FAULT_CAUSE_HIST (c - 1) = true) ∧ (fcPOISON_EXEC ∈ cs → t.fget F.MEM_EVT_CONSUMED = 1) ∧
    t.lens = lsRECOVER ∧ t.rot.back = s.lensBack ∧ t.rot.entry = none ∧ t.rot.fog = false ∧
    (∀ i, i < 16 → (s.opE i).st = .active → (s.opE i).autorel = false →
      (t.opE i).st = .complete ∧ (t.opE i).status = Sts.DISCARDED ∧ (t.opE i).epoch = (s.fget F.SYS_EPOCH_EPOCH + 1) % 256) ∧
    (∀ k, k < 16 → t.slotState k = slotFREE) ∧ t.tmu.conv = none ∧ t.rad.job = none ∧ t.memu.nvm = none ∧
    t.ldg.acc = s.ldg.acc ∧
    t.ldg.commit = s.ldg.commit.map (fun c => { c with op := none, runOn := true }) ∧ (s.memu.nvm = none → t.mem = s.mem)

/-- A rotation at whose mark nothing is due but the rotation itself: no image, no load to apply, no clear, no host increments, no new ageing
scale, nothing of the mesh and no swap. -/
def State.QuietMark (s : State) : Prop :=
  s.image = none ∧ s.lens = lsIDLE ∧ s.fget F.STI_STATUS_LOAD ≠ 2 ∧ s.ldg.clearReq = false ∧ s.fget F.LDG_HOSTINC_GO_GO = 0 ∧
    s.tiu.nextScale = none ∧ s.rot.late = [] ∧ s.mst = bsOFF ∧ s.upd.swapArmed = false

/-- May a frame of this airtime, channel and class be sent (R242, R250)? -/
def State.Clear (s : State) (air chan : Nat) (fog : Bool) : Prop :=
  ∃ r i, s.radio = some r ∧ touchesUncapped r.phy r.band chan = false ∧ s.govAdmits r chan air fog = some i

/-- A DATA entry is in progress with its domains ON, CORE in no rest entry, and no relay due. -/
def State.DataReady (s : State) : Prop :=
  s.inKind kDATA = true ∧ s.entryReady = true ∧ s.pwr.entryStep ≠ 4 ∧ s.msh.relayDue = false

/-- No entry in progress could start anything for the radio: there is none, a preemption holds it, or it is a DATA entry in which only these operations
wait, with a MAC other than the hardware's. -/
def State.RadioQuiet (s : State) (tx scan : List Nat) : Prop :=
  s.rot.entry = none ∨ s.rot.fog = true ∨
    (s.DataReady ∧ s.macMode ≠ 0 ∧ s.activeOps opRADIO_TX = tx ∧ s.activeOps opRADIO_SCAN = scan)

/-- A frame is in its listen or on air. -/
def State.OnAir (t : State) (why : TxWhy) (psdu : List Byte) (air chan : Nat) : Prop :=
  ∃ j, t.rad.job = some j ∧ j.why = why ∧ j.psdu = psdu ∧ j.air = air ∧ j.chan = chan

/-- The host shot of entry i has begun n ns after the mark: it is the shot in progress, and the shot instant of the rotation is the first. -/
def State.ShotBegun (s t : State) (i n : Nat) : Prop :=
  (∃ h, t.afe.shot = some h ∧ h.op = some i) ∧ (t.opE i).started = true ∧ (∀ j, j ≠ i → t.opE j = s.opE j) ∧
    t.ldg = { s.ldg with shotAt := some (s.ldg.shotAt.getD (64 * n)) } ∧ t.mem = s.mem

/-- A frame that passes checks 1 to 4 of R294: CRC, no repeat, well-formed, and served in this boot (R384). -/
def State.Served (s : State) (f : Frame) : Prop :=
  f.crcOk = true ∧ s.repeatOf f = none ∧ f.formBad = false ∧ s.bootLocked f = false

/-- Does a command carry a frame that passes those checks? -/
def State.Serves (s : State) (c : Instr) : Prop := ∃ f, frameOf c = some f ∧ s.Served f

/-- Operation i has completed: in its entry or, with AUTOREL, leaving it FREE, its record in the duplicate window as well, with OP_DONE raised and the
other entries as they were (R299, R305, R307, R310). -/
def State.Completed (s t : State) (i status causes result : Nat) : Prop :=
  (if (s.opE i).autorel then t.opE i = {} else
    (t.opE i).st = .complete ∧ (t.opE i).status = status ∧ (t.opE i).causes = causes ∧ (t.opE i).result = result ∧
      (t.opE i).epoch = s.fget F.SYS_EPOCH_EPOCH ∧ (t.opE i).order = s.hif.nextOrder) ∧
  (∀ j, j ≠ i → t.opE j = s.opE j) ∧ t.fget F.SYS_IRQ_OP_DONE = 1 ∧
  t.hif = { s.hif with ops := t.hif.ops, nextOrder := s.hif.nextOrder + 1, win := s.hif.win.map fun w =>
    if w.opcode = opcOP_SUBMIT ∧ w.tag = (s.opE i).tag then
      { w with status := status, record := some (({ s.opE i with status := status, causes := causes, result := result,
                                                                  epoch := s.fget F.SYS_EPOCH_EPOCH }).record 3) }
    else w }

/-- What an accumulator holds, its residue, whole units and wraps as one number (R215, R216, R220). -/
def Acc.total (a : Acc) : Nat := (a.wrap * 2 ^ 96 + a.v) * 2 ^ 32 + a.r

/-- Every accumulator keeps its widths (R216, R220). -/
def State.AccSound (s : State) : Prop := s.ldg.acc.length = 17 ∧ ∀ a, (s.acc a).v < 2 ^ 96 ∧ (s.acc a).r < 2 ^ 32 ∧ (s.acc a).wrap < 2 ^ 8

/-- Accumulator a takes x, in units of 2^-32 of its own, with its wraps (R216, R220). -/
def State.Takes (s t : State) (a x : Nat) : Prop := (t.acc a).total = ((s.acc a).total + x) % 2 ^ 136

/-- The part of an exact increment that a residue holds (R220). -/
def parts (x : Rat) : Nat := (x * ((2 ^ 32 : Nat) : Rat)).floor.toNat

/-- The corrected length of the rotation that ends, in ns (R59). -/
def State.durNs (s : State) : Nat := correctedNs s.rot.len s.rateCorr

/-- A mark whose ledger step runs: there is an image, no clear waits, and the store is sound (R219, R228, R231). -/
def State.StepDue (s : State) : Prop := s.image.isSome = true ∧ s.ldg.clearReq = false ∧ s.ldg.storeErr = [] ∧ s.AccSound

/-- The receiver of the hardware MAC has taken the whole of frame f, whose check fields pass and which reads as p; no scan runs (R243, R255, R267). -/
def State.Hears (s : State) (f : RxFrame) (st : RxStart) (p : RxParts) : Prop :=
  s.rad.rx = some st ∧ s.macMode = 0 ∧ s.role ≠ 0 ∧ f.unsup = false ∧ s.checksPass f = true ∧ f.fmtB = false ∧
    Machine.readFrame (f.psdu.take (f.psdu.length - 4)) = some p ∧ s.rad.scan = none

/-- The reception ends: the receiver is free and the frame counted with its strength (R255). -/
def State.Heard (s t : State) (f : RxFrame) : Prop :=
  t.rad = { s.rad with rx := none } ∧ t.fget F.RAD_CNT_RX_OK = min 65535 (s.fget F.RAD_CNT_RX_OK + 1) ∧ t.fget F.RAD_RSSI_LAST = f.rssi.toNat ∧
    t.mem = s.mem

/-- Nothing of an entry can start behind this row: none is in progress, or a preemption holds it. -/
def State.Holds (s : State) : Prop := s.rot.entry = none ∨ s.rot.fog = true

/-- Operation i, whose work has begun, goes on to its next abort point, and nothing else changes (R306). -/
def State.OnlyExpires (s t : State) (i : Nat) : Prop :=
  t.opE i = { s.opE i with expiring := true } ∧ (∀ j, j ≠ i → t.opE j = s.opE j) ∧ t = { s with hif := { s.hif with ops := t.hif.ops } }

/-- The registers whose words do something of their own, beside what their access types say (R18 to R20). -/
def actionRegs : List Nat :=
  (List.range 6).map Reg.TIU_EV_ARM ++ (List.range 22).map Reg.TIU_ST_CFG ++ (List.range 8).map (fun f => Reg.RTC_SEC + 4 * f) ++
    [Reg.HIF_CFG, Reg.AFE_SLOT_REL, Reg.ECH_CTL, Reg.ECH_HOSTEVT, Reg.FLW_CTL, Reg.LDG_CTL, Reg.RAD_RXREL, Reg.MSH_CTL, Reg.MSH_FOG_GO,
      Reg.MSH_PROV_CTL, Reg.MEM_POLICY, Reg.MEM_LOG_CTL, Reg.MEM_FLIP_CTL, Reg.MEM_RETIRE, Reg.PWR_HOLD, Reg.PWR_SLEEPSET, Reg.RTC_UNFREEZE,
      Reg.RTC_COMMIT, Reg.RTC_TRIM, Reg.UPD_LIFE_REQ, Reg.UPD_CTL, Reg.UPD_CONFIRM, Reg.UPD_KEY_CTL]

/-- Every bit of register a does what its access type says for a word v (R19). -/
def State.BitsByAccess (s t : State) (a : Nat) (r : RegRow) (v : Word) : Prop :=
  ∀ i, i < 32 → (t.reg a).getLsbD i =
    (if r.w1s.testBit i && v.getLsbD i then true else if r.w1c.testBit i && v.getLsbD i then false
     else if r.rw.testBit i || r.wo.testBit i then v.getLsbD i else (s.reg a).getLsbD i)

/-- The nine operations by TYPE (R304). -/
def submits : List (Nat × (OpReq → Instr)) :=
  [(opSHOT, .shot), (opCONVERT, .convert), (opNVM_WRITE, .nvmWrite), (opSCRUB, .scrub), (opRADIO_TX, .radioTx), (opRADIO_SCAN, .radioScan),
    (opLEDGER_COMMIT, .ledgerCommit), (opSLINK_SET, .slinkSet), (opSTI_LOAD, .stiLoad)]

end Sys2Proof.Machine
end

