-- ==== Sys2Proof/Certificates/Slice0/Obligations.lean ====
section
/-! DEFINITION. The statements for the provers, from the numbered rules of the spec. A register or a field is named as the spec names it. -/

open Sys2Proof Sys2Proof.Machine

/-! The block: its queue, its reset, its invariant -/

/-- A step takes the command at the front of the queue and runs it on the state with the queue's rest; on an empty queue the block idles (the model's
choice, log entry 4). The model's choice here is log entry 4. -/
def Obligations.StepTakesFront : Prop :=
  (∀ (s : State) (c : Instr) (rest : List Instr), s.pending = c :: rest → step s = exec c { s with pending := rest }) ∧
  ∀ s : State, s.pending = [] → step s = .next s

/-- The state after reset is sound, its queue is empty, memory lists nothing, and the registers read the reset values of their tables. The model's choices
here are log entries 1, 2, 3 and 8. -/
def Obligations.ResetState : Prop :=
  State.reset.Inv ∧ State.reset.pending = [] ∧ State.reset.mem = [] ∧ (∀ a, State.reset.reg a = regDefault a) ∧
  State.reset.reg Reg.SYS_IRQ_EN = 0x7FFFE ∧ State.reset.reg Reg.SYS_GPIO_FN = 0xF00 ∧ State.reset.reg Reg.ROT_LAST_DUR = 500000000 ∧
  State.reset.reg Reg.SYS_EPOCH = 0 ∧ State.reset.reg Reg.TIU_SCALE = 0x40000000 ∧ State.reset.fget F.ROT_CFG_K = 4 ∧
  State.reset.lens = lsIDLE ∧ State.reset.reg Reg.ROT_NUM = 0

/-- Every step of every command keeps the canonical forms of the register file and the memories. The model's choice here is log entry 3. -/
def Obligations.StepKeepsSound : Prop :=
  ∀ s t : State, s.Inv → step s = .next t → t.Inv

/-- No command touches the queue, the part or its silicon step. The model's choice here is log entry 4. -/
def Obligations.CommandKeepsQueueAndPart : Prop :=
  ∀ (c : Instr) (s t : State), s.Inv → exec c s = .next t → t.pending = s.pending ∧ t.part = s.part ∧ t.step = s.step

/-- R3: SYS_CAPS reads the value of the part's row, and no command changes what it reads. -/
def Obligations.SysCapsFixed : Prop :=
  (∀ s : State, s.sysCaps = match s.part with
    | .tv816 => 0x0B10F810 | .tv812 => 0x0810F60C | .tv808h => 0x00081408 | .tv816w => 0x0010C810) ∧
  (∀ (s : State) (tag : Byte) (crc : BitVec 16), s.Up → s.Serves (.read tag 4 4 crc) →
    ∃ t, exec (.read tag 4 4 crc) s = .next t ∧ t.RepliedWord s.sysCaps) ∧
  ∀ (c : Instr) (s t : State), s.Inv → exec c s = .next t → t.sysCaps = s.sysCaps

/-! Request frames -/

/-- A READ of a span that R7 and R17 admit, outside BANK0, is answered DONE with the bytes asked for, poisoned ones as zero. One that touches BANK1 finds
it with its content, since its loss is a device fault. Bytes of one clean word of an SRAM bank, which is neither in OFF nor found lost nor a running
keeper's, or of a clean or erased one of the NVM are those stored there; one register word is the register's. One that touches BANK0 is answered
LOCKED with zeros and changes nothing (R295, R313). The model's choices here are log entries 124 and 156. -/
def Obligations.ReadCompletes : Prop :=
  ∀ (tag : Byte) (addr : BitVec 24) (len crc : BitVec 16) (s : State), s.Up →
    s.Serves (.read tag addr len crc) → s.frameOk addr.toNat len.toNat = true →
    ((0x108000 ≤ addr.toNat ∨ addr.toNat + len.toNat ≤ 0x100000) → (addr.toNat < 0x110000 → s.Intact 1) →
      ∃ t r, exec (.read tag addr len crc) s = .next t ∧ t.hif.resp = some r ∧ r.status = Sts.DONE ∧ r.data.length = len.toNat ∧
        r.data = (s.readFrame addr.toNat len.toNat).1.map (fun p => if p.2 then 0 else p.1) ∧ t.hif.ops = s.hif.ops ∧ t.hif.win = s.hif.win) ∧
    (∀ b, 1 ≤ b → b < 16 → addr.toNat / 0x8000 = 0x20 + b → addr.toNat % 16 + len.toNat ≤ 16 → s.dom (domMEM b) ≠ pwOFF → s.Intact b →
      b ∉ s.keeperBanks → (Ecc.decode (s.strict addr.toNat) (s.symsAt (s.phys (addr.toNat / 16 * 16)))).1 = .clean →
      ∃ t r, exec (.read tag addr len crc) s = .next t ∧ t.hif.resp = some r ∧
        ∀ i, i < len.toNat → r.data.getD i 0 = s.byte (s.phys (addr.toNat / 16 * 16) + addr.toNat % 16 + i)) ∧
    (∀ d, 0x200000 ≤ addr.toNat → addr.toNat % 16 + len.toNat ≤ 16 → d = .clean ∨ d = .erased →
      (Ecc.decode (s.strict addr.toNat) (s.symsAt (s.phys (addr.toNat / 16 * 16)))).1 = d →
      ∃ t r, exec (.read tag addr len crc) s = .next t ∧ t.hif.resp = some r ∧
        ∀ i, i < len.toNat → r.data.getD i 0 = s.byte (s.phys (addr.toNat / 16 * 16) + addr.toNat % 16 + i)) ∧
    (addr.toNat < 0x100000 → len.toNat = 4 → s.regPoison addr.toNat = false →
      ∃ t, exec (.read tag addr len crc) s = .next t ∧ t.RepliedWord (s.readReg addr.toNat).1) ∧
    (addr.toNat < 0x108000 → 0x100000 < addr.toNat + len.toNat →
      ∃ t r, exec (.read tag addr len crc) s = .next t ∧ t.hif.resp = some r ∧ r.status = Sts.LOCKED ∧ r.data = List.replicate len.toNat 0 ∧
        t = { s with hif := { s.hif with resp := some r } })

/-- R18: a WRITE to the ledger NVM window is answered LOCKED and changes nothing but the duplicate window. -/
def Obligations.LedgerWindowLocked : Prop :=
  ∀ (tag : Byte) (addr : BitVec 24) (data : List Byte) (crc : BitVec 16) (s : State), s.Up →
    s.Serves (.write tag addr data crc) → 0x300000 ≤ addr.toNat → addr.toNat + data.length ≤ 0x310000 →
    ∃ t, exec (.write tag addr data crc) s = .next t ∧ t.Replied Sts.LOCKED ∧ s.OnlyAnswered t (.write tag addr data crc) Sts.LOCKED

/-- R7: on the part with eight SRAM banks a READ or WRITE that touches the SRAM window at 0x14_0000 or above is answered BAD_ADDR, and changes nothing but
the duplicate window. -/
def Obligations.EightBankWindow : Prop :=
  (∀ (tag : Byte) (addr : BitVec 24) (len crc : BitVec 16) (s : State), s.Up → s.part = .tv808h →
    s.Serves (.read tag addr len crc) → addr.toNat < 0x180000 → 0x140000 < addr.toNat + len.toNat →
    ∃ t r, exec (.read tag addr len crc) s = .next t ∧ t.hif.resp = some r ∧ r.status = Sts.BAD_ADDR ∧
      t = { s with hif := { s.hif with resp := some r } }) ∧
  ∀ (tag : Byte) (addr : BitVec 24) (data : List Byte) (crc : BitVec 16) (s : State), s.Up → s.part = .tv808h →
    s.Serves (.write tag addr data crc) → addr.toNat < 0x180000 → 0x140000 < addr.toNat + data.length →
    ∃ t, exec (.write tag addr data crc) s = .next t ∧ t.Replied Sts.BAD_ADDR ∧ s.OnlyAnswered t (.write tag addr data crc) Sts.BAD_ADDR

/-- A WRITE of one whole word of an SRAM bank that the host may write, with no flip mask armed, the bank not in OFF and not found lost: it is answered
DONE, the word's 16 data bytes hold the payload, every other byte of every memory outside the word's check symbols stays, and so do the registers but
those of the wake's trace. The model's choice here is log entry 156. -/
def Obligations.WordWriteStores : Prop :=
  ∀ (tag : Byte) (addr : BitVec 24) (data : List Byte) (crc : BitVec 16) (b : Nat) (s : State), s.Up →
    s.Serves (.write tag addr data crc) → data.length = 16 → addr.toNat % 16 = 0 →
    2 ≤ b → b < s.banks → addr.toNat / 0x8000 = 0x20 + b → b ∉ s.keeperBanks → s.dom (domMEM b) ≠ pwOFF → s.Intact b →
    s.fbit F.MEM_FLIP_CTL_ARM = false →
    ∃ t, exec (.write tag addr data crc) s = .next t ∧ t.Replied Sts.DONE ∧ s.RegsBut t [Reg.PWR_WAKE_TRACE, Reg.PWR_WAKE_T0, Reg.PWR_WAKE_T1] ∧
      (∀ i, i < 16 → t.byte (s.phys addr.toNat + i) = data.getD i 0) ∧
      ∀ k, k ∉ symKeys (s.phys addr.toNat) → t.byte k = s.byte k

/-- An OP_STATUS by tag, or by NEXT for the entry that completed first, answers DONE with that entry's record of 20 bytes; with RELEASE a COMPLETE entry
becomes FREE, and nothing else changes. A tag with no entry is answered with the record that the duplicate window keeps under it, and where nothing is
found with zeros; nothing changes then (R299, R305, R307, R308). A STREAM_READ answers LEN bytes that begin with the 20 bytes of the slot's
descriptor. Without RELEASE the slot stays; with RELEASE and host echo a FULL slot becomes FREE and the status is DONE; other slots, the operations
and every memory outside the slot stay, but for the wake's trace and what the error check of its words does (R297, R298, R318). The capture SRAM keeps
its content. The model's choice here is log entry 156. -/
def Obligations.RecordAndSlotAnswered : Prop :=
  (∀ (tag : Byte) (addr : BitVec 24) (len crc : BitVec 16) (i : Nat) (s : State), s.Up →
    s.Serves (.opStatus tag addr len crc) → i < 16 →
    ((addr.toNat.testBit 8 = false ∧ (s.opE i).st ≠ .free ∧ (s.opE i).tag = addr.toNat % 256 ∧
        ∀ j, j < i → (s.opE j).st = .free ∨ (s.opE j).tag ≠ addr.toNat % 256) ∨
      (addr.toNat.testBit 8 = true ∧ (s.opE i).st = .complete ∧
        ∀ j, j < 16 → j ≠ i → (s.opE j).st = .complete → (s.opE i).order < (s.opE j).order)) →
    ∃ t r, exec (.opStatus tag addr len crc) s = .next t ∧ t.hif.resp = some r ∧ r.status = Sts.DONE ∧ r.data.length = 20 ∧
      r.data = (s.opE i).record (if (s.opE i).st = .complete then 2 else 1) ∧
      t = { s with hif := { s.hif with resp := some r, ops := t.hif.ops } } ∧
      (addr.toNat.testBit 9 = true → (s.opE i).st = .complete → (t.opE i).st = .free) ∧
      (addr.toNat.testBit 9 = false ∨ (s.opE i).st ≠ .complete → t.hif.ops = s.hif.ops) ∧
      ∀ j, j ≠ i → t.opE j = s.opE j) ∧
  (∀ (tag : Byte) (addr : BitVec 24) (len crc : BitVec 16) (s : State), s.Up → s.Serves (.opStatus tag addr len crc) →
    ((addr.toNat.testBit 8 = false ∧ ∀ i, i < 16 → (s.opE i).st = .free ∨ (s.opE i).tag ≠ addr.toNat % 256) ∨
      (addr.toNat.testBit 8 = true ∧ ∀ i, i < 16 → (s.opE i).st ≠ .complete)) →
    ∃ t r, exec (.opStatus tag addr len crc) s = .next t ∧ t.hif.resp = some r ∧ r.status = Sts.DONE ∧
      t = { s with hif := { s.hif with resp := some r } } ∧
      (∀ w l, addr.toNat.testBit 8 = false → s.hif.win.find? (fun w => w.tag == addr.toNat % 256) = some w → w.record = some l → r.data = l) ∧
      (addr.toNat.testBit 8 = true ∨ (∀ w ∈ s.hif.win, w.tag = addr.toNat % 256 → w.record = none) → r.data = List.replicate 20 0)) ∧
  (∀ (tag : Byte) (addr : BitVec 24) (len crc : BitVec 16) (s : State), s.Up →
    s.Serves (.streamRead tag addr len crc) → 20 ≤ len.toNat → s.Intact 16 →
    ∃ t r, exec (.streamRead tag addr len crc) s = .next t ∧ t.hif.resp = some r ∧ r.data.length = len.toNat ∧
      r.data.take 20 = [Reg.AFE_SLOT_CTL, Reg.AFE_SLOT_ROT, Reg.AFE_SLOT_WIN, Reg.AFE_SLOT_RXA, Reg.AFE_SLOT_RXB].flatMap
        (fun a => leBytes 4 (s.regN (a (addr.toNat % 16)))) ∧
      t = { s with regs := t.regs, mem := t.mem, memu := { s.memu with log := t.memu.log, logNext := t.memu.logNext },
                   hif := { s.hif with resp := some r, win := (if tag.toNat ≠ 0 ∧ addr.toNat.testBit 4 = true then
                     ({ tag := tag.toNat, opcode := opcSTREAM_READ, status := r.status } :: s.hif.win).take 16 else s.hif.win) } } ∧
      s.RegsBut t ([Reg.AFE_SLOT_CTL (addr.toNat % 16), Reg.AFE_SLOT_MAP, Reg.PWR_WAKE_TRACE, Reg.PWR_WAKE_T0, Reg.PWR_WAKE_T1, Reg.MEM_ECC_CNT,
        Reg.MEM_EVT, Reg.SYS_IRQ, Reg.MEM_FLIP_CTL] ++ (List.range 5).map Reg.MEM_FLIP) ∧
      (∀ k, k < 0x1000000 → k < slotAddr (addr.toNat % 16) ∨ slotAddr (addr.toNat % 16) + 0x600 ≤ k → t.byte k = s.byte k) ∧
      (r.status = if !addr.toNat.testBit 4 then Sts.DONE else if !s.hostEcho then Sts.LOCKED
        else if s.slotState (addr.toNat % 16) = slotFULL then Sts.DONE else Sts.REFUSED) ∧
      t.slotState (addr.toNat % 16) = (if addr.toNat.testBit 4 = true ∧ s.hostEcho = true ∧ s.slotState (addr.toNat % 16) = slotFULL then slotFREE
        else s.slotState (addr.toNat % 16)))

/-- A frame whose CRC fails is answered BAD_CRC and only counted; a repeat of a tag in the duplicate window is answered DUPLICATE with the cached status
in AUX and only counted (R294 checks 1 and 2, R300). One whose form is wrong, such as an unknown OPCODE or a TYPE of no operation, is answered REFUSED
and only entered in the duplicate window (R294 check 3, R304). A request that is cut short has no effect and no response, and is counted (R291). The
model's choices here are log entries 17, 115 and 178. -/
def Obligations.FramesNotTaken : Prop :=
  ((∀ (c : Instr) (f : Frame) (s : State), s.Up → frameOf c = some f → f.crcOk = false →
    ∃ t, exec c s = .next t ∧ t.Replied Sts.BAD_CRC ∧ s.OnlyRegs t [Reg.HIF_CNT] ∧
      t.fget F.HIF_CNT_BAD_CRC = min 0xFFFF (s.fget F.HIF_CNT_BAD_CRC + 1) ∧ t.fget F.HIF_CNT_ABORT = s.fget F.HIF_CNT_ABORT) ∧
  ∀ (c : Instr) (f : Frame) (w : WinEntry) (s : State), s.Up → frameOf c = some f → f.crcOk = true → f.tag ≠ 0 →
    s.hif.win.find? (fun w => w.tag == f.tag) = some w → f.opcode ≠ opcSTREAM_READ →
    ∃ t r, exec c s = .next t ∧ t.hif.resp = some r ∧ r.status = Sts.DUPLICATE ∧ r.aux = w.status ∧ s.OnlyRegs t [Reg.HIF_DUP_CNT] ∧
      t.fget F.HIF_DUP_CNT_DUP = min 0xFFFF (s.fget F.HIF_DUP_CNT_DUP + 1)) ∧
  (∀ (c : Instr) (f : Frame) (s : State), s.Up → frameOf c = some f → f.crcOk = true → s.repeatOf f = none → f.formBad = true →
    ∃ t r, exec c s = .next t ∧ t.hif.resp = some r ∧ r.status = Sts.REFUSED ∧ s.OnlyAnswered t c Sts.REFUSED) ∧
  (∀ f : Frame, (f.opcode = 0 ∨ opcUPDATE_BLOCK < f.opcode) ∨ (f.opcode = opcOP_SUBMIT ∧ paramLen (leAt f.payload 0 1) = none) → f.formBad = true) ∧
  (∀ s : State, s.Up → ∃ t, exec .requestAbort s = .next t ∧ t.hif.resp = none ∧ s.OnlyRegs t [Reg.HIF_CNT] ∧
    t.fget F.HIF_CNT_ABORT = min 0xFFFF (s.fget F.HIF_CNT_ABORT + 1) ∧ t.fget F.HIF_CNT_BAD_CRC = s.fget F.HIF_CNT_BAD_CRC)

/-! Operations -/

/-- R303: a submission that asks for the epoch check with another epoch is answered STALE_EPOCH and not entered. -/
def Obligations.StaleEpochNotEntered : Prop :=
  ∀ p ∈ submits, ∀ (r : OpReq) (s : State), s.Up → s.Serves (p.2 r) → r.flags.toNat.testBit 1 = true →
    r.epoch.toNat ≠ s.fget F.SYS_EPOCH_EPOCH →
    ∃ t, exec (p.2 r) s = .next t ∧ t.Replied Sts.STALE_EPOCH ∧ s.OnlyAnswered t (p.2 r) Sts.STALE_EPOCH

/-- A submission during recovery is answered DISCARDED, one that fails its own checks with their status, and one that finds no FREE entry OP_FULL and is
counted; none is entered (R41, R294, R305). R5: an operation aimed at an absent chord, at the absent pressure input or at an absent radio is answered
NOT_PRESENT, and no operation is entered and nothing else changes but the duplicate window. The model's choice here is log entry 178. -/
def Obligations.SubmitNotEntered : Prop :=
  (∀ p ∈ submits, ∀ (r : OpReq) (s : State), s.Up → s.Serves (p.2 r) →
    (r.flags.toNat.testBit 1 = true → r.epoch.toNat = s.fget F.SYS_EPOCH_EPOCH) →
    (s.recovering = true → ∃ t, exec (p.2 r) s = .next t ∧ t.Replied Sts.DISCARDED ∧ s.OnlyAnswered t (p.2 r) Sts.DISCARDED) ∧
    (∀ st, s.recovering = false → s.checkOp p.1 r.params = some st →
      ∃ t, exec (p.2 r) s = .next t ∧ t.Replied st ∧ s.OnlyAnswered t (p.2 r) st) ∧
    (s.recovering = false → s.checkOp p.1 r.params = none → (∀ i, i < 16 → (s.opE i).st ≠ .free) →
      ∃ t, exec (p.2 r) s = .next t ∧ t.Replied Sts.OP_FULL ∧ s.OnlyRegs t [Reg.HIF_OPFULL_CNT] ∧
        t.fget F.HIF_OPFULL_CNT_COUNT = min 0xFFFF (s.fget F.HIF_OPFULL_CNT_COUNT + 1))) ∧
  ((∀ p ∈ submits, ∀ (r : OpReq) (s : State), s.Up → s.Serves (p.2 r) → r.flags.toNat.testBit 1 = false → s.recovering = false →
    ((p.1 = opSHOT ∧ s.hostShots = true ∧ leAt r.params 0 1 / 2 ^ s.chords ≠ 0) ∨
      (p.1 = opCONVERT ∧ s.hostTherm = true ∧ (leAt r.params 0 1).testBit 4 = true ∧ s.part = .tv808h) ∨
      ((p.1 = opRADIO_TX ∨ p.1 = opRADIO_SCAN) ∧ s.part = .tv816w)) →
    ∃ t, exec (p.2 r) s = .next t ∧ t.Replied Sts.NOT_PRESENT ∧ s.OnlyAnswered t (p.2 r) Sts.NOT_PRESENT))

/-- A submission that passes every check, with a FREE entry, where no entry is in progress that could run it or a preemption holds it, is answered
ACCEPTED (a SHOT and a CONVERT wait for their fire decision in any case): the first FREE entry becomes ACTIVE with its tag, type, parameters and
deadline, the other entries stay, and so do every register but MSH_STATUS (which shows the association count anew) and every memory. A RADIO_TX body
waits at the end of the hardware MAC's queue of its class as well, or as the downlink of the buoy that a keeper sends it to (R278, R282, R283, R305).
The model's choice here is log entry 62. -/
def Obligations.SubmitAccepted : Prop :=
  ∀ p ∈ submits, ∀ (r : OpReq) (i : Nat) (s : State), s.Up → s.Serves (p.2 r) →
    (r.flags.toNat.testBit 1 = true → r.epoch.toNat = s.fget F.SYS_EPOCH_EPOCH) → s.recovering = false →
    s.checkOp p.1 r.params = none → s.hif.ops.length = 16 → i < 16 → (s.opE i).st = .free → (∀ j, j < i → (s.opE j).st ≠ .free) →
    (p.1 = opSHOT ∨ p.1 = opCONVERT ∨ s.rot.entry = none ∨ s.rot.fog = true) →
    ¬ (p.1 = opRADIO_SCAN ∧ s.macMode = 0 ∧ s.role = roleKEEPER) →
    ∃ t, exec (p.2 r) s = .next t ∧ t.Replied Sts.ACCEPTED ∧
      t.opE i = { st := .active, tag := r.tag.toNat, type := p.1, autorel := r.flags.toNat.testBit 0, params := r.params, status := Sts.ACCEPTED,
                  epoch := s.fget F.SYS_EPOCH_EPOCH, deadline := effDeadline p.1 r.deadline.toNat (s.budgetOf p.1 r.params),
                  budget := s.budgetOf p.1 r.params, acc := s.hif.nextOrder } ∧
      (∀ j, j ≠ i → t.opE j = s.opE j) ∧ s.RegsBut t [Reg.MSH_STATUS] ∧
      t = { s with regs := t.regs, msh := t.msh, hif := { s.hif with
        resp := t.hif.resp, ops := t.hif.ops, nextOrder := s.hif.nextOrder + 1,
        win := ({ tag := r.tag.toNat, opcode := opcOP_SUBMIT, status := Sts.ACCEPTED } :: s.hif.win).take 16 } } ∧
      (p.1 ≠ opRADIO_TX ∨ s.macMode ≠ 0 → t.msh = s.msh) ∧
      (p.1 = opRADIO_TX → s.macMode = 0 → s.role ≠ roleKEEPER ∨ leAt r.params 0 2 = 0xFFFF → s.msh.queues.length = 3 → ∃ o,
        t.queue (leAt r.params 2 1) = s.queue (leAt r.params 2 1) ++ [o] ∧ o.kind = .host i ∧ o.cls = leAt r.params 2 1 ∧
        o.dst = (if s.role = roleKEEPER then 0xFFFF else 0) ∧ o.tries = 0 ∧ o.fcnt = none ∧
        (∀ c, c ≠ leAt r.params 2 1 → t.queue c = s.queue c) ∧ t.msh = { s.msh with queues := t.msh.queues }) ∧
      (p.1 = opRADIO_TX → s.macMode = 0 → s.role = roleKEEPER → leAt r.params 0 2 ≠ 0xFFFF → ∃ o e,
        s.assoc (leAt r.params 0 2 - 1) = some e ∧ t.assoc (leAt r.params 0 2 - 1) = some { e with down := some o } ∧ o.kind = .host i ∧
        o.dst = leAt r.params 0 2 ∧ (∀ j, j ≠ leAt r.params 0 2 - 1 → t.assoc j = s.assoc j) ∧ t.msh.queues = s.msh.queues)

/-- The deadline of an operation that has not started completes it CANCELLED with the upper cause DEADLINE. That of a RADIO_TX, started or not, ends what
the radio does for it, takes its frame out of the queues and the downlinks, and completes it with the lower cause of its attempts. A started SHOT that
is in capture and a started CONVERT go on to their next abort point, a SHOT that waits for its records, a RADIO_SCAN, and an NVM_WRITE, SCRUB,
STI_LOAD or LEDGER_COMMIT outside its facets end at once, the last without its commit, which runs on; a started SLINK_SET has no deadline (R47, R48,
R237, R306, R310, R351). No entry is in progress, or a preemption holds it. The model's choices here are log entries 83 and 183. -/
def Obligations.DeadlineCancels : Prop :=
  ∀ (n : Fin 16) (s : State), s.Up → (s.opE n).st = .active → (s.opE n).deadline ≠ 0 → s.rot.entry = none ∨ s.rot.fog = true →
    ((s.opE n).started = false → (s.opE n).type ≠ opRADIO_TX →
      ∃ t, exec (.operationDeadline n) s = .next t ∧ s.Completed t n Sts.CANCELLED upDEADLINE 0 ∧ s.RegsBut t [Reg.SYS_IRQ] ∧
        t = { s with regs := t.regs, hif := t.hif }) ∧
    ((s.opE n).type = opRADIO_TX →
      ∃ t, exec (.operationDeadline n) s = .next t ∧ s.Completed t n Sts.CANCELLED (upDEADLINE + 16 * s.txLower n) 0 ∧ t.ownOf n = none ∧
        t.rad.job = s.rad.job.filter (fun j => !s.txOf n j.why) ∧ t.rad.wait = s.rad.wait.filter (fun w => !s.txOf n w) ∧
        t.msh.await = s.msh.await.filter (fun w => !s.txOf n w) ∧ (∀ m, m ≠ n.val → t.ownOf m = s.ownOf m) ∧ s.RegsBut t [Reg.SYS_IRQ] ∧
        t = { s with regs := t.regs, hif := t.hif, rad := { s.rad with job := t.rad.job, wait := t.rad.wait, busy := t.rad.busy },
                     msh := { s.msh with queues := t.msh.queues, table := t.msh.table, cur := t.msh.cur, await := t.msh.await } }) ∧
    ((s.opE n).started = true → (s.opE n).type = opSHOT →
      (∀ h, s.afe.shot = some h → h.op = some n.val → ∃ t, exec (.operationDeadline n) s = .next t ∧ s.OnlyExpires t n) ∧
      ((∀ h, s.afe.shot = some h → h.op ≠ some n.val) →
        ∃ t, exec (.operationDeadline n) s = .next t ∧ s.Completed t n Sts.CANCELLED upDEADLINE 0 ∧ s.RegsBut t [Reg.SYS_IRQ] ∧
          t = { s with regs := t.regs, hif := t.hif, afe := { s.afe with hostShots := s.afe.hostShots.filter fun h => h.op != n.val } })) ∧
    ((s.opE n).started = true → (s.opE n).type = opCONVERT → ∃ t, exec (.operationDeadline n) s = .next t ∧ s.OnlyExpires t n) ∧
    ((s.opE n).started = true → (s.opE n).type = opSLINK_SET → exec (.operationDeadline n) s = .next s) ∧
    ((s.opE n).started = true → (s.opE n).type = opRADIO_SCAN →
      ∃ t, exec (.operationDeadline n) s = .next t ∧ s.Completed t n Sts.CANCELLED upDEADLINE 0 ∧ s.RegsBut t [Reg.SYS_IRQ] ∧
        t = { s with regs := t.regs, hif := t.hif, rad := { s.rad with scan := none, rx := none } }) ∧
    ((∀ j, (s.opE j).expiring = false) → (s.opE n).started = true →
      (∀ j, s.memu.nvm = some j → j.op = n.val → (s.opE n).type = opNVM_WRITE) →
      (∀ i d, s.memu.scrub = some (i, d) → i = n.val → (s.opE n).type = opSCRUB) →
      (∀ j, (s.opE n).type = opNVM_WRITE → s.memu.nvm = some j → j.op = n.val →
        ∃ t, exec (.operationDeadline n) s = .next t ∧ s.Completed t n Sts.CANCELLED (upDEADLINE + 16 * (s.opE n).lower) 0 ∧
          t.memu = { s.memu with nvm := none } ∧ s.RegsBut t [Reg.SYS_IRQ] ∧
          t = { s with regs := t.regs, mem := t.mem, memu := t.memu, hif := t.hif, free := t.free } ∧
          ∀ k, (∀ i, i < 128 → k ∉ symKeys (s.phys ((j.dst + 0x800 * j.done + 16 * i) / 16 * 16))) → t.byte k = s.byte k) ∧
      (∀ d, (s.opE n).type = opSCRUB → s.memu.scrub = some (n.val, d) → s.memu.scrubDom = none →
        ∃ t, exec (.operationDeadline n) s = .next t ∧ s.Completed t n Sts.CANCELLED upDEADLINE 0 ∧ s.RegsBut t [Reg.SYS_IRQ] ∧
          t = { s with regs := t.regs, hif := t.hif, memu := { s.memu with scrub := none } }) ∧
      ((s.opE n).type = opSTI_LOAD → s.loadingOp = some n.val →
        ∃ t, exec (.operationDeadline n) s = .next t ∧ s.Completed t n Sts.CANCELLED upDEADLINE 0 ∧ t.fget F.STI_STATUS_LOAD = 0 ∧
          s.RegsBut t [Reg.SYS_IRQ, Reg.STI_STATUS] ∧ t = { s with regs := t.regs, hif := t.hif }) ∧
      ∀ c, (s.opE n).type = opLEDGER_COMMIT → s.ldg.commit = some c → c.op = some n.val →
        ∃ t, exec (.operationDeadline n) s = .next t ∧ s.Completed t n Sts.CANCELLED upDEADLINE 0 ∧ s.RegsBut t [Reg.SYS_IRQ] ∧
          t = { s with regs := t.regs, hif := t.hif, ldg := { s.ldg with commit := some { c with op := none } } })

/-! Register words -/

/-- A REGISTER_WRITE of a register of any region that is not RWP and whose words do nothing of their own does to every bit what its access type says
(R19), is answered DONE, and changes no other register; a word that is locked is answered LOCKED and changes nothing. HIF_CFG is written so too, and
sets the SYNC pin to its new mode. A register of an absent part takes no write, and an address without a register is answered BAD_ADDR (R4, R17, R295,
R311). The model's choices here are log entries 14 and 196. -/
def Obligations.RegisterWriteByAccess : Prop :=
  ∀ (addr : BitVec 24) (v : Word) (s : State), s.Up →
    (∀ r, findReg addr.toNat = some r → r.rwp = false → addr.toNat % 0x10000 ≠ 0x7FC → addr.toNat ∉ actionRegs → s.absentReg addr.toNat = false →
      (s.wordLocked addr.toNat v.toNat = false →
        ∃ t, exec (.registerWrite addr v) s = .next t ∧ t.Replied Sts.DONE ∧ s.OnlyRegs t [addr.toNat] ∧ s.BitsByAccess t addr.toNat r v) ∧
      (s.wordLocked addr.toNat v.toNat = true →
        ∃ t, exec (.registerWrite addr v) s = .next t ∧ t.Replied Sts.LOCKED ∧ s.OnlyRegs t [])) ∧
    (∀ r, addr.toNat = Reg.HIF_CFG → findReg addr.toNat = some r →
      ∃ t, exec (.registerWrite addr v) s = .next t ∧ t.Replied Sts.DONE ∧ s.BitsByAccess t addr.toNat r v ∧ s.RegsBut t [Reg.HIF_CFG] ∧
        t = { s with regs := t.regs, hif := { s.hif with resp := t.hif.resp, sync := t.hif.sync, syncEdges := t.hif.syncEdges } } ∧
        (v.toNat % 4 = s.fget F.HIF_CFG_SYNC_MODE → t.hif.sync = s.hif.sync ∧ t.hif.syncEdges = s.hif.syncEdges)) ∧
    ((findReg addr.toNat).isSome = true → s.absentReg addr.toNat = true →
      ∃ t, exec (.registerWrite addr v) s = .next t ∧ t.Replied Sts.DONE ∧ s.OnlyRegs t []) ∧
    (addr.toNat < 0x100000 → addr.toNat % 4 = 0 → s.regAt addr.toNat = false →
      ∃ t, exec (.registerWrite addr v) s = .next t ∧ t.Replied Sts.BAD_ADDR ∧ s.OnlyRegs t [])

/-- A write to an RWP register by its active or its pending offset sets only the pending copy, which reads back its writable bits; a metrological one in
SEALED is answered LOCKED and nothing changes (R20, R92, R94). COMMIT.REQ reads 1; DISCARD clears it and gives every pending copy of the block its
active value (R92). The model's choice here is log entry 14. -/
def Obligations.PendingAndCommitWords : Prop :=
  (∀ (a : Nat) (x : BitVec 24) (v : Word) (r : RegRow) (s : State), s.Up → findReg a = some r → r.rwp = true → s.absentReg a = false →
    (x.toNat = a ∨ x.toNat = a + 0x800) →
    (¬ (s.life = lcSEALED ∧ isMetro a = true) →
      ∃ t, exec (.pendingWrite x v) s = .next t ∧ t.Replied Sts.DONE ∧ s.OnlyRegs t [a + 0x800] ∧ t.reg (a + 0x800) = v &&& BitVec.ofNat 32 r.rw) ∧
    (s.life = lcSEALED → isMetro a = true →
      ∃ t, exec (.pendingWrite x v) s = .next t ∧ t.Replied Sts.LOCKED ∧ s.OnlyRegs t [])) ∧
  (∀ (b : CommitBlock) (s : State), s.Up → s.absentReg (commitReg b) = false →
    (∃ t, exec (.commitReq b) s = .next t ∧ t.Replied Sts.DONE ∧ s.OnlyRegs t [commitReg b] ∧ t.fget (commitReqF b) = 1 ∧
      t.fget (commitSeqF b) = s.fget (commitSeqF b)) ∧
    ∃ t, exec (.commitDiscard b) s = .next t ∧ t.Replied Sts.DONE ∧ t.fget (commitReqF b) = 0 ∧
      s.OnlyRegs t (commitReg b :: (rwpAddrs (commitRegion b)).map (· + 0x800)) ∧
      ∀ a ∈ rwpAddrs (commitRegion b), t.reg (a + 0x800) = s.reg a)

/-- A read of W0 of an accumulator shows all of its 96 bits and its wrap count in its four words and returns the lowest; the accumulator stays (R216,
R217). A read of FLW_STATUS or of TMU_STATUS returns it and shows the live results of the unit in its registers, of one rotation (R183, R203). The
model's choice here is log entry 14. -/
def Obligations.SnapshotsShow : Prop :=
  (∀ (a : Fin 17) (s : State), s.Up → s.absentReg (Reg.LDG_ACC_W0 a) = false →
    ∃ t, exec (.accumulatorSnapshot a) s = .next t ∧ t.RepliedWord ((s.acc a).v % 2 ^ 32) ∧
      s.OnlyRegs t [Reg.LDG_ACC_W0 a, Reg.LDG_ACC_W1 a, Reg.LDG_ACC_W2 a, Reg.LDG_ACC_W3 a] ∧
      t.regN (Reg.LDG_ACC_W0 a) + t.regN (Reg.LDG_ACC_W1 a) * 2 ^ 32 + t.regN (Reg.LDG_ACC_W2 a) * 2 ^ 64 = (s.acc a).v % 2 ^ 96 ∧
      t.regN (Reg.LDG_ACC_W3 a) = (s.acc a).wrap % 256 * 2 ^ 24) ∧
  ((∀ s : State, s.Up → ∃ t, exec .flwStatusSnapshot s = .next t ∧ t.RepliedWord (s.regN Reg.FLW_STATUS) ∧
    s.OnlyRegs t [Reg.FLW_ROT, Reg.FLW_Q_LO, Reg.FLW_Q_HI, Reg.FLW_VM, Reg.FLW_RE, Reg.FLW_K, Reg.FLW_SOS, Reg.FLW_H2] ∧
    t.regN Reg.FLW_Q_LO + t.regN Reg.FLW_Q_HI * 2 ^ 32 = unsigned 64 s.flw.live.q ∧ t.reg Reg.FLW_ROT = BitVec.ofNat 32 s.flw.live.rot ∧
    t.reg Reg.FLW_VM = BitVec.ofInt 32 s.flw.live.vm ∧ t.reg Reg.FLW_K = BitVec.ofNat 32 s.flw.live.k) ∧
  ∀ s : State, s.Up → ∃ t, exec .tmuStatusSnapshot s = .next t ∧ t.RepliedWord (s.regN Reg.TMU_STATUS) ∧
    s.OnlyRegs t ([Reg.TMU_STATE, Reg.TMU_VALID, Reg.TMU_DT, Reg.TMU_DT_AT, Reg.TMU_P, Reg.TMU_U, Reg.TMU_ROT] ++
      (List.range 4).flatMap fun i => [Reg.TMU_T i, Reg.TMU_R i]) ∧
    (∀ i, i < 4 → t.reg (Reg.TMU_T i) = BitVec.ofInt 32 ((s.tmu.t.getD i none).getD 0) ∧
      t.reg (Reg.TMU_R i) = BitVec.ofNat 32 (s.tmu.r.getD i 0)) ∧
    t.reg Reg.TMU_ROT = BitVec.ofNat 32 s.tmu.rot ∧ t.reg Reg.TMU_DT = BitVec.ofInt 32 (s.tmu.dt.getD 0))

/-- A read of COUNT of a statistics unit returns its counts and shows its results, zero while no value was taken; the unit stays (R139, R140). GO starts a
run: the source and N are set, the unit is zeroed and runs, and ABORT, SAT and the count of excluded values are 0. STOP sets the source and N, stops a
running unit and keeps its values; a run keeps the source and N that it was started with (R138). The model's choices here are log entries 14 and 112.
-/
def Obligations.StatisticsCommands : Prop :=
  (∀ (c : Fin 22) (s : State), s.Up → s.absentReg (Reg.TIU_ST_COUNT c) = false →
    ∃ t, exec (.statisticsSnapshot c) s = .next t ∧ t.RepliedWord ((s.stat c).n + s.fget (F.TIU_ST_COUNT_EXCL c) * 2 ^ 16) ∧
      s.OnlyRegs t [Reg.TIU_ST_MEAN_LO c, Reg.TIU_ST_MEAN_HI c, Reg.TIU_ST_SDEV c, Reg.TIU_ST_MIN c, Reg.TIU_ST_MAX c, Reg.TIU_ST_CFG c] ∧
      ((s.stat c).n = 0 → t.reg (Reg.TIU_ST_MEAN_LO c) = 0 ∧ t.reg (Reg.TIU_ST_MEAN_HI c) = 0 ∧ t.reg (Reg.TIU_ST_SDEV c) = 0 ∧
        t.reg (Reg.TIU_ST_MIN c) = 0 ∧ t.reg (Reg.TIU_ST_MAX c) = 0) ∧
      ((s.stat c).n ≠ 0 → t.reg (Reg.TIU_ST_MIN c) = BitVec.ofInt 32 (s.stat c).least ∧
        t.reg (Reg.TIU_ST_MAX c) = BitVec.ofInt 32 (s.stat c).greatest ∧
        t.regN (Reg.TIU_ST_MEAN_LO c) + t.regN (Reg.TIU_ST_MEAN_HI c) * 2 ^ 32 = unsigned 48 (roundHalfUp (65536 * (s.stat c).s1) (s.stat c).n))) ∧
  ((∀ (c : Fin 22) (v : Word) (s : State), s.Up → s.absentReg (Reg.TIU_ST_CFG c) = false → s.tiu.stat.length = 22 →
    ∃ t, exec (.statisticsGo c v) s = .next t ∧ t.Replied Sts.DONE ∧ t.stat c = { src := v.toNat % 4, want := v.toNat / 2 ^ 16 } ∧
      s.RegsBut t [Reg.TIU_ST_CFG c, Reg.TIU_ST_COUNT c] ∧
      t.fget (F.TIU_ST_CFG_STATE c) = 1 ∧ t.fget (F.TIU_ST_CFG_SRC c) = v.toNat % 4 ∧ t.fget (F.TIU_ST_CFG_N c) = v.toNat / 2 ^ 16 ∧
      t.fget (F.TIU_ST_CFG_ABORT c) = 0 ∧ t.fget (F.TIU_ST_CFG_SAT c) = 0 ∧ t.reg (Reg.TIU_ST_COUNT c) = 0 ∧
      (∀ d, d ≠ c.val → t.stat d = s.stat d) ∧ t.mem = s.mem) ∧
  ∀ (c : Fin 22) (v : Word) (s : State), s.Up → s.absentReg (Reg.TIU_ST_CFG c) = false →
    ∃ t, exec (.statisticsStop c v) s = .next t ∧ t.Replied Sts.DONE ∧ s.OnlyRegs t [Reg.TIU_ST_CFG c] ∧
      t.fget (F.TIU_ST_CFG_STATE c) = (if s.fget (F.TIU_ST_CFG_STATE c) = 1 then 0 else s.fget (F.TIU_ST_CFG_STATE c)) ∧
      t.fget (F.TIU_ST_CFG_SRC c) = v.toNat % 4 ∧ t.fget (F.TIU_ST_CFG_N c) = v.toNat / 2 ^ 16)

/-- An arm of an idle channel with a valid configuration: it and, for INTERVAL, its start channel become ARMED with empty queues, nothing that waits for a
partner and no results, the TIU domain is held and is ON or waking (R134 to R136). A disarm of a channel that serves no other: it and the start
channel of its run are IDLE and keep their queued results, no other channel changes state, and the TIU is held while another is armed or running
(R135, R136). The model's choices here are log entries 14 and 139. -/
def Obligations.EventChannelCommands : Prop :=
  (∀ (e : Fin 6) (s : State), s.Up → e.val ≠ 4 → s.evState e ≠ evARMED → s.evState e ≠ evRUN → s.evValid e = true →
    ∃ t, exec (.eventChannelArm e) s = .next t ∧ t.Replied Sts.DONE ∧ t.evState e = evARMED ∧ (t.evc e).queue = [] ∧
      (t.evc e).wait = [] ∧ t.fget (F.TIU_EV_FLG_RESULTS e) = 0 ∧ t.fget (F.TIU_EV_FLG_LEVEL e) = 0 ∧ t.fget F.TIU_STATUS_HELD = 1 ∧ t.pwr.devHold.testBit domTIU = true ∧
      (s.evMode e = 2 → s.tiu.ev.length = 6 → t.evState (s.evStart e) = evARMED ∧ (t.evc (s.evStart e)).serves = some e.val ∧
        (t.evc (s.evStart e)).queue = [] ∧ (t.evc (s.evStart e)).wait = [] ∧ t.fget (F.TIU_EV_FLG_RESULTS (s.evStart e)) = 0 ∧
        t.fget (F.TIU_EV_FLG_LEVEL (s.evStart e)) = 0) ∧
      (t.isOn domTIU = true ∨ (t.wakeOfDom domTIU).isSome = true) ∧
      t.mem = s.mem ∧ t.hif.ops = s.hif.ops ∧ t.ldg = s.ldg) ∧
  (∀ (e : Fin 6) (s : State), s.Up → e.val ≠ 4 → (s.evc e).serves = none →
    ∃ t, exec (.eventChannelDisarm e) s = .next t ∧ t.Replied Sts.DONE ∧ t.evState e = evIDLE ∧ t.tiu = s.tiu ∧
      (∀ x, x < 6 → x ≠ e.val → t.evState x = if (s.evc x).serves = some e.val then evIDLE else s.evState x) ∧
      t.fget F.TIU_STATUS_HELD = b2n ((List.range 6).any fun d => t.evState d == evARMED || t.evState d == evRUN) ∧
      t.pwr.devHold.testBit domTIU = ((List.range 6).any fun d => t.evState d == evARMED || t.evState d == evRUN) ∧
      s.RegsBut t (Reg.TIU_EV_FLG e :: Reg.TIU_STATUS :: (s.evServers e).map Reg.TIU_EV_FLG) ∧ t.mem = s.mem)

/-- A read of VAL takes the head of the result queue: its value is returned, LEVEL shows what is left, and COARSE_OVF, UNRESOLVED and ORDER are those of
the new head; an empty queue reads zero and nothing changes (R132). With host echo a release makes the FULL slots of its mask FREE and leaves every
other slot (R121). The model's choice here is log entry 14. -/
def Obligations.HeadTakenAndSlotFreed : Prop :=
  (∀ (e : Fin 6) (s : State), s.Up → e.val ≠ 4 →
    ((s.evc e).queue = [] → ∃ t, exec (.resultQueueRead e) s = .next t ∧ t.RepliedWord 0 ∧ s.OnlyRegs t []) ∧
    ∀ (r : EvResult) (q : List EvResult), (s.evc e).queue = r :: q → q.length < 16 →
      ∃ t, exec (.resultQueueRead e) s = .next t ∧ t.RepliedWord r.value ∧ t.evc e = { s.evc e with queue := q } ∧
        t.fget (F.TIU_EV_FLG_LEVEL e) = q.length ∧ t.fget (F.TIU_EV_FLG_COARSE_OVF e) = (q.head?.map (·.flags)).getD 0 % 2 ∧
        t.fget (F.TIU_EV_FLG_UNRESOLVED e) = (q.head?.map (·.flags)).getD 0 / 2 % 2 ∧
        t.fget (F.TIU_EV_FLG_ORDER e) = (q.head?.map (·.flags)).getD 0 / 4 % 2 ∧ t.evState e = s.evState e ∧ s.RegsBut t [(F.TIU_EV_FLG_LEVEL e).reg] ∧
        (∀ d, d ≠ e.val → t.evc d = s.evc d) ∧ t.mem = s.mem) ∧
  (∀ (mask : BitVec 16) (s : State), s.Up → s.hostEcho = true →
    ∃ t, exec (.slotRelease mask) s = .next t ∧ t.Replied Sts.DONE ∧
      s.OnlyRegs t (Reg.AFE_SLOT_MAP :: (List.range 16).map Reg.AFE_SLOT_CTL) ∧
      ∀ k, k < 16 → t.slotState k = (if mask.getLsbD k ∧ s.slotState k = slotFULL then slotFREE else s.slotState k) ∧
        (mask.getLsbD k = true → s.slotState k = slotFULL → t.ftest F.AFE_SLOT_MAP_BUSY k = false))

/-- With on-chip echo a reseed forgets the previous pair of the chords of its mask, and an amplitude reset their averages; with host echo both are
answered LOCKED (R33, R159, R160). With on-chip flow UNFAIL clears the counters of a FAILED chord and makes it HEALTHY from the next step, unless its
cause is its geometry, and RATIO_RESET empties its ratio ring; with host flow both are answered LOCKED (R33, R181, R182). With host echo EMPTY sets
the flag, raises EMPTY and FOG and queues a fog event, or keeps it for the end of recovery; REFILL clears EMPTY and sets REFILL (R74, R169, R310). The
model's choices here are log entries 14, 65, 113 and 162. -/
def Obligations.EchoAndFlowWords : Prop :=
  ((∀ (mask : Byte) (s : State), s.Up → s.hostEcho = false →
    (∃ t, exec (.reseed mask) s = .next t ∧ t.Replied Sts.DONE ∧ (∀ n, n < s.chords → mask.getLsbD n = true →
        (t.echc n).prev = none ∧ t.fget (F.ECH_CHST_SEEDED n) = 0 ∧ t.fget (F.ECH_CHST_REJ n) = 0) ∧
      (∀ n, n < 8 → mask.getLsbD n = false → t.echc n = s.echc n) ∧ s.RegsBut t ((List.range 8).map Reg.ECH_CHST) ∧ t.mem = s.mem) ∧
    ∃ t, exec (.ampReset mask) s = .next t ∧ t.Replied Sts.DONE ∧ (∀ n, n < s.chords → mask.getLsbD n = true →
        (t.echc n).avgUp = none ∧ (t.echc n).avgDn = none ∧ t.fget (F.ECH_AVG_UP n) = 0x8000 ∧ t.fget (F.ECH_AVG_DN n) = 0x8000) ∧
      (∀ n, n < 8 → mask.getLsbD n = false → t.echc n = s.echc n) ∧ t.mem = s.mem) ∧
  ∀ (mask : Byte) (s : State), s.Up → s.hostEcho = true →
    (∃ t, exec (.reseed mask) s = .next t ∧ t.Replied Sts.LOCKED ∧ s.OnlyRegs t []) ∧
    ∃ t, exec (.ampReset mask) s = .next t ∧ t.Replied Sts.LOCKED ∧ s.OnlyRegs t []) ∧
  ((∀ (mask : Byte) (s : State), s.Up → s.hostFlow = false →
    (∃ t, exec (.unfail mask) s = .next t ∧ t.Replied Sts.DONE ∧ (∀ n, n < s.chords → mask.getLsbD n = true →
        (s.chordState n = chFAILED → s.chordCause n ≠ fcGEOM →
          t.fget (F.FLW_CHST_RUN n) = 0 ∧ t.fget (F.FLW_CHST_OK n) = 0 ∧ t.applyUnfail.chordState n = chHEALTHY) ∧
        (s.chordState n = chFAILED → s.chordCause n = fcGEOM → t.reg (Reg.FLW_CHST n) = s.reg (Reg.FLW_CHST n) ∧
          t.applyUnfail.chordState n = chFAILED)) ∧
      (∀ n, n < 8 → mask.getLsbD n = false → t.reg (Reg.FLW_CHST n) = s.reg (Reg.FLW_CHST n)) ∧
      t = { s with regs := t.regs, hif := { s.hif with resp := t.hif.resp }, flw := { s.flw with unfail := t.flw.unfail } } ∧
      s.RegsBut t ((List.range 8).map Reg.FLW_CHST) ∧ (∀ n, t.chordState n = s.chordState n)) ∧
    ∃ t, exec (.ratioReset mask) s = .next t ∧ t.Replied Sts.DONE ∧ (∀ n, n < s.chords → mask.getLsbD n = true →
        t.flw.rings.getD n [] = [] ∧ t.fget (F.FLW_CHST_CNT n) = 0 ∧ t.reg (Reg.FLW_RATIO n) = 0) ∧
      (∀ n, n < 8 → mask.getLsbD n = false → t.flw.rings.getD n [] = s.flw.rings.getD n []) ∧
      s.RegsBut t ((List.range 8).flatMap fun n => [Reg.FLW_CHST n, Reg.FLW_RATIO n]) ∧ t.mem = s.mem) ∧
  ∀ (mask : Byte) (s : State), s.Up → s.hostFlow = true →
    (∃ t, exec (.unfail mask) s = .next t ∧ t.Replied Sts.LOCKED ∧ s.OnlyRegs t []) ∧
    ∃ t, exec (.ratioReset mask) s = .next t ∧ t.Replied Sts.LOCKED ∧ s.OnlyRegs t []) ∧
  (∀ s : State, s.Up → s.hostEcho = true →
    (∃ t, exec .hostEmpty s = .next t ∧ t.Replied Sts.DONE ∧ t.fget F.ECH_STATUS_EMPTY = 1 ∧ t.fget F.SYS_IRQ_EMPTY = 1 ∧ t.fget F.SYS_IRQ_FOG = 1 ∧
      s.RegsBut t [Reg.ECH_STATUS, Reg.SYS_IRQ] ∧
      (s.recovering = false → t.msh = { s.msh with events := s.msh.events ++ [⟨fogEMPTY, s.regN Reg.ROT_NUM, []⟩] }) ∧
      (s.recovering = true → t.msh = { s.msh with held := s.msh.held ++ [⟨fogEMPTY, s.regN Reg.ROT_NUM, []⟩] }) ∧ t.mem = s.mem) ∧
    ∃ t, exec .hostRefill s = .next t ∧ t.Replied Sts.DONE ∧ t.fget F.ECH_STATUS_EMPTY = 0 ∧ t.fget F.ECH_STATUS_REFILL = 1 ∧
      s.OnlyRegs t [Reg.ECH_STATUS])

/-- A clear of the ledger is accepted only before SEALED and then waits for the next mark; no accumulator changes by the write. HOSTINC GO reads 1 with
host flow, and is answered LOCKED without it (R33, R219, R230). At S3 of a mark a clear that waits zeroes every accumulator and backlog and shows
CLEARED, in place of a step. A step without a previous shot instant adds the rotation to OPTIME only, after a power-fail warning the time since it to
OPTIME and ERRTIME. A step of hardware flow that ends in a VALID endpoint adds the rotation to OPTIME, the volumes between its endpoints to FVOL and
RVOL, and for a substituted one to SVOL; without the temperatures it adds no heat and counts the rotation as error time, with them the heat of the
forward volume above DTMIN. A host increment set that GO gave is sampled and booked at the mark in the accumulators that the kind of the ledger feeds;
without one the rotation is error time (R219 to R225, R227, R228, R230, R235). The model's choices here are log entries 14 and 41. -/
def Obligations.LedgerWordsAndStep : Prop :=
  (∀ (temp : BitVec 16) (s : State), s.Up → s.ldg.clearReq = true → s.ldg.storeErr = [] →
    ∃ t, exec (.mark temp none) s = .next t ∧ t.ldg.acc = List.replicate 17 {} ∧ t.ldg.clearReq = false ∧ t.ldg.prev = none ∧
      t.fget F.LDG_EVT_CLEARED = 1 ∧ (∀ p, p < 2 → t.fget (F.LDG_PULSE_ST_BACKLOG p) = 0) ∧ t.fget F.ROT_MARK_RPT_LSTEP = 0) ∧
  (∀ (temp : BitVec 16) (s : State), s.Up → s.StepDue → s.hostFlow = false → s.ldg.prevShot = false →
    ∃ t, exec (.mark temp none) s = .next t ∧ t.fget F.ROT_MARK_RPT_LSTEP = 1 ∧ t.regN Reg.LDG_ROT = s.regN Reg.ROT_NUM ∧
      t.fget F.LDG_LASTSTEP_NO_PREV = 1 ∧ t.fget F.LDG_LASTSTEP_INTEGRATED = 0 ∧
      (∀ a, a ≠ acOPTIME → a ≠ acERRTIME → t.acc a = s.acc a) ∧
      (s.ldg.afterPf = false → s.Takes t acOPTIME (s.durNs * 2 ^ 32) ∧ t.acc acERRTIME = s.acc acERRTIME) ∧
      (s.ldg.afterPf = true → s.Takes t acOPTIME (s.pfStepNs (s.rot.len * lftUnits) * 2 ^ 32) ∧
        s.Takes t acERRTIME (s.pfStepNs (s.rot.len * lftUnits) * 2 ^ 32) ∧ t.fget F.LDG_LASTSTEP_ERROR = 1)) ∧
  (∀ (temp : BitVec 16) (b : Endpoint) (s : State), s.Up → s.StepDue → s.hostFlow = false → s.ldg.prevShot = true → s.lens = lsRUN →
    s.flowEndpoint = some b →
    ∃ t, exec (.mark temp none) s = .next t ∧ t.fget F.LDG_LASTSTEP_INTEGRATED = 1 ∧ t.fget F.LDG_LASTSTEP_E_FLOW = 0 ∧
      s.Takes t acOPTIME (s.durNs * 2 ^ 32) ∧
      s.Takes t acFVOL (parts (volumes (s.ldg.prev.getD b).q b.q s.durNs).1) ∧ s.Takes t acRVOL (parts (volumes (s.ldg.prev.getD b).q b.q s.durNs).2.1) ∧
      ((s.ldg.prev.getD b).subst || b.subst) = decide (t.fget F.LDG_LASTSTEP_SUBST = 1) ∧
      (((s.ldg.prev.getD b).subst || b.subst) = true →
        s.Takes t acSVOL (parts ((volumes (s.ldg.prev.getD b).q b.q s.durNs).1 + (volumes (s.ldg.prev.getD b).q b.q s.durNs).2.1))) ∧
      (((s.ldg.prev.getD b).subst || b.subst) = false → t.acc acSVOL = s.acc acSVOL) ∧
      (s.ledgerKind ≠ 4 → s.tempOk = false → t.fget F.LDG_LASTSTEP_E_TEMP = 1 ∧ t.fget F.LDG_LASTSTEP_ERROR = 1 ∧
        s.Takes t acERRTIME (s.durNs * 2 ^ 32) ∧ t.acc acHEAT = s.acc acHEAT ∧ t.acc acCOOL = s.acc acCOOL) ∧
      (s.ledgerKind = 1 ∨ s.ledgerKind = 3 → s.tempOk = true → s.energyPoison = false → (s.fget F.LDG_HC_DTMIN : Int) < s.tmu.dt.getD 0 →
        s.Takes t acHEAT (parts ((heatCoef s.flowPos (s.fget F.LDG_HC_PRESS) ((s.flowTemp).getD 0) (s.tmu.dt.getD 0) : Rat) *
          (volumes (s.ldg.prev.getD b).q b.q s.durNs).1 * ((s.tmu.dt.getD 0).natAbs : Rat) / ((10 ^ 13 : Nat) : Rat))) ∧
        t.acc acCOOL = s.acc acCOOL ∧ t.acc acERRTIME = s.acc acERRTIME)) ∧
  (∀ (temp : BitVec 16) (s : State), s.Up → s.StepDue → s.hostFlow = true → s.ldg.prevShot = true →
    ∃ t, exec (.mark temp none) s = .next t ∧ t.fget F.LDG_HOSTINC_GO_GO = 0 ∧ s.Takes t acOPTIME (s.durNs * 2 ^ 32) ∧
      (s.fget F.LDG_HOSTINC_GO_GO = 1 → t.fget F.LDG_LASTSTEP_INTEGRATED = 1 ∧
        (s.fget F.LDG_HOSTINC_FLAGS_ERR = 1 → t.fget F.LDG_LASTSTEP_E_HOST = 1 ∧ s.Takes t acERRTIME (s.durNs * 2 ^ 32)) ∧
        ∀ i, i < 7 →
          (s.feeds (hostAcc i) = true →
            s.Takes t (hostAcc i) ((s.regN (Reg.LDG_HOSTINC_W (2 * i)) + s.regN (Reg.LDG_HOSTINC_W (2 * i + 1)) * 2 ^ 32) * 2 ^ 32)) ∧
          (s.feeds (hostAcc i) = false → t.acc (hostAcc i) = s.acc (hostAcc i) ∧
            (s.regN (Reg.LDG_HOSTINC_W (2 * i)) ≠ 0 → t.fget F.LDG_EVT_HOSTIGN = 1))) ∧
      (s.fget F.LDG_HOSTINC_GO_GO = 0 → t.fget F.LDG_EVT_NOSET = 1 ∧ t.fget F.LDG_LASTSTEP_E_HOST = 1 ∧
        s.Takes t acERRTIME (s.durNs * 2 ^ 32) ∧ ∀ a, a < 7 → t.acc a = s.acc a)) ∧
  (∀ (v : Word) (s : State), s.Up → v.getLsbD 0 = true →
    (s.life < lcSEALED → ∃ t, exec (.clearLedger v) s = .next t ∧ t.Replied Sts.DONE ∧
      t = { s with hif := { s.hif with resp := t.hif.resp }, ldg := { s.ldg with clearReq := true } }) ∧
    (lcSEALED ≤ s.life → ∃ t, exec (.clearLedger v) s = .next t ∧ t.Replied Sts.LOCKED ∧ s.OnlyRegs t [])) ∧
  ∀ s : State, s.Up →
    (s.hostFlow = true → ∃ t, exec .hostincGo s = .next t ∧ t.Replied Sts.DONE ∧ t.fget F.LDG_HOSTINC_GO_GO = 1 ∧ s.OnlyRegs t [Reg.LDG_HOSTINC_GO]) ∧
    (s.hostFlow = false → ∃ t, exec .hostincGo s = .next t ∧ t.Replied Sts.LOCKED ∧ s.OnlyRegs t [])

/-! Radio and mesh words -/

/-- RXREL frees the entries of its mask and leaves the others. JOIN lets a buoy count again and, in OFF or SCAN, asks it to join; REPORT asks the MAC that
builds reports for one; both leave everything else. FOG_GO raises FOG and queues the host's alarm, or keeps it for the end of recovery (R74, R255,
R276, R279, R280). An entry in progress may serve them at once, so none is, or a preemption holds it. LEAVE brings a running buoy to SCAN with no
short address and no cell key, suspends AUTOJOIN, and queues one LEAVE frame under the old address where the buoy was associated (R276). The model's
choices here are log entries 14, 65 and 108. -/
def Obligations.MeshWords : Prop :=
  ((∀ (mask : BitVec 4) (s : State), s.Up → s.hasRadio = true →
    ∃ t, exec (.rxrel mask) s = .next t ∧ t.Replied Sts.DONE ∧ s.OnlyRegs t ((List.range 4).map Reg.RAD_RXD) ∧
      ∀ q, q < 4 → (t.fbit (F.RAD_RXD_FULL q) = (s.fbit (F.RAD_RXD_FULL q) && !mask.getLsbD q)) ∧
        t.fget (F.RAD_RXD_LEN q) = s.fget (F.RAD_RXD_LEN q)) ∧
  (∀ s : State, s.Up → s.role = roleBUOY → s.rot.fog = true ∨ s.rot.entry = none →
    ∃ t, exec .join s = .next t ∧ t.Replied Sts.DONE ∧
      t = { s with hif := { s.hif with resp := t.hif.resp },
                   msh := { s.msh with suspended := false, joinReq := s.msh.joinReq || (s.mst == bsOFF || s.mst == bsSCAN) } }) ∧
  (∀ s : State, s.Up → s.hasRadio = true → s.rot.fog = true ∨ s.rot.entry = none →
    ∃ t, exec .report s = .next t ∧ t.Replied Sts.DONE ∧
      t = { s with hif := { s.hif with resp := t.hif.resp }, msh := { s.msh with reportReq := s.msh.reportReq || (s.isBuoy || s.isWmMac) } }) ∧
  ∀ s : State, s.Up → s.hasRadio = true →
    ∃ t, exec .fogGo s = .next t ∧ t.Replied Sts.DONE ∧ t.fget F.SYS_IRQ_FOG = 1 ∧ s.RegsBut t [Reg.SYS_IRQ] ∧ t.mem = s.mem ∧
      (t.msh = if s.recovering then
          { s.msh with held := s.msh.held ++ [⟨fogHOST, s.regN Reg.ROT_NUM, leBytes 4 (s.regN Reg.MSH_FOG_D0) ++ leBytes 4 (s.regN Reg.MSH_FOG_D1)⟩] }
        else
          { s.msh with events := s.msh.events ++ [⟨fogHOST, s.regN Reg.ROT_NUM, leBytes 4 (s.regN Reg.MSH_FOG_D0) ++ leBytes 4 (s.regN Reg.MSH_FOG_D1)⟩] })) ∧
  (∀ s : State, s.Up → s.isBuoy = true → s.rot.fog = true ∨ s.rot.entry = none → s.msh.queues.length = 3 →
    ∃ t, exec .leave s = .next t ∧ t.Replied Sts.DONE ∧ t.mst = bsSCAN ∧ t.fget F.MSH_SHORT_SHORT = 0xFFFE ∧ t.msh.cellKey = none ∧
      t.msh.suspended = true ∧ t.msh.joinReq = false ∧ s.RegsBut t [Reg.MSH_SHORT, Reg.MSH_STATUS, Reg.MSH_EVT, Reg.SYS_IRQ] ∧ t.mem = s.mem ∧
      (∀ c, c ≠ 0 → t.queue c = s.queue c) ∧
      t.queue 0 = s.queue 0 ++ (if (s.mst = bsASSOC ∨ s.mst = bsDARK) ∧ (s.queue 0).length < 4 then
        [{ kind := .leave, type := tyLEAVE, cls := 0, dst := 0, body := leBytes 4 (s.regN Reg.MSH_ADDR), src := some (s.fget F.MSH_SHORT_SHORT) }]
        else []))

/-- The provisioning commands of a running keeper on an entry of its table: WRITE makes an entry that is not ASSOC PROVISIONED with the key that slot 2
unwraps, wrapped anew, and reports a failed unwrap; DELETE makes an entry FREE; LOAD shows its state. An index or role that does not fit is refused. A
read of MSH_KEVT takes the head event (R275, R288). The model's choices here are log entries 14, 109, 124 and 180. -/
def Obligations.KeeperTable : Prop :=
  (∀ s : State, s.Up → s.hasKeeper = true → s.provOk = true → (∀ e, s.assoc (s.fget F.MSH_PROV_IDX_IDX) = some e → e.joined = false) →
    (∀ w k, s.upd.keys.getD 2 none = some w → unwrapKey w s.provWrap = some k →
      ∃ t, exec .provisionWrite s = .next t ∧ t.Replied Sts.DONE ∧ t.fget F.MSH_PROV_CTL_RES = prDONE ∧
        t.assoc (s.fget F.MSH_PROV_IDX_IDX) = some { long := s.regN Reg.MSH_PROV_LONG, key := wrapKey s.kek k } ∧
        (∀ j, j ≠ s.fget F.MSH_PROV_IDX_IDX → t.assoc j = s.assoc j) ∧ s.RegsBut t [Reg.MSH_PROV_CTL, Reg.MSH_STATUS] ∧ t.mem = s.mem) ∧
    (((s.upd.keys.getD 2 none).bind fun w => unwrapKey w s.provWrap) = none →
      ∃ t, exec .provisionWrite s = .next t ∧ t.Replied Sts.DONE ∧ t.fget F.MSH_PROV_CTL_RES = prUNWRAP ∧ s.OnlyRegs t [Reg.MSH_PROV_CTL]) ∧
    ((∀ e, s.assoc (s.fget F.MSH_PROV_IDX_IDX) = some e → e.down = none) →
      ∃ t, exec .provisionDelete s = .next t ∧ t.Replied Sts.DONE ∧ t.fget F.MSH_PROV_CTL_RES = prDONE ∧
        t.assoc (s.fget F.MSH_PROV_IDX_IDX) = none ∧ (∀ j, j ≠ s.fget F.MSH_PROV_IDX_IDX → t.assoc j = s.assoc j) ∧
        s.RegsBut t [Reg.MSH_PROV_CTL, Reg.MSH_STATUS] ∧ t.mem = s.mem)) ∧
  (∀ s : State, s.Up → s.hasKeeper = true → s.provOk = true →
    ∃ t, exec .provisionLoad s = .next t ∧ t.Replied Sts.DONE ∧ t.fget F.MSH_PROV_CTL_RES = prDONE ∧
      s.OnlyRegs t [Reg.MSH_PROV_CTL, Reg.MSH_PROV_LONG] ∧
      (t.fget F.MSH_PROV_CTL_STATE = match s.assoc (s.fget F.MSH_PROV_IDX_IDX) with | some e => (if e.joined then 2 else 1) | none => 0) ∧
      (∀ e, s.assoc (s.fget F.MSH_PROV_IDX_IDX) = some e →
        t.fget F.MSH_PROV_CTL_SUPV = e.supv % 2 ^ 16 ∧ t.fget F.MSH_PROV_LONG_LONG = e.long % 2 ^ 32)) ∧
  (∀ c ∈ [Instr.provisionWrite, .provisionDelete, .provisionLoad], ∀ s : State, s.Up → s.hasKeeper = true → s.provOk = false →
    ∃ t, exec c s = .next t ∧ t.Replied Sts.DONE ∧ t.fget F.MSH_PROV_CTL_RES = prREFUSED ∧ s.OnlyRegs t [Reg.MSH_PROV_CTL]) ∧
  ∀ s : State, s.Up → s.hasKeeper = true →
    (s.msh.kevts = [] → ∃ t, exec .keeperEventRead s = .next t ∧ t.RepliedWord 0 ∧ s.OnlyRegs t []) ∧
    ∀ kind short rest, s.msh.kevts = (kind, short) :: rest →
      ∃ t, exec .keeperEventRead s = .next t ∧ t.RepliedWord (short + kind * 2 ^ 16 + 2 ^ 31) ∧
        t = { s with hif := { s.hif with resp := t.hif.resp }, msh := { s.msh with kevts := rest } }

/-! Memory and power words -/

/-- ROW_RETIRE with a free spare row begins the copy and shows BUSY, else REFUSED; the end of the copy enters the row in MEM_REMAP and shows DONE.
PAGE_RETIRE enters the page in the list, or is refused; during an update it is answered LOCKED (R329, R330). The model's choices here are log entries
14, 111 and 156. -/
def Obligations.RowsAndPagesRetire : Prop :=
  (∀ (b : Fin 16) (r : Fin 32) (s : State), s.Up → b.val < s.banks → s.memu.rowCopy = none → s.rowSpare b r = none →
    (∀ u, s.freeRow b = some u → s.dom (domMEM b) ≠ pwOFF → s.Intact b →
      ∃ t, exec (.rowRetire b r) s = .next t ∧ t.Replied Sts.DONE ∧ t.memu = { s.memu with rowCopy := some (b.val, r.val, u) } ∧
        t.fget F.MEM_RETIRE_ST_ROWST = rtBUSY ∧ t.fget F.MEM_RETIRE_BANK = b ∧ t.fget F.MEM_RETIRE_ROW = r ∧
        s.RegsBut t [Reg.MEM_RETIRE, Reg.MEM_RETIRE_ST, Reg.PWR_WAKE_TRACE, Reg.PWR_WAKE_T0, Reg.PWR_WAKE_T1] ∧ t.mem = s.mem) ∧
    (s.freeRow b = none →
      ∃ t, exec (.rowRetire b r) s = .next t ∧ t.Replied Sts.DONE ∧ t.fget F.MEM_RETIRE_ST_ROWST = rtREFUSED ∧
        s.OnlyRegs t [Reg.MEM_RETIRE, Reg.MEM_RETIRE_ST])) ∧
  (∀ (b r u : Nat) (s : State), s.Up → s.memu.rowCopy = some (b, r, u) → b < 16 → r < 32 → u < 4 →
    ∃ t, exec .rowCopyDone s = .next t ∧ t.memu.rowCopy = none ∧ t.fget F.MEM_RETIRE_ST_ROWST = rtDONE ∧
      bitsOf (t.regN (Reg.MEM_REMAP b)) (8 * u) 6 = r + 32 ∧ (∀ c, c < 16 → c ≠ b → t.reg (Reg.MEM_REMAP c) = s.reg (Reg.MEM_REMAP c)) ∧
      t.hif = s.hif ∧ t.ldg = s.ldg) ∧
  ∀ (q : Fin 512) (s : State), s.Up →
    (s.updBusy = true → ∃ t, exec (.pageRetire q) s = .next t ∧ t.Replied Sts.LOCKED ∧ s.OnlyRegs t []) ∧
    (s.updBusy = false → s.inActiveSlot q = true ∨ 64 ≤ s.listUsed ∨ (s.pageSpare q).isSome = true →
      ∃ t, exec (.pageRetire q) s = .next t ∧ t.Replied Sts.DONE ∧ t.fget F.MEM_RETIRE_ST_PAGEST = rtREFUSED ∧
        s.OnlyRegs t [Reg.MEM_RETIRE, Reg.MEM_RETIRE_ST]) ∧
    (s.updBusy = false → s.inActiveSlot q = false → s.listUsed < 64 → s.pageSpare q = none →
      ∃ t, exec (.pageRetire q) s = .next t ∧ t.Replied Sts.DONE ∧ t.fget F.MEM_RETIRE_ST_PAGEST = rtDONE ∧
        t.fget (F.MEM_NVLIST_PAGE s.listUsed) = q ∧ t.fget (F.MEM_NVLIST_VALID s.listUsed) = 1 ∧
        t.fget F.MEM_RETIRE_ST_NVFREE = 63 - s.listUsed ∧
        s.OnlyRegs t [Reg.MEM_RETIRE, Reg.MEM_RETIRE_ST, Reg.MEM_NVLIST s.listUsed])

/-- FLIP_ARM arms its region unless that is not allowed, FLIP_DISARM clears the mask and ARM. A read of MEM_LOG_CTL shows the log's entries, CLEAR empties
it. A write of MEM_POLICY keeps the forced banks at C1D3 (R317, R324, R327). The model's choices here are log entries 14, 86 and 111. -/
def Obligations.FlipLogPolicy : Prop :=
  (∀ (g : Fin 32) (s : State), s.Up →
    (s.armLocked g = false → ∃ t, exec (.flipArm g) s = .next t ∧ t.Replied Sts.DONE ∧ t.fget F.MEM_FLIP_CTL_ARM = 1 ∧
      t.fget F.MEM_FLIP_CTL_REGION = g ∧ t.fget F.MEM_FLIP_CTL_ADDR = s.fget F.MEM_FLIP_CTL_ADDR ∧ s.OnlyRegs t [Reg.MEM_FLIP_CTL]) ∧
    (s.armLocked g = true → ∃ t, exec (.flipArm g) s = .next t ∧ t.Replied Sts.LOCKED ∧ s.OnlyRegs t [])) ∧
  (∀ (g : Fin 32) (s : State), s.Up →
    ∃ t, exec (.flipDisarm g) s = .next t ∧ t.Replied Sts.DONE ∧ t.fget F.MEM_FLIP_CTL_ARM = 0 ∧ t.fget F.MEM_FLIP_CTL_REGION = g ∧
      (∀ i, i < 5 → t.reg (Reg.MEM_FLIP i) = 0) ∧ s.OnlyRegs t (Reg.MEM_FLIP_CTL :: (List.range 5).map Reg.MEM_FLIP)) ∧
  (∀ s : State, s.Up →
    ∃ t, exec .logSnapshot s = .next t ∧ t.fget F.MEM_LOG_CTL_NEXT = s.memu.logNext % 32 ∧ t.fget F.MEM_LOG_CTL_VALID = s.memu.log.length % 64 ∧
      (∀ p, p < 32 →
        t.reg (Reg.MEM_LOG_INFO p) = BitVec.ofNat 32 (s.memu.log.getD ((s.memu.logNext + 31 - p) % 32) {}).info ∧
        t.reg (Reg.MEM_LOG_ROT p) = BitVec.ofNat 32 (s.memu.log.getD ((s.memu.logNext + 31 - p) % 32) {}).rot ∧
        t.fget (F.MEM_LOG_ADDR_ADDR p) = (s.memu.log.getD ((s.memu.logNext + 31 - p) % 32) {}).addr % 2 ^ 24) ∧
      s.OnlyRegs t (Reg.MEM_LOG_CTL :: (List.range 32).flatMap fun p => [Reg.MEM_LOG_ADDR p, Reg.MEM_LOG_INFO p, Reg.MEM_LOG_ROT p])) ∧
  (∀ s : State, s.Up → ∃ t, exec .logClear s = .next t ∧ t.Replied Sts.DONE ∧
    t = { s with hif := { s.hif with resp := t.hif.resp }, memu := { s.memu with log := [], logNext := 0 } }) ∧
  ∀ (v : Word) (s : State), s.Up →
    ∃ t, exec (.policyWrite v) s = .next t ∧ t.Replied Sts.DONE ∧ s.OnlyRegs t [Reg.MEM_POLICY] ∧
      t.fget F.MEM_POLICY_SLOTA = v.toNat / 2 ^ 16 % 2 ∧ t.fget F.MEM_POLICY_SLOTB = v.toNat / 2 ^ 17 % 2 ∧
      ∀ b, b < s.banks → t.ftest F.MEM_POLICY_BANK b = (v.getLsbD b || s.forcedStrict.testBit b)

/-- HOLD sets the holds it names and wakes their domains; one that names a domain that cannot be held is answered LOCKED (R344). A write of PWR_SLEEPSET
takes MASK and TARGET; GO arms the set, which under an active image waits, and without one is busy at once with no cost yet. While a set is armed or
runs the write is answered LOCKED. An armed set starts in an IDLE facet with 1,000 µs left, a busy one at once; one of a single domain that does not
refuse puts it to rest, releases its hold and shows its cost (R345); before its facet an armed set does nothing. The model's choices here are log
entries 14, 76, 174 and 189. -/
def Obligations.HoldAndSleepSets : Prop :=
  (∀ (v : Word) (s : State), s.Up →
    (s.holdLocked v.toNat = false → ∃ t, exec (.hold v) s = .next t ∧ t.Replied Sts.DONE ∧
      (∀ k, k < 27 → t.ftest F.PWR_HOLD_HOLD k = (s.ftest F.PWR_HOLD_HOLD k || v.getLsbD k)) ∧
      (∀ k, k < 27 → v.getLsbD k = true → t.isOn k = true ∨ (t.wakeOfDom k).isSome = true) ∧
      t.mem = s.mem ∧ t.hif.ops = s.hif.ops ∧ t.ldg = s.ldg ∧ t.tiu = s.tiu) ∧
    (s.holdLocked v.toNat = true → ∃ t, exec (.hold v) s = .next t ∧ t.Replied Sts.LOCKED ∧ s.OnlyRegs t [])) ∧
  ((∀ (v : Word) (s : State), s.Up → s.sleepLocked = false →
    ∃ t, exec (.sleepSet v) s = .next t ∧ t.Replied Sts.DONE ∧ t.fget F.PWR_SLEEPSET_MASK = v.toNat % 2 ^ 27 ∧
      t.fget F.PWR_SLEEPSET_TARGET = v.toNat / 2 ^ 27 % 2 ∧
      t.fget F.PWR_SLEEP_ST_STATE = (if v.getLsbD 28 then (if s.image = none then 2 else 1) else s.fget F.PWR_SLEEP_ST_STATE) ∧
      t.fget F.PWR_SLEEP_COST_US = (if v.getLsbD 28 then 0 else s.fget F.PWR_SLEEP_COST_US) ∧
      s.OnlyRegs t [Reg.PWR_SLEEPSET, Reg.PWR_SLEEP_ST, Reg.PWR_SLEEP_COST]) ∧
  (∀ (v : Word) (s : State), s.Up → s.sleepLocked = true → ∃ t, exec (.sleepSet v) s = .next t ∧ t.Replied Sts.LOCKED ∧ s.OnlyRegs t []) ∧
  (∀ (stop : Option Nat) (s : State), s.Up → s.sleepReady = false → exec (.sleepSetStart stop) s = .next s) ∧
  ∀ (k : Nat) (s : State), s.Up →
    (s.fget F.PWR_SLEEP_ST_STATE = 1 ∧ s.inKind kIDLE = true ∧ 1000 ≤ s.leftUs) ∨ s.fget F.PWR_SLEEP_ST_STATE = 2 → s.pwr.sleepWaits = false → k < 27 → s.fget F.PWR_SLEEPSET_MASK = 2 ^ k → s.fget F.PWR_SLEEPSET_TARGET = 0 → s.isOn k = true → s.sleepRefusal false k = 0 →
    ∃ t, exec (.sleepSetStart none) s = .next t ∧ t.dom k = (if k = domNVM then pwOFF else pwRETAIN) ∧ t.ftest F.PWR_HOLD_HOLD k = false ∧
      t.fget F.PWR_SLEEP_ST_STATE = 3 ∧ t.fget F.PWR_SLEEP_ST_STATUS = Sts.DONE ∧ t.fget F.PWR_SLEEP_COST_US = (if 11 ≤ k then 2 else 4) ∧
      t.hif = s.hif ∧ t.ldg = s.ldg)

/-! The clock -/

/-- Reads and writes of the clock: a read freezes the fields and answers from the shadows until RTC_YEAR is read, UNFREEZE or the timeout; a write of a
field is pending; a commit of a legal time sets it, SUBSEC to 0 and ends a freeze, one of an illegal time is answered LOCKED with BADSET; DISCARD
drops the pending fields (R357 to R360). The model's choice here is log entry 14. -/
def Obligations.ClockReadAndSet : Prop :=
  (∀ (f : Fin 9) (s : State), s.Up →
    (s.fget F.RTC_STATUS_FROZEN = 0 → f.val ≠ 8 →
      ∃ t, exec (.timeRead f) s = .next t ∧ t.RepliedWord (s.liveFields.getD f 0) ∧ t.rtc = { s.rtc with shadow := s.liveFields } ∧
        t.fget F.RTC_STATUS_FROZEN = 1 ∧ s.RegsBut t [Reg.RTC_STATUS] ∧ t.mem = s.mem) ∧
    (s.fget F.RTC_STATUS_FROZEN = 0 → f.val = 8 → ∃ t, exec (.timeRead f) s = .next t ∧ t.RepliedWord (s.liveFields.getD 8 0) ∧ s.OnlyRegs t []) ∧
    (s.fget F.RTC_STATUS_FROZEN = 1 →
      ∃ t, exec (.timeRead f) s = .next t ∧ t.RepliedWord (s.rtc.shadow.getD f 0) ∧ t.fget F.RTC_STATUS_FROZEN = (if f.val = 8 then 0 else 1) ∧
        s.OnlyRegs t [Reg.RTC_STATUS])) ∧
  (∀ s : State, s.Up → ∃ t, exec .rtcUnfreeze s = .next t ∧ t.Replied Sts.DONE ∧ t.fget F.RTC_STATUS_FROZEN = 0 ∧ s.OnlyRegs t [Reg.RTC_STATUS]) ∧
  (∀ s : State, s.Inv →
    (s.fget F.RTC_STATUS_FROZEN = 1 → ∃ t, exec .freezeTimeout s = .next t ∧ t.fget F.RTC_STATUS_FROZEN = 0 ∧ t.fget F.RTC_STATUS_FREEZE_TO = 1 ∧
      s.OnlyRegs t [Reg.RTC_STATUS]) ∧
    (s.fget F.RTC_STATUS_FROZEN = 0 → exec .freezeTimeout s = .next s)) ∧
  (∀ (f : Fin 9) (v : Word) (s : State), s.Up →
    (f.val = 0 → ∃ t, exec (.rtcFieldWrite f v) s = .next t ∧ t.Replied Sts.DONE ∧ s.OnlyRegs t []) ∧
    (f.val ≠ 0 → ∃ t, exec (.rtcFieldWrite f v) s = .next t ∧ t.Replied Sts.DONE ∧
      t.rtc = { s.rtc with pend := setAt s.rtc.pend (f.val - 1) (v.toNat % 256) } ∧ t.ftest F.RTC_PEND_PEND (f.val - 1) = true ∧
      s.RegsBut t [Reg.RTC_PEND] ∧ t.mem = s.mem)) ∧
  (∀ s : State, s.Up → ∃ t, exec .rtcDiscard s = .next t ∧ t.Replied Sts.DONE ∧ t.fget F.RTC_PEND_PEND = 0 ∧ s.OnlyRegs t [Reg.RTC_PEND]) ∧
  ∀ s : State, s.Up →
    (s.newTime.ok = true → ∃ t, exec .rtcCommit s = .next t ∧ t.Replied Sts.DONE ∧ t.time = s.newTime ∧ t.fget F.RTC_SUBSEC_SUBSEC = 0 ∧
      t.fget F.RTC_PEND_PEND = 0 ∧ t.fget F.RTC_STATUS_FROZEN = 0 ∧
      t.fget F.RTC_STATUS_VALID = (if s.fget F.RTC_PEND_PEND = 0xFF then 1 else s.fget F.RTC_STATUS_VALID) ∧ t.mem = s.mem ∧ t.ldg = s.ldg) ∧
    (s.newTime.ok = false → ∃ t, exec .rtcCommit s = .next t ∧ t.Replied Sts.LOCKED ∧ t.fget F.RTC_STATUS_BADSET = 1 ∧
      s.OnlyRegs t [Reg.RTC_STATUS])

/-- An LF tick takes a correction that was formed or written since the last one, advances the residue by c and SUBSEC by 0, 1 or 2 counts as the residue
passes 100,000,000 either way; a second boundary brings the next second of a legal time. With VAON gone only the clock counts. The rate correction
that the next tick takes is the host's trim limited to 300 ppm, zero for an invalid curve, else the automatic one; its coefficients are read through
the error check. An operating hour counts, saturating at 0xFFFFFFFF, evaluates the ageing for the next mark's scale, and the rate correction again
(R141 to R143, R318, R320, R357, R362 to R364). The model's choices here are log entries 5, 14 and 30. -/
def Obligations.ClockTickAndRate : Prop :=
  (∀ (c : Int) (s : State), s.Inv → (s.rtc.next = none → s.fsgn F.RTC_CORR_C = c) → (∀ d, s.rtc.next = some d → d = c ∧ -30000 ≤ c ∧ c ≤ 30000) →
    ∃ t, exec .lfTick s = .next t ∧ t.rtc = { s.rtc with acc := (rtcAdvance s.rtc.acc c).2, next := none } ∧ t.fsgn F.RTC_CORR_C = c ∧
      t.fget F.RTC_SUBSEC_SUBSEC = (s.fget F.RTC_SUBSEC_SUBSEC + (rtcAdvance s.rtc.acc c).1) % 32768 ∧
      (t.time = if s.fget F.RTC_SUBSEC_SUBSEC + (rtcAdvance s.rtc.acc c).1 < 32768 then s.time else if s.time.ok then s.time.next.1 else t.time) ∧
      (s.pwr.aonOff = true → t.rot = s.rot ∧ t.upd = s.upd) ∧
      (s.pwr.aonOff = false → t.rot = { s.rot with lft := s.rot.lft + 1 } ∧ t.upd = { s.upd with trialLft := s.upd.trialLft - 1 }) ∧
      t.mem = s.mem ∧ t.hif = s.hif ∧ t.ldg = s.ldg ∧ t.msh = s.msh) ∧
  (∀ a c : Int, rtcAdvance a c = if 100000000 ≤ a + c then (0, a + c - 100000000) else if a + c ≤ -100000000 then (2, a + c + 100000000)
    else (1, a + c)) ∧
  (∀ (v : Word) (s : State), s.Up →
    (s.hostTrim = true → ∃ t, exec (.trimWrite v) s = .next t ∧ t.Replied Sts.DONE ∧ t.reg Reg.RTC_TRIM = v ∧ s.RegsBut t [Reg.RTC_TRIM] ∧
      t = { s with regs := t.regs, hif := { s.hif with resp := t.hif.resp }, rtc := { s.rtc with next := some (max (-30000) (min 30000 v.toInt)) } }) ∧
    (s.hostTrim = false → ∃ t, exec (.trimWrite v) s = .next t ∧ t.Replied Sts.LOCKED ∧ s.OnlyRegs t [])) ∧
  (∀ (temp : BitVec 16) (s : State), s.Up →
    ∃ t c, exec (.rateRecompute temp) s = .next t ∧ t = { s with regs := t.regs, memu := t.memu, rtc := { s.rtc with next := some c } } ∧
      s.RegsBut t [Reg.RTC_TEMP, Reg.RTC_STATUS, Reg.MEM_ECC_CNT, Reg.MEM_EVT, Reg.SYS_IRQ] ∧
      t.fget F.RTC_TEMP_T = temp.toNat ∧ t.fget F.RTC_STATUS_COEF_BAD = b2n s.rtcCurveBad ∧
      (s.hostTrim = true → c = max (-30000) (min 30000 (s.fsgn F.RTC_TRIM_TRIM))) ∧
      (s.hostTrim = false → s.rtcCurveBad = true → c = 0) ∧ (s.hostTrim = false → s.rtcCurveBad = false → c = s.autoCorr temp.toInt)) ∧
  ∀ (temp : BitVec 16) (s : State), s.Up →
    ∃ t c, exec (.hourAdvance temp) s = .next t ∧ t.regN Reg.TIU_HOURS = min 0xFFFFFFFF (s.regN Reg.TIU_HOURS + 1) ∧
      t.fsgn ⟨Reg.TIU_AGE_PPB, 0, 32⟩ = ageingPpb s.coefTiuA s.coefTiuB (t.regN Reg.TIU_HOURS) ∧
      t.tiu = { s.tiu with nextScale := some (ageingScale (ageingPpb s.coefTiuA s.coefTiuB (t.regN Reg.TIU_HOURS))) } ∧
      t.fget F.RTC_TEMP_T = temp.toNat ∧ t.rtc = { s.rtc with next := some c } ∧
      (s.hostTrim = true → c = max (-30000) (min 30000 (s.fsgn F.RTC_TRIM_TRIM))) ∧ (s.hostTrim = false → s.rtcCurveBad = true → c = 0) ∧
      s.RegsBut t [Reg.TIU_HOURS, Reg.TIU_AGE_A, Reg.TIU_AGE_B, Reg.TIU_AGE_PPB, Reg.RTC_TEMP, Reg.RTC_STATUS, Reg.MEM_ECC_CNT, Reg.MEM_EVT,
        Reg.SYS_IRQ] ∧
      t.mem = s.mem ∧ t.hif = s.hif ∧ t.ldg = s.ldg

/-! Update, lifecycle, keys -/

/-- The commands of UPD_CTL and UPD_CONFIRM in the states that admit them: BEGIN clears the bitmap and erases, VERIFY clears the last error, ACTIVATE
waits for the mark, ABORT drops what is staged, CONFIRM raises the version counters. In other states they are answered LOCKED (R379, R383, R386,
R387). The model's choices here are log entries 14 and 94. -/
def Obligations.UpdateCommands : Prop :=
  (∀ s : State, s.Up → s.life ≠ lcSCRAP →
    (s.updState = upIDLE → ∃ t, exec .updBegin s = .next t ∧ t.Replied Sts.DONE ∧ t.updState = upERASING ∧ t.upd = { s.upd with staging := [] } ∧
      (∀ w, w < 64 → t.reg (Reg.UPD_MAP w) = 0) ∧ t.reg Reg.UPD_MAP_CNT = 0 ∧
      s.RegsBut t (Reg.UPD_STATUS :: Reg.UPD_MAP_CNT :: (List.range 64).map Reg.UPD_MAP) ∧ t.mem = s.mem) ∧
    (s.updState = upIDLE ∨ s.updState = upRECEIVING → ∃ t, exec .updVerify s = .next t ∧ t.Replied Sts.DONE ∧ t.updState = upVERIFYING ∧
      t.fget F.UPD_STATUS_ERROR = 0 ∧ t.fget F.UPD_STATUS_ERR_COMP = 0 ∧ t.fget F.UPD_STATUS_STI_ERR = 0 ∧
      t.upd = { s.upd with fromRecv := s.updState == upRECEIVING } ∧ s.RegsBut t [Reg.UPD_STATUS] ∧ t.mem = s.mem) ∧
    (s.updState = upVERIFIED → s.fget F.UPD_LIFE_ARMED = 7 → ∃ t, exec .updActivate s = .next t ∧ t.Replied Sts.DONE ∧
      t = { s with hif := { s.hif with resp := t.hif.resp }, upd := { s.upd with swapArmed := true } }) ∧
    (upERASING ≤ s.updState → s.updState ≤ upVERIFIED → ∃ t, exec .updAbort s = .next t ∧ t.Replied Sts.DONE ∧ t.updState = upIDLE ∧
      t.upd = { s.upd with staging := [], swapArmed := false, swapDue := false } ∧ t.fget F.UPD_EVT_ABORTED = 1 ∧
      s.RegsBut t [Reg.UPD_STATUS, Reg.UPD_EVT, Reg.SYS_IRQ] ∧ t.mem = s.mem)) ∧
  (∀ s : State, s.Up →
    (s.life = lcSCRAP ∨ s.updState ≠ upIDLE → ∃ t, exec .updBegin s = .next t ∧ t.Replied Sts.LOCKED ∧ s.OnlyRegs t []) ∧
    (s.life = lcSCRAP ∨ (s.updState ≠ upIDLE ∧ s.updState ≠ upRECEIVING) →
      ∃ t, exec .updVerify s = .next t ∧ t.Replied Sts.LOCKED ∧ s.OnlyRegs t []) ∧
    (s.life = lcSCRAP ∨ s.updState ≠ upVERIFIED ∨ s.fget F.UPD_LIFE_ARMED ≠ 7 →
      ∃ t, exec .updActivate s = .next t ∧ t.Replied Sts.LOCKED ∧ s.OnlyRegs t []) ∧
    (s.life = lcSCRAP ∨ s.updState = upIDLE ∨ s.updState = upTRIAL →
      ∃ t, exec .updAbort s = .next t ∧ t.Replied Sts.LOCKED ∧ s.OnlyRegs t []) ∧
    (s.updState ≠ upTRIAL ∨ s.fget F.UPD_SELFTEST_PASS ≠ 0x3F →
      ∃ t, exec .updConfirm s = .next t ∧ t.Replied Sts.LOCKED ∧ s.OnlyRegs t [])) ∧
  ∀ s : State, s.Up → s.updState = upTRIAL → s.fget F.UPD_SELFTEST_PASS = 0x3F →
    ∃ t, exec .updConfirm s = .next t ∧ t.Replied Sts.DONE ∧ t.updState = upIDLE ∧ t.fget F.UPD_STATUS_LAST = 1 ∧
      t.upd = { s.upd with trialLft := 0 } ∧ t.fget F.UPD_EVT_CONFIRMED = 1 ∧
      (∀ i, i < 6 → t.regN (Reg.UPD_CNT i) = max (s.regN (Reg.UPD_CNT i)) (mfVersion (s.manifest s.activeBase) i)) ∧
      t.regN (Reg.UPD_CNT 6) = max (s.regN (Reg.UPD_CNT 6)) (leAt (s.manifest s.activeBase) 0x0C 4) ∧
      s.RegsBut t (Reg.UPD_STATUS :: Reg.UPD_EVT :: Reg.SYS_IRQ :: (List.range 7).map Reg.UPD_CNT) ∧ t.mem = s.mem

/-- A word of UPD_LIFE_REQ that no reason refuses is armed for the next reset; one that is refused is answered LOCKED and shows the reason. In SCRAP every
word is answered LOCKED; the reason shows where the format or the table has one. A request that comes to the test of the export reads the ring through
the error check. A cancel of the right format disarms (R318, R369, R371, R372). The model's choices here are log entries 14 and 95. -/
def Obligations.LifecycleRequests : Prop :=
  (∀ (v : Word) (s : State), s.Up → s.life ≠ lcSCRAP →
    (s.lifeReason v.toNat = 0 → ∃ t, exec (.transitionRequest v) s = .next t ∧ t.Replied Sts.DONE ∧ s.OnlyRead t [Reg.UPD_LIFE] ∧
      t.fget F.UPD_LIFE_ARMED = v.toNat % 8 ∧ t.fget F.UPD_LIFE_REQ_ST = (if v.toNat % 8 = 7 then 0 else 1) ∧ t.fget F.UPD_LIFE_REASON = 0 ∧
      t.life = s.life) ∧
    (s.lifeReason v.toNat ≠ 0 → ∃ t, exec (.transitionRequest v) s = .next t ∧ t.Replied Sts.LOCKED ∧ s.OnlyRead t [Reg.UPD_LIFE] ∧
      t.fget F.UPD_LIFE_REQ_ST = 2 ∧ t.fget F.UPD_LIFE_REASON = s.lifeReason v.toNat ∧ t.fget F.UPD_LIFE_ARMED = s.fget F.UPD_LIFE_ARMED ∧
      t.life = s.life) ∧
    (needsExport s.life (v.toNat % 8) = false → ∃ t, exec (.transitionRequest v) s = .next t ∧ s.OnlyRegs t [Reg.UPD_LIFE])) ∧
  (∀ (v : Word) (s : State), s.Up → s.life = lcSCRAP → ∀ c ∈ [Instr.transitionRequest v, .transitionCancel v],
    (s.lifeReason v.toNat = 0 → ∃ t, exec c s = .next t ∧ t.Replied Sts.LOCKED ∧ s.OnlyRegs t []) ∧
    (s.lifeReason v.toNat ≠ 0 → ∃ t, exec c s = .next t ∧ t.Replied Sts.LOCKED ∧ s.OnlyRegs t [Reg.UPD_LIFE] ∧ t.fget F.UPD_LIFE_REQ_ST = 2 ∧
      t.fget F.UPD_LIFE_REASON = s.lifeReason v.toNat ∧ t.fget F.UPD_LIFE_ARMED = s.fget F.UPD_LIFE_ARMED ∧ t.life = s.life)) ∧
  ∀ (v : Word) (s : State), s.Up → s.life ≠ lcSCRAP → v.toNat % 8 = 7 →
    (v.toNat / 2 ^ 16 = 0x4C43 → v.toNat / 2 ^ 8 % 256 = 248 →
      ∃ t, exec (.transitionCancel v) s = .next t ∧ t.Replied Sts.DONE ∧ s.OnlyRegs t [Reg.UPD_LIFE] ∧ t.fget F.UPD_LIFE_ARMED = 7 ∧
        t.fget F.UPD_LIFE_REQ_ST = 0 ∧ t.life = s.life) ∧
    (v.toNat / 2 ^ 16 ≠ 0x4C43 ∨ v.toNat / 2 ^ 8 % 256 ≠ 248 →
      ∃ t, exec (.transitionCancel v) s = .next t ∧ t.Replied Sts.LOCKED ∧ s.OnlyRegs t [Reg.UPD_LIFE] ∧ t.fget F.UPD_LIFE_REQ_ST = 2 ∧
        t.fget F.UPD_LIFE_REASON = 1 ∧ t.fget F.UPD_LIFE_ARMED = s.fget F.UPD_LIFE_ARMED)

/-- KEY_CTL.GO clears the data registers; slots 1 to 3 take a key once, in BLANK or PROVISION, slot 4 never outside its states. A read of UPD_TRNG draws
32 bits, zero after a failed health test; a failure is reported, and a passed retest ends it (R375, R390). The model's choices here are log entries
11, 14 and 100. -/
def Obligations.KeysAndRandom : Prop :=
  (∀ s : State, s.Up → s.upd.keys.length = 6 →
    ∃ t, exec .keyWrite s = .next t ∧ t.Replied Sts.DONE ∧ (∀ w, w < 8 → t.reg (Reg.UPD_KEY_D w) = 0) ∧ t.mem = s.mem ∧
      s.RegsBut t (Reg.UPD_KEY_ST :: (List.range 8).map Reg.UPD_KEY_D ++ (List.range 5).map Reg.UPD_KEY_KCV) ∧
      (1 ≤ s.fget F.UPD_KEY_SEL_SLOT → s.fget F.UPD_KEY_SEL_SLOT ≤ 3 → s.life ≤ lcPROVISION → s.hasKey (s.fget F.UPD_KEY_SEL_SLOT) = false →
        t.fget F.UPD_KEY_ST_RES = 0 ∧ t.ftest F.UPD_KEY_ST_PRESENT (s.fget F.UPD_KEY_SEL_SLOT) = true ∧
        t.upd.keys = setAt s.upd.keys (s.fget F.UPD_KEY_SEL_SLOT) (some (s.keyData.take (if s.fget F.UPD_KEY_SEL_SLOT = 2 then 16 else 32)))) ∧
      (1 ≤ s.fget F.UPD_KEY_SEL_SLOT → s.fget F.UPD_KEY_SEL_SLOT ≤ 3 →
        lcPROVISION < s.life ∨ s.hasKey (s.fget F.UPD_KEY_SEL_SLOT) = true → t.fget F.UPD_KEY_ST_RES = 1 ∧ t.upd = s.upd) ∧
      (s.fget F.UPD_KEY_SEL_SLOT = 4 → s.life = 0 ∨ 3 < s.life → t.fget F.UPD_KEY_ST_RES = 1 ∧ t.upd = s.upd) ∧
      (s.fget F.UPD_KEY_SEL_SLOT ∈ [0, 5, 6, 7] → t.fget F.UPD_KEY_ST_RES = 1 ∧ t.upd = s.upd)) ∧
  (∀ s : State, s.Up →
    (s.upd.trngBad = true → ∃ t, exec .trngRead s = .next t ∧ t.RepliedWord 0 ∧ s.OnlyRegs t []) ∧
    (s.upd.trngBad = false → ∃ t, exec .trngRead s = .next t ∧ t.RepliedWord (Config.trng s.free).toNat ∧
      t = { s with hif := { s.hif with resp := t.hif.resp }, free := s.free + 1 })) ∧
  (∀ s : State, s.Up → ∃ t, exec .trngHealthFail s = .next t ∧ t.upd = { s.upd with trngBad := true } ∧ t.fget F.UPD_EVT_TRNG_FAIL = 1 ∧
    s.RegsBut t [Reg.UPD_EVT, Reg.SYS_IRQ] ∧ t.mem = s.mem ∧ t.hif = s.hif) ∧
  ∀ s : State, s.Up →
    (s.upd.trngBad = true → s.upd.kekWait = false → s.upd.cellWait = false →
      ∃ t, exec (.trngRetest true) s = .next t ∧ t = { s with upd := { s.upd with trngBad := false } }) ∧
    (s.upd.trngBad = true → ∃ t, exec (.trngRetest false) s = .next t ∧ t.upd = s.upd ∧ t.fget F.UPD_EVT_TRNG_FAIL = 1 ∧
      s.RegsBut t [Reg.UPD_EVT, Reg.SYS_IRQ] ∧ t.mem = s.mem) ∧
    (s.upd.trngBad = false → ∀ p, exec (.trngRetest p) s = .next s)

/-! Resets, device faults and power -/

/-- An RSTN reset of a device with no armed transition, and power-on: the epoch and the rotation count are 0 again, no image is active, the operation
table and the duplicate window are empty; keys and BKP are kept, by RSTN also the ledger store and the governor's bins. A boot load starts unless the
state is SCRAP or the set fails. An RSTN reset with an armed transition enters its state with the banks wiped, and entry to RETURN or SCRAP wipes the
accumulators, the ledger NVM and key slots 1 to 5; where the export that it needs no longer stands the transition is dropped and reported (R44, R80,
R336, R355, R356, R370). The model's choices here are log entries 8 and 71. -/
def Obligations.ResetAndPowerOn : Prop :=
  (∀ (temp : BitVec 16) (s : State), s.Up → s.bank0Lost = false → s.fget F.UPD_LIFE_ARMED = 7 → s.ldg.storeErr = [] →
    ∃ t, exec (.rstnReset temp) s = .next t ∧ s.AfterReset t ∧ t.ldg.acc = s.ldg.acc ∧ t.rad.bins = s.rad.bins ∧
      t.fget F.TIU_HOURS_HOURS = s.fget F.TIU_HOURS_HOURS) ∧
  (∀ (temp : BitVec 16) (s : State), s.Up → s.bank0Lost = false → s.fget F.UPD_LIFE_ARMED ≠ 7 →
    (needsExport s.life (s.fget F.UPD_LIFE_ARMED) = true → s.exportOk = false →
      ∃ t, exec (.rstnReset temp) s = .next t ∧ s.AfterReset t ∧ t.fget F.UPD_LIFE_ARMED = 7 ∧ t.fget F.UPD_LIFE_REQ_ST = 3 ∧
        t.fget F.UPD_LIFE_REASON = 6 ∧ t.fget F.UPD_EVT_LIFE_DROPPED = 1) ∧
    (needsExport s.life (s.fget F.UPD_LIFE_ARMED) = false ∨ s.exportOk = true →
      ∃ t, exec (.rstnReset temp) s = .next t ∧ t.life = s.fget F.UPD_LIFE_ARMED ∧ t.fget F.UPD_LIFE_ARMED = 7 ∧ t.fget F.UPD_LIFE_REQ_ST = 0 ∧
        t.fget F.UPD_LIFE_DEBUG = b2n (t.life != lcSEALED && t.life != lcSCRAP) ∧ t.fget F.SYS_EPOCH_EPOCH = 0 ∧ t.image = none ∧ t.hif = {} ∧
        (∀ k, 0x110000 ≤ k → k < 0x180000 → t.byte k = 0) ∧ t.rad.bins = s.rad.bins ∧
        (t.life = lcRETURN ∨ t.life = lcSCRAP → t.ldg.acc = List.replicate 17 {} ∧ (∀ k, 1 ≤ k → t.upd.keys.getD k none = none) ∧
          ∀ k, 0x300000 ≤ k → k < 0x310000 → t.byte k = 0xFF) ∧
        (t.life ≠ lcRETURN → t.life ≠ lcSCRAP → (s.ldg.storeErr = [] → t.ldg.acc = s.ldg.acc) ∧
          ∀ k, k < 5 → t.upd.keys.getD k none = s.upd.keys.getD k none))) ∧
  ∀ (temp : BitVec 16) (s : State), s.Inv →
    ∃ t, exec (.powerOn temp) s = .next t ∧ s.AfterReset t ∧ t.pwr.aonOff = false ∧ t.rad.bins = List.replicate 8 (List.replicate 61 0)

/-- The update through resets: the swap reset changes the slot and begins a trial with its window, and a set of that slot whose digest fails is taken back
at once; a self-test of the trial that passes sets its bit (the one of COEF reads that component through the error check), one that fails and the end
of the window take the set back, with LAST and REVERTED (R383 to R385). The model's choices here are log entries 101 and 104. -/
def Obligations.TrialAndRevert : Prop :=
  (∀ (temp : BitVec 16) (s : State), s.Up → s.bank0Lost = false → s.upd.swapDue = true → s.updState = upVERIFIED →
    ∃ t r, exec (.swapReset temp) s = .next t ∧ r.updState = upTRIAL ∧ r.fget F.UPD_STATUS_SLOT = 1 - s.fget F.UPD_STATUS_SLOT ∧
      r.upd.trialLft = min 86400 (max 60 (s.fget F.UPD_WINDOW_SEC)) * 32768 ∧ s.AfterReset r ∧
      t = match r.bootBad with | some i => r.trialFails i temp | none => r) ∧
  (∀ (i : Fin 6) (pass : Bool) (temp : BitVec 16) (s : State), s.Up → s.updState = upTRIAL →
    (s.selfTestResult i pass = some true →
      ∃ t, exec (.selfTest i pass temp) s = .next t ∧ t.ftest F.UPD_SELFTEST_PASS i = true ∧
        (∀ j, j ≠ i.val → t.ftest F.UPD_SELFTEST_PASS j = s.ftest F.UPD_SELFTEST_PASS j) ∧ s.OnlyRead t [Reg.UPD_SELFTEST] ∧
        (i.val ≠ 5 → s.OnlyRegs t [Reg.UPD_SELFTEST])) ∧
    (s.selfTestResult i pass = some false → s.bank0Lost = false →
      ∃ t, exec (.selfTest i pass temp) s = .next t ∧ t.ftest F.UPD_SELFTEST_FAIL i = true ∧ t.fget F.UPD_STATUS_LAST = 3 ∧ s.Reverted t)) ∧
  ∀ (temp : BitVec 16) (s : State), s.Up → s.updState = upTRIAL → s.bank0Lost = false →
    ∃ t, exec (.trialWindowExpiry temp) s = .next t ∧ t.fget F.UPD_STATUS_LAST = 2 ∧ s.Reverted t

/-- A device fault other than a reload: the epoch advances by one and FAULTS counts, CAUSE is the lowest code and HIST has every cause of the cycle,
recovery begins, the Lens remembers its state, every ACTIVE operation completes DISCARDED and slots are free; the ledger keeps its accumulators and
its commit, which runs on for no operation. Where the mask of the cycle has SLINK_FAIL and a wake's or an entry's transaction is there, the
domain-transition timeout is one of the causes. After a BROWNOUT the memories in RETAIN are checked, and none is lost here (R37 to R40, R53, R350).
Recovery ends: RECOVERING clears, the Lens returns to the state it remembers, and events kept during it wait as fog events; a boot load that a fault
stopped starts again, except in SCRAP or in boot ROM. Out of recovery nothing changes (R40, R53, R74, R79). The model's choices here are log entries
6, 49, 65, 73, 125 and 179. -/
def Obligations.FaultAndRecovery : Prop :=
  ((∀ p ∈ [(Instr.wdog, fcWDOG), (Instr.poisonExec, fcPOISON_EXEC), (Instr.clkLoss, fcCLK_LOSS)], ∀ (also : BitVec 5) (s : State),
    s.Up → also.getLsbD 4 = false →
    (also.getLsbD 3 = false ∨ s.transitionDue = false → ∃ t, exec (p.1 also) s = .next t ∧ s.Faulted t (p.2 :: faultMask also.toNat)) ∧
    (also.getLsbD 3 = true → s.transitionDue = true →
      ∃ t, exec (p.1 also) s = .next t ∧ t.fget F.SYS_EPOCH_EPOCH = (s.fget F.SYS_EPOCH_EPOCH + 1) % 256 ∧
        t.fget F.SYS_FAULT_CAUSE_CAUSE = (faultMask also.toNat).foldl min p.2 ∧
        (∀ c ∈ p.2 :: fcSLINK_FAIL :: faultMask also.toNat, t.ftest F.SYS_FAULT_CAUSE_HIST (c - 1) = true) ∧ t.recovering = true ∧
        t.fget F.PWR_SLINK_ST_UPPER = upDOMAIN_TO ∧ t.ldg.acc = s.ldg.acc)) ∧
  ∀ (also : BitVec 5) (s : State), s.Up → also.getLsbD 3 = false ∨ s.transitionDue = false → s.memu.nvm = none → s.pwr.tripped = 0 →
    (∀ b, b < 17 → s.canariesOk b = true) →
    ∃ t, exec (.brownout also) s = .next t ∧ s.Faulted t (fcBROWNOUT :: faultMask also.toNat)) ∧
  (∀ s : State, s.Up →
    (s.recovering = false → exec .recoveryComplete s = .next s) ∧
    (s.recovering = true → s.rot.back < 8 →
      ∃ t, exec .recoveryComplete s = .next t ∧ t.recovering = false ∧ t.fget F.SYS_EPOCH_EPOCH = s.fget F.SYS_EPOCH_EPOCH ∧
        t.lens = (if s.lens = lsRECOVER then s.rot.back else s.lens) ∧ t.msh = { s.msh with events := s.msh.events ++ s.msh.held, held := [] } ∧
        (s.pwr.lostBoot = false → s.RegsBut t [Reg.SYS_EPOCH, Reg.ROT_CFG] ∧ t.pwr = s.pwr) ∧
        (s.pwr.lostBoot = true → t.pwr = { s.pwr with lostBoot := false }) ∧
        (s.pwr.lostBoot = true → s.life ≠ lcSCRAP → s.fbit F.UPD_STATUS_BOOT_FAIL = false →
          t.fget F.STI_STATUS_LOAD = 1 ∧ t.fget F.STI_STATUS_BOOT = 1) ∧
        (s.pwr.lostBoot = false ∨ s.life = lcSCRAP ∨ s.fbit F.UPD_STATUS_BOOT_FAIL = true →
          s.RegsBut t [Reg.SYS_EPOCH, Reg.ROT_CFG] ∧ t.mem = s.mem) ∧
        t.ldg = s.ldg ∧ t.hif = s.hif))

/-- While VAON is below its threshold only the clock, its freeze, the loss of BKP and the return of power have an effect (R353, R356). A loss of BKP gives
every register of the clock its power-on value and nothing else, a loss of AON stops the device, and a monitor that trips marks its memory while it is
in RETAIN (R342, R353, R356). The model's choices here are log entries 6, 7, 77 and 122. -/
def Obligations.PowerLosses : Prop :=
  (∀ (c : Instr) (s : State), s.pwr.aonOff = true → c ≠ .lfTick → c ≠ .freezeTimeout → c ≠ .bkpPowerLoss → (∀ x, c ≠ .powerOn x) →
    exec c s = .next s) ∧
  ((∀ s : State, s.Inv → ∃ t, exec .bkpPowerLoss s = .next t ∧ (∀ a, a / 0x10000 = 14 → t.reg a = regDefault a) ∧ t.rtc = {} ∧
    (∀ a, a / 0x10000 ≠ 14 → t.reg a = s.reg a) ∧ t = { s with regs := t.regs, rtc := t.rtc }) ∧
  (∀ s : State, s.Up → ∃ t, exec .aonPowerLoss s = .next t ∧ t.pwr = { s.pwr with aonOff := true } ∧ t.memu.nvm = none ∧ t.ldg.erase = none ∧
    t.regs = s.regs ∧ t.rtc = s.rtc ∧ (s.memu.nvm = none → s.ldg.erase = none → t = { s with pwr := { s.pwr with aonOff := true } })) ∧
  ∀ (b : Fin 17) (s : State), s.Up →
    (s.dom (if b.val = 16 then domCAPT else domMEM b) = pwRETAIN →
      ∃ t, exec (.retentionMonitorTrip b) s = .next t ∧ t.pwr = { s.pwr with tripped := t.pwr.tripped } ∧ t = { s with pwr := t.pwr } ∧
        ∀ j, t.pwr.tripped.testBit j = (decide (j = b.val) || s.pwr.tripped.testBit j)) ∧
    (s.dom (if b.val = 16 then domCAPT else domMEM b) ≠ pwRETAIN → exec (.retentionMonitorTrip b) s = .next s))

/-- A power-fail warning latches, raises PFAIL and FOG, wakes the domains of a commit and, unless the ledger already answered one, makes it account the
time to the warning and start a commit of cause 2 in place of any other; a second warning while one is latched changes nothing. The end of the warning
clears the latch, reports it once, and the ledger starts anew (R235, R352). The model's choices here are log entries 6 and 75. -/
def Obligations.PowerFailAndRecovery : Prop :=
  (∀ (n : Nat) (s : State), s.Up →
    (s.fbit F.PWR_PFW_LATCHED = true → exec (.powerFailWarning n) s = .next s) ∧
    (s.fbit F.PWR_PFW_LATCHED = false →
      ∃ t, exec (.powerFailWarning n) s = .next t ∧ t.fget F.PWR_PFW_LATCHED = 1 ∧ t.fget F.PWR_EVT_PFW = 1 ∧ t.fget F.SYS_IRQ_PFAIL = 1 ∧
        t.fget F.SYS_IRQ_FOG = 1 ∧ (∀ d ∈ [domCORE, domLDG, domNVM], t.isOn d = true ∨ (t.wakeOfDom d).isSome = true) ∧ t.hif.ops = s.hif.ops ∧
        (s.ldg.pfIgnore = true → t.ldg = s.ldg ∧ t.mem = s.mem) ∧
        (s.ldg.pfIgnore = false → t.ldg.pfIgnore = true ∧ t.ldg.erase = none ∧ t.ldg.prev = none ∧ t.ldg.prevShot = false ∧
          t.fget F.LDG_LASTSTEP_PARTIAL = 1 ∧ t.ldg.seqUsed = s.ldg.seqUsed + 1 ∧
          ∃ c, t.ldg.commit = some c ∧ c.cause = 2 ∧ c.seq = s.ldg.seqUsed + 1 ∧ c.done = 0 ∧ c.records.length = 7 ∧
            c.op = s.ldg.commit.bind (·.op)))) ∧
  ∀ s : State, s.Up →
    (s.fbit F.PWR_PFW_LATCHED = false → exec .supplyRecovered s = .next s) ∧
    (s.fbit F.PWR_PFW_LATCHED = true →
      ∃ t, exec .supplyRecovered s = .next t ∧ t.fget F.PWR_PFW_LATCHED = 0 ∧ t.fget F.PWR_EVT_RECOVERED = 1 ∧
        (s.fget F.PWR_EVT_RECOVERED = 0 → t.fget F.SYS_IRQ_SUPPLY = 1) ∧ t.ldg = { s.ldg with prevShot := false, prev := none, afterPf := true } ∧
        t = { s with regs := t.regs, ldg := t.ldg } ∧ s.RegsBut t [Reg.PWR_PFW, Reg.PWR_EVT, Reg.SYS_IRQ])

/-! The time-interval unit -/

/-- The ring loses lock while the TIU is ON: UNLOCK is set and counted, armed and running channels end in UNLOCK with their queues kept, their running
statistics stop with ABORT. A shot in progress has no stamps any more and the statistics of its ports stop; a conversion in progress ends without
results and is counted, a CONVERT CANCELLED. The ring relocks while the TIU is ON (R126, R213). An origin, with the ring locked, starts an armed
channel with ORG = 0, and the start channel that serves it with it; a coarse overflow ends a running channel in OVF with a last result that is
flagged, in place of the newest where the queue is full, and raises TIU_OVF at a new setting; that of a start channel is its INTERVAL channel's (R133,
R134). The model's choices here are log entries 6, 22, 24, 31, 139 and 144. -/
def Obligations.RingLosesLock : Prop :=
  ((∀ s : State, s.Up →
    (s.isOn domTIU = false ∨ s.fbit F.TIU_STATUS_LOCK = false → exec .lockLoss s = .next s) ∧
    (s.isOn domTIU = true → s.fbit F.TIU_STATUS_LOCK = true → s.ShotSound →
      ∃ t, exec .lockLoss s = .next t ∧ t.fget F.TIU_STATUS_LOCK = 0 ∧ t.fget F.TIU_STATUS_UNLOCK = 1 ∧
        t.fget F.TIU_UNLOCK_CNT_COUNT = min 65535 (s.fget F.TIU_UNLOCK_CNT_COUNT + 1) ∧
        (∀ e, e < 6 →
          t.evState e = (if s.evState e = evARMED ∨ s.evState e = evRUN then evUNLOCK else s.evState e) ∧
          (s.evState e = evARMED ∨ s.evState e = evRUN → s.fget (F.TIU_ST_CFG_STATE (16 + e)) = 1 →
            t.fget (F.TIU_ST_CFG_STATE (16 + e)) = 0 ∧ t.fget (F.TIU_ST_CFG_ABORT (16 + e)) = 1)) ∧
        (s.tmu.conv = none → t.tmu = s.tmu ∧ t.hif = s.hif) ∧
        (∀ c, s.tmu.conv = some c → t.tmu = { s.tmu with conv := none } ∧ t.fget F.TMU_STATUS_BUSY = 0 ∧
          t.fget F.TMU_CNT_ABANDONED = min 65535 (s.fget F.TMU_CNT_ABANDONED + 1) ∧
          (∀ i, c.why = .op i → (s.opE i).st = .active → s.Completed t i Sts.CANCELLED 0 0) ∧ ((∀ i, c.why ≠ .op i) → t.hif = s.hif)) ∧
        (s.afe.shot = none → t.afe = s.afe) ∧
        (∀ h, s.afe.shot = some h →
          t.afe = { s.afe with shot := some { h with chords := h.chords.map fun c => { c with unlocked := true } } } ∧
          ∀ c ∈ h.chords, t.fget (F.AFE_SLOT_RXA_NST c.slot) = 0 ∧ t.fget (F.AFE_SLOT_RXB_NST c.slot) = 0 ∧
            ∀ g, s.chordCfg c.chord = some g → ∀ p ∈ [g.portA, g.portB], s.fget (F.TIU_ST_CFG_STATE p) = 1 →
              t.fget (F.TIU_ST_CFG_STATE p) = 0 ∧ t.fget (F.TIU_ST_CFG_ABORT p) = 1) ∧
        t = { s with regs := t.regs, pwr := t.pwr, afe := t.afe, tmu := t.tmu, hif := t.hif })) ∧
  ∀ s : State, s.Up →
    (s.isOn domTIU = false → exec .relock s = .next s) ∧
    (s.isOn domTIU = true → ∃ t, exec .relock s = .next t ∧ t.fget F.TIU_STATUS_LOCK = 1 ∧ s.OnlyRegs t [Reg.TIU_STATUS])) ∧
  ((∀ (e : Fin 6) (s : State), s.Up →
    (s.evState e ≠ evARMED ∨ s.isOn domTIU = false ∨ s.fbit F.TIU_STATUS_LOCK = false ∨ s.fbit (F.TIU_EV_CFG_ORG e) = true →
      exec (.eventOrigin e) s = .next s) ∧
    (s.evState e = evARMED → (s.evc e).serves = none → s.isOn domTIU = true → s.fbit F.TIU_STATUS_LOCK = true → s.fbit (F.TIU_EV_CFG_ORG e) = false →
      ∃ t, exec (.eventOrigin e) s = .next t ∧ t.evState e = evRUN ∧
        (∀ x, x < 6 → x ≠ e.val → t.evState x = if (s.evc x).serves = some e.val then evRUN else s.evState x) ∧
        t = { s with regs := t.regs, pwr := t.pwr } ∧
        s.RegsBut t (Reg.TIU_EV_FLG e :: Reg.TIU_STATUS :: (s.evServers e).map Reg.TIU_EV_FLG))) ∧
  (∀ (e i : Fin 6) (s : State), s.Up → (s.evc e).serves = some i.val → (s.evc i).serves = none →
    exec (.coarseOverflow e) s = exec (.coarseOverflow i) s) ∧
  ∀ (e : Fin 6) (s : State), s.Up → (s.evc e).serves = none →
    (s.evState e ≠ evRUN → exec (.coarseOverflow e) s = .next s) ∧
    (s.evState e = evRUN → s.tiu.ev.length = 6 →
      ∃ t, exec (.coarseOverflow e) s = .next t ∧ t.evState e = evOVF ∧ t.ftest F.TIU_OVF_SRC_COVF e = true ∧
        (s.ftest F.TIU_OVF_SRC_COVF e = false → t.fget F.SYS_IRQ_TIU_OVF = 1) ∧
        (t.evc e).queue = (if (s.evc e).queue.length < 16 then (s.evc e).queue else (s.evc e).queue.take 15) ++ [⟨0xFFFFFFFF, 1⟩] ∧
        (∀ x, x < 6 → x ≠ e.val → t.evState x = if (s.evc x).serves = some e.val then evOVF else s.evState x) ∧
        (∀ j, j ≠ e.val → t.evc j = s.evc j) ∧ t.mem = s.mem ∧ t.hif = s.hif ∧ t.ldg = s.ldg))

/-- A qualifying edge on a running STAMP channel with the ring locked: outside the blank its stamp joins the queue and RESULTS counts, and the channel is
DONE once RESULTS reaches COUNT; a result that finds the queue full is dropped and counted, the first of its run sets FULL in TIU_OVF_SRC and raises
TIU_OVF; inside the blank an edge is dropped and counted; any other edge stamps nothing. A stop and a start of an INTERVAL channel are paired in
order: the one that comes first waits, and their difference, signed and saturated, joins the channel's queue with its flags. SYNC as an output has
only the edges that the device drives. Edges of GPIO channels also set the pin's level (R126, R128 to R132, R136, R311, R395). A crossing on the RXA
port of the one chord of a shot, locked, of a polarity that passes and from an armed comparator, inside the window and outside the dead time: its
stamp is the next of its direction in the slot, in a word that reads clean, and no other word of memory changes (R111, R127). The model's choices here
are log entries 26, 85, 114 and 145. -/
def Obligations.EdgesStamped : Prop :=
  (∀ (e : Fin 6) (stamp : Word) (rising : Bool) (s : State), s.Up → e.val ≠ 4 → s.evStamps e rising = false →
    ∃ t, exec (.eventEdge e stamp rising) s = .next t ∧ t = { s with gpio := t.gpio, hif := { s.hif with syncEdges := t.hif.syncEdges } } ∧
      (e.val < 4 → t.gpio.testBit e = rising ∧ t.hif = s.hif) ∧ (e.val = 5 → t.gpio = s.gpio)) ∧
  (∀ (stamp : Word) (rising : Bool) (s : State), s.Up → s.fget F.HIF_CFG_SYNC_MODE = 1 ∨ s.fget F.HIF_CFG_SYNC_MODE = 2 →
    s.hif.syncEdges.head? ≠ some rising → exec (.eventEdge 5 stamp rising) s = .next s) ∧
  (∀ (e : Fin 6) (stamp : Word) (rising : Bool) (s : State), s.Up → e.val ≠ 4 → s.fget (F.TIU_EV_CFG_MODE e) = 1 →
    (s.evc e).serves = none → s.tiu.ev.length = 6 → s.evStamps e rising = true →
    (e.val = 5 → s.fget F.HIF_CFG_SYNC_MODE = 1 ∨ s.fget F.HIF_CFG_SYNC_MODE = 2 → s.hif.syncEdges.head? = some rising) →
    ((∀ l, (s.evc e).last = some l → l + s.evBlank e ≤ stamp.toNat) → (s.evc e).queue.length < 16 →
      ∃ t, exec (.eventEdge e stamp rising) s = .next t ∧ (t.evc e).queue = (s.evc e).queue ++ [⟨stamp.toNat, 0⟩] ∧
        (t.evc e).last = some stamp.toNat ∧
        t.fget (F.TIU_EV_FLG_LEVEL e) = (s.evc e).queue.length + 1 ∧
        t.fget (F.TIU_EV_FLG_RESULTS e) = min 65535 (s.fget (F.TIU_EV_FLG_RESULTS e) + 1) ∧
        t.evState e = (if s.fget (F.TIU_EV_CFG_COUNT e) ≠ 0 ∧ s.fget (F.TIU_EV_CFG_COUNT e) ≤ s.fget (F.TIU_EV_FLG_RESULTS e) + 1 then evDONE
          else evRUN) ∧
        (∀ j, j ≠ e.val → t.evc j = s.evc j) ∧ t.mem = s.mem ∧
        t.hif = (if e.val = 5 ∧ (s.fget F.HIF_CFG_SYNC_MODE = 1 ∨ s.fget F.HIF_CFG_SYNC_MODE = 2) then { s.hif with syncEdges := s.hif.syncEdges.tail }
          else s.hif) ∧
        (e.val < 4 → t.gpio.testBit e = rising) ∧ (e.val = 5 → t.gpio = s.gpio)) ∧
    ((∀ l, (s.evc e).last = some l → l + s.evBlank e ≤ stamp.toNat) → 16 ≤ (s.evc e).queue.length →
      ∃ t, exec (.eventEdge e stamp rising) s = .next t ∧ (t.evc e).queue = (s.evc e).queue ∧ (t.evc e).dropped = true ∧
        t.fget (F.TIU_EV_FLG_RESULTS e) = min 65535 (s.fget (F.TIU_EV_FLG_RESULTS e) + 1) ∧
        t.fget (F.TIU_EV_DROP_FULL e) = min 65535 (s.fget (F.TIU_EV_DROP_FULL e) + 1) ∧
        ((s.evc e).dropped = false → t.ftest F.TIU_OVF_SRC_FULL e = true ∧
          (s.ftest F.TIU_OVF_SRC_FULL e = false → t.fget F.SYS_IRQ_TIU_OVF = 1)) ∧
        (∀ j, j ≠ e.val → t.evc j = s.evc j) ∧ t.mem = s.mem) ∧
    ∀ l, (s.evc e).last = some l → stamp.toNat < l + s.evBlank e →
      ∃ t, exec (.eventEdge e stamp rising) s = .next t ∧
        t.fget (F.TIU_EV_DROP_EDGE e) = min 65535 (s.fget (F.TIU_EV_DROP_EDGE e) + 1) ∧ s.RegsBut t [Reg.TIU_EV_DROP e] ∧
        t = { s with regs := t.regs, gpio := t.gpio, hif := { s.hif with syncEdges := t.hif.syncEdges } }) ∧
  ((∀ (e x : Fin 6) (stamp : Word) (rising : Bool) (s : State), s.Up → e.val ≠ 4 → e ≠ x → s.tiu.ev.length = 6 → s.evStamps e rising = true →
    (e.val = 5 → s.fget F.HIF_CFG_SYNC_MODE = 1 ∨ s.fget F.HIF_CFG_SYNC_MODE = 2 → s.hif.syncEdges.head? = some rising) →
    (∀ l, (s.evc e).last = some l → l + s.evBlank e ≤ stamp.toNat) →
    (s.fget (F.TIU_EV_CFG_MODE e) = 2 ∧ s.evStart e = x.val) ∨ (s.fget (F.TIU_EV_CFG_MODE e) = 1 ∧ (s.evc e).serves = some x.val) →
    ((s.evc x).wait = [] → (s.evc e).wait.length < 16 →
      ∃ t, exec (.eventEdge e stamp rising) s = .next t ∧ (t.evc e).wait = (s.evc e).wait ++ [stamp.toNat] ∧ (t.evc e).queue = (s.evc e).queue ∧
        (t.evc e).last = some stamp.toNat ∧ (∀ j, j ≠ e.val → t.evc j = s.evc j) ∧ s.RegsBut t [Reg.TIU_EV_FLG e] ∧ t.mem = s.mem) ∧
    ((s.evc x).wait = [] → 16 ≤ (s.evc e).wait.length →
      ∃ t, exec (.eventEdge e stamp rising) s = .next t ∧ (t.evc e).wait = (s.evc e).wait ∧
        t.fget (F.TIU_EV_DROP_FULL e) = min 65535 (s.fget (F.TIU_EV_DROP_FULL e) + 1) ∧ (∀ j, j ≠ e.val → t.evc j = s.evc j) ∧ t.mem = s.mem) ∧
    ∀ y w, (s.evc x).wait = y :: w →
      (s.fget (F.TIU_EV_CFG_MODE e) = 2 → (s.evc e).queue.length < 16 →
        ∃ t, exec (.eventEdge e stamp rising) s = .next t ∧ (t.evc x).wait = w ∧
          (t.evc e).queue = (s.evc e).queue ++ [⟨unsigned 32 (intervalOf stamp.toNat y).1, (intervalOf stamp.toNat y).2⟩] ∧
          t.fget (F.TIU_EV_FLG_RESULTS e) = min 65535 (s.fget (F.TIU_EV_FLG_RESULTS e) + 1) ∧ t.mem = s.mem) ∧
      (s.fget (F.TIU_EV_CFG_MODE e) = 1 → (s.evc x).queue.length < 16 →
        ∃ t, exec (.eventEdge e stamp rising) s = .next t ∧ (t.evc x).wait = w ∧
          (t.evc x).queue = (s.evc x).queue ++ [⟨unsigned 32 (intervalOf y stamp.toNat).1, (intervalOf y stamp.toNat).2⟩] ∧
          t.fget (F.TIU_EV_FLG_RESULTS x) = min 65535 (s.fget (F.TIU_EV_FLG_RESULTS x) + 1) ∧ t.mem = s.mem)) ∧
  ∀ stop start : Nat, (stop = start → intervalOf stop start = (0, 2)) ∧
    (start < stop → stop - start ≤ 2 ^ 31 - 1 → intervalOf stop start = (((stop - start : Nat) : Int), 0)) ∧
    (stop < start → start - stop ≤ 2 ^ 31 - 1 → intervalOf stop start = (-((start - stop : Nat) : Int), 4)) ∧
    (start + (2 ^ 31 - 1) < stop → intervalOf stop start = (2 ^ 31 - 1, 1)) ∧
    (stop + (2 ^ 31 - 1) < start → intervalOf stop start = (-(2 ^ 31), 5))) ∧
  (∀ (port : Fin 16) (stamp : Word) (x : Crossing) (c : ShotChord) (g : ChordCfg) (h : Shot) (s : State), s.Up →
    s.afe.shot = some h → h.chords = [c] → s.chordCfg c.chord = some g → g.portA = port.val → g.portB ≠ port.val → c.slot < 16 →
    s.fbit F.TIU_STATUS_LOCK = true → c.unlocked = false → s.passes c.chord x.rising x.swing = true → s.fbit F.MEM_FLIP_CTL_ARM = false →
    c.opened * 1664 ≤ stamp.toNat → stamp.toNat ≤ c.opened * 1664 + 512 * 2 ^ s.fget (F.AFE_SLOT_CTL_DECIM c.slot) * 1664 →
    c.nstA < 64 → c.nstA = 0 ∨ c.lastA + 533 ≤ stamp.toNat →
    (Ecc.decode false (s.symsAt ((slotAddr c.slot + 4 * c.nstA) / 16 * 16))).1 = .clean →
    ∃ t, exec (.zeroCrossing port stamp x) s = .next t ∧
      t.afe.shot = some { h with chords := [{ c with nstA := c.nstA + 1, lastA := stamp.toNat }] } ∧
      (∀ i, i < 4 → t.byte (slotAddr c.slot + 4 * c.nstA + i) = (leBytes 4 stamp.toNat).getD i 0) ∧
      (∀ k, k ∉ symKeys ((slotAddr c.slot + 4 * c.nstA) / 16 * 16) → t.byte k = s.byte k) ∧
      t.hif = s.hif ∧ t.ldg = s.ldg ∧ t.tiu.ev = s.tiu.ev)

/-! The rotation -/

/-- Every mark begins a rotation: LFT 0, no entry in progress, and nothing of the rotation before left in what it collects. In a quiet idle rotation of N
LFT it reports its length in ns, advances ROT_NUM, raises ROT_MARK by the divider, and the next rotation has the nominal length with the correction of
the mesh; memory, accumulators, operations and the epoch stay (R50 to R55, R75, R311). The model's choices here are log entries 32, 82 and 176. -/
def Obligations.MarkBeginsRotation : Prop :=
  (∀ (temp : BitVec 16) (fault : Option MarkFault) (s : State), s.Up →
    ∃ t, exec (.mark temp fault) s = .next t ∧ t.rot.lft = 0 ∧ t.rot.entry = none ∧ t.ldg.shotAt = none ∧ t.ldg.hostSet = none ∧
      t.ech.recs = [] ∧ t.flw.stepped = false ∧ t.msh.corr = none) ∧
  ∀ (temp : BitVec 16) (s : State), s.Up → s.QuietMark → s.requested = [] →
    ∃ t, exec (.mark temp none) s = .next t ∧ t.regN Reg.ROT_NUM = (s.regN Reg.ROT_NUM + 1) % 2 ^ 32 ∧
      t.regN Reg.ROT_LAST_DUR = correctedNs s.rot.len s.rateCorr % 2 ^ 32 ∧
      t.regN Reg.ROT_MARK_RPT = (s.regN Reg.ROT_NUM + 1) % 2 ^ 8 * 2 ^ 24 ∧
      t.rot.len = ((s.rotLft : Int) + s.msh.corr.getD 0).toNat ∧
      t.reg Reg.SYS_IRQ = (if s.fget F.ROT_IRQ_DIV_OFF = 0 ∧ (s.regN Reg.ROT_NUM + 1) % 2 ^ 32 % (s.fget F.ROT_IRQ_DIV_DIV + 1) = 0 then
        s.reg Reg.SYS_IRQ ||| 1 else s.reg Reg.SYS_IRQ) ∧
      t.hif = (if s.fget F.HIF_CFG_SYNC_MODE = 1 then { s.hif with sync := true, syncEdges := s.hif.syncEdges ++ [true] } else s.hif) ∧ t.mem = s.mem ∧ t.ldg.acc = s.ldg.acc ∧
      t.lens = s.lens ∧ t.fget F.SYS_EPOCH_EPOCH = s.fget F.SYS_EPOCH_EPOCH

/-- A commit request of one block is applied at the mark: every active register takes its pending value, REQ clears, SEQ advances, and the mark reports
the block; the other blocks stay. A new drive level is asked for in the next facet of the background, and a new gas table is checked (R92, R94, R99,
R226). A quiet idle rotation. The model's choice here is log entry 32. -/
def Obligations.MarkAppliesCommit : Prop :=
  ∀ b : CommitBlock, ∀ (temp : BitVec 16) (s : State), s.Up → s.QuietMark → s.requested = [b] →
    ∃ t, exec (.mark temp none) s = .next t ∧ (∀ a ∈ rwpAddrs (commitRegion b), t.reg a = s.reg (a + 0x800)) ∧ t.fget (commitReqF b) = 0 ∧
      t.fget (commitSeqF b) = (s.fget (commitSeqF b) + 1) % 256 ∧ t.ftest F.ROT_MARK_RPT_COMMITTED (commitRegion b) = true ∧
      (b = .afe → s.fget F.AFE_VDRV_LEVEL ≠ t.fget F.AFE_VDRV_LEVEL → t.pwr.vdrvReq = true) ∧
      (b = .ldg → t.fget F.LDG_STATUS_ZTAB_BAD = b2n t.zTabBad) ∧
      ∀ c : CommitBlock, c ≠ b → t.fget (commitSeqF c) = s.fget (commitSeqF c) ∧ ∀ a ∈ rwpAddrs (commitRegion c), t.reg a = s.reg a

/-- A mark at whose S5 a load is armed, in the idle rotation or RUN, applies it: the image is the one whose copy stands in memory, its schedule runs from
APPLY1 in the new length, the epoch advances by one with the cause of a reload and recovery, work in flight is discarded, and the mark reports it. A
mark without one keeps the image and the epoch, advances APPLY1 to APPLY2 and that to RUN with the load's end, reports its ledger step, and applies
the commits that are requested. Each reports its length and advances ROT_NUM (R37, R38, R53, R55, R80, R89, R92). The model's choices here are log
entries 32, 82 and 186. -/
def Obligations.MarkUnderImage : Prop :=
  (∀ (temp : BitVec 16) (s : State), s.Up → s.fget F.STI_STATUS_LOAD = 2 → s.lens = lsIDLE ∨ s.lens = lsRUN → s.ldg.storeErr = [] →
    ∃ t img, exec (.mark temp none) s = .next t ∧ t.image = some img ∧ img = readImage (t.peek activeCopy 16384) ∧ t.lens = lsAPPLY1 ∧
      t.fget F.STI_STATUS_LOAD = 3 ∧ t.fget F.STI_STATUS_ACTIVE = 1 ∧ t.regN Reg.STI_ACTIVE_ID = img.id % 2 ^ 32 ∧
      t.fget F.ROT_CFG_K = img.k % 2 ^ 3 ∧ t.rot.len = t.rotLft ∧ t.rot.entry = none ∧
      t.fget F.STI_LOADS_APPLIED = min 65535 (s.fget F.STI_LOADS_APPLIED + 1) ∧
      t.fget F.SYS_EPOCH_EPOCH = (s.fget F.SYS_EPOCH_EPOCH + 1) % 256 ∧ t.recovering = true ∧ t.fget F.SYS_FAULT_CAUSE_CAUSE = fcSTI_RELOAD ∧
      t.fget F.ROT_MARK_RPT_APPLY = 1 ∧ t.fget F.ROT_MARK_RPT_EPOCH = 1 ∧ t.regN Reg.ROT_NUM = (s.regN Reg.ROT_NUM + 1) % 2 ^ 32 ∧
      t.regN Reg.ROT_LAST_DUR = s.durNs % 2 ^ 32 ∧ t.fget F.AFE_STATUS_CENSUS = 0 ∧ t.tmu.conv = none ∧ t.tmu.dt = none ∧
      (∀ k, k < 16 → t.slotState k = slotFREE) ∧ (∀ b, t.fget (commitReqF b) = 0) ∧
      ∀ i, i < 16 → (s.opE i).st = .active → (s.opE i).autorel = false →
        (t.opE i).st = .complete ∧ ((t.opE i).status = Sts.DISCARDED → (t.opE i).epoch = t.fget F.SYS_EPOCH_EPOCH)) ∧
  ∀ (temp : BitVec 16) (s : State), s.Up → s.image.isSome = true → s.lens = lsAPPLY1 ∨ s.lens = lsAPPLY2 ∨ (s.lens = lsRUN ∧ s.fget F.STI_STATUS_LOAD ≠ 2) →
    s.ldg.storeErr = [] →
    ∃ t, exec (.mark temp none) s = .next t ∧ t.image = s.image ∧ t.fget F.SYS_EPOCH_EPOCH = s.fget F.SYS_EPOCH_EPOCH ∧
      t.recovering = s.recovering ∧ t.regN Reg.ROT_NUM = (s.regN Reg.ROT_NUM + 1) % 2 ^ 32 ∧
      t.regN Reg.ROT_LAST_DUR = s.durNs % 2 ^ 32 ∧ t.regN Reg.ROT_LAST_DUR_HI = s.durNs / 2 ^ 32 % 2 ^ 32 ∧
      t.lens = (if s.lens = lsAPPLY1 then lsAPPLY2 else lsRUN) ∧
      t.fget F.STI_STATUS_LOAD = (if s.lens = lsAPPLY2 ∧ s.fget F.STI_STATUS_LOAD = 3 then 0 else s.fget F.STI_STATUS_LOAD) ∧
      t.fget F.ROT_MARK_RPT_LSTEP = b2n (!s.ldg.clearReq) ∧ t.fget F.ROT_MARK_RPT_APPLY = 0 ∧ t.fget F.ROT_MARK_RPT_EPOCH = 0 ∧
      t.fget F.ROT_MARK_RPT_LSKIP = 0 ∧ (s.lens = lsAPPLY1 ∨ s.lens = lsAPPLY2 → ∀ c, s.tmu.conv = some c → c.why = .apply1 ∨ c.why = .apply2 →
        t.tmu.conv = none) ∧
      ∀ b : CommitBlock, t.fget (commitReqF b) = 0 ∧ t.fget (commitSeqF b) = (s.fget (commitSeqF b) + s.fget (commitReqF b)) % 256 ∧
        t.ftest F.ROT_MARK_RPT_COMMITTED (commitRegion b) = (s.fget (commitReqF b) == 1) ∧
        (s.fget (commitReqF b) = 1 → ∀ a ∈ rwpAddrs (commitRegion b), t.reg a = s.reg (a + 0x800))

/-- The mark lead is the last LFT and wakes LDG; the SYNC pulse of mode 1 ends, and in another mode the pin stays (R54, R311). A pulse output with a
source, a backlog, a period and no pulse starts one and lowers its backlog by 1, else nothing changes; the end of the width ends the pulse (R239). The
model's choices here are log entries 5, 6 and 85. -/
def Obligations.LeadSyncAndPulses : Prop :=
  ((∀ s : State, s.Up → ∃ t, exec .markLead s = .next t ∧ t.rot = { s.rot with lft := s.rot.len - 1 } ∧
    (t.isOn domLDG = true ∨ (t.wakeOfDom domLDG).isSome = true) ∧ t.mem = s.mem ∧ t.hif = s.hif ∧ t.ldg = s.ldg) ∧
  ∀ s : State, s.Up →
    (s.fget F.HIF_CFG_SYNC_MODE = 1 → s.hif.sync = true →
      exec .syncPulseEnd s = .next { s with hif := { s.hif with sync := false, syncEdges := s.hif.syncEdges ++ [false] } }) ∧
    (s.fget F.HIF_CFG_SYNC_MODE ≠ 1 ∨ s.hif.sync = false → exec .syncPulseEnd s = .next s)) ∧
  (∀ (p : Fin 2) (s : State), s.Up → s.ldg.pulses.length = 2 →
    (s.fget (F.LDG_PULSE_ST_BACKLOG p) ≠ 0 → s.fget (F.LDG_PULSE_PER_PER p) ≠ 0 → s.pulseSrc p ≠ 0 → (s.pulse p).active = false →
      ∃ t, exec (.pulseStart p) s = .next t ∧ t.fget (F.LDG_PULSE_ST_BACKLOG p) + 1 = s.fget (F.LDG_PULSE_ST_BACKLOG p) ∧
        t.ldg = { s.ldg with pulses := setAt s.ldg.pulses p { s.pulse p with active := true } } ∧
        t = { s with regs := t.regs, ldg := t.ldg } ∧ s.RegsBut t [Reg.LDG_PULSE_ST p]) ∧
    (s.fget (F.LDG_PULSE_ST_BACKLOG p) = 0 ∨ s.fget (F.LDG_PULSE_PER_PER p) = 0 ∨ s.pulseSrc p = 0 ∨ (s.pulse p).active = true →
      exec (.pulseStart p) s = .next s) ∧
    exec (.pulseEnd p) s =
      .next { s with ldg := { s.ldg with pulses := setAt s.ldg.pulses p { s.pulse p with active := false } } })

/-- A facet that a shortened rotation does not reach never begins (R52). One whose entry is inactive, or that the Lens does not run, only moves the
rotation on; one that begins in a preemption waits for its end, and a FLASH entry that a buoy passes in recovery counts a missed flash (R287). A SHOT,
CONV or ECHO entry of a full rotation is entered and its domains are ON or wake; a SHOT latches the temperature. At its end no entry is in progress,
and the domains that the Lens woke and that the next entry, a hold or the fog frame does not keep are no longer ON; a facet end also rests what a
refused sleep set had woken and the memory of a scrub (R60 to R63, R70, R71, R326, R345, R354). The model's choices here are log entries 5, 6, 138,
158, 174 and 190. -/
def Obligations.FacetsRun : Prop :=
  (∀ (f : Fin 64) (s : State), s.Up → s.occurs f = false → exec (.facetStart f) s = .next s) ∧
  (∀ (f : Fin 64) (s : State), s.Up → s.occurs f = true →
    ((s.schedules = false ∧ s.missesFlash f = false) ∨ s.startsEntry f = false →
      ∃ t, exec (.facetStart f) s = .next t ∧ t.rot = { s.rot with lft := max 2 (f * s.facetLft) } ∧ t = { s with regs := t.regs, rot := t.rot } ∧
        s.RegsBut t [Reg.ROT_NOW]) ∧
    (s.schedules = false → s.missesFlash f = true → s.startsEntry f = true →
      ∃ t, exec (.facetStart f) s = .next t ∧ t.rot = { s.rot with lft := max 2 (f * s.facetLft) } ∧
        t.msh = { s.msh with window := false, closing := false } ∧
        t.fget F.MSH_CNT_MISSED = min 65535 (s.fget F.MSH_CNT_MISSED + 1) ∧ t.rad = s.rad ∧ t.hif.ops = s.hif.ops ∧ t.ldg = s.ldg) ∧
    (s.schedules = true → s.startsEntry f = true → s.rot.fog = true →
      ∃ t, exec (.facetStart f) s = .next t ∧ t.rot = { s.rot with lft := max 2 (f * s.facetLft), late := s.rot.late ++ [f.val] } ∧
        t = { s with regs := t.regs, rot := t.rot, ldg := t.ldg } ∧ s.RegsBut t [Reg.ROT_NOW] ∧
        t.ldg = (if facetKind (s.facetWord f) = kNVM then { s.ldg with due := s.ldg.due ++ s.ldg.redo, redo := [], perDue := s.ldg.periodic }
          else s.ldg)) ∧
    (s.schedules = true → s.startsEntry f = true → s.rot.fog = false → s.rotLft ≤ s.rot.len →
      facetKind (s.facetWord f) = kSHOT ∨ facetKind (s.facetWord f) = kCONV ∨ facetKind (s.facetWord f) = kECHO →
      ∃ t, exec (.facetStart f) s = .next t ∧ t.rot = { s.rot with lft := max 2 (f * s.facetLft), entry := some f.val, woke := t.rot.woke } ∧
        (∀ d, d < 27 → (s.needMask (s.facetWord f)).testBit d = true → s.domPresent d = true →
          t.isOn d = true ∨ (t.wakeOfDom d).isSome = true) ∧
        (facetKind (s.facetWord f) = kSHOT → t.flw.temp = s.flowTemp) ∧ t.mem = s.mem ∧ t.hif.ops = s.hif.ops ∧ t.ldg = s.ldg)) ∧
  ∀ (vbat : BitVec 16) (s : State), s.Up →
    (s.rot.entry = none → s.pwr.restNext = 0 → s.rot.woke = 0 → s.memu.scrubDom = none →
      exec (.facetEnd vbat) s = .next { s with pwr := { s.pwr with entered := [], enteredLft := s.rot.lft } }) ∧
    (s.rot.entry = none → ∃ t, exec (.facetEnd vbat) s = .next t ∧ t.rot = { s.rot with woke := 0 } ∧
      (∀ d, d < 27 → s.pwr.restNext.testBit d = true ∨ s.rot.woke.testBit d = true ∨ s.memu.scrubDom = some d → s.fogHolds.testBit d = false →
        s.held d = false → t.isOn d = false) ∧ t.hif = s.hif ∧ t.ldg = s.ldg) ∧
    (∃ t, exec (.facetEnd vbat) s = .next t ∧ t.rot.entry = none) ∧
    ∀ n, s.rot.entry = some n →
      facetKind (s.facetWord n) = kSHOT ∨ facetKind (s.facetWord n) = kCONV ∨ facetKind (s.facetWord n) = kECHO →
      ∃ t, exec (.facetEnd vbat) s = .next t ∧ t.rot = { s.rot with entry := none, woke := t.rot.woke } ∧
        (∀ d, d < 27 → (s.needMask (s.facetWord n)).testBit d = true ∨ s.rot.woke.testBit d = true → (s.nextNeeds n).testBit d = false →
          s.fogHolds.testBit d = false → s.held d = false → t.isOn d = false) ∧
        (facetKind (s.facetWord n) = kSHOT → t.fget F.PWR_VBAT_LOADED = vbat.toNat % 2 ^ 13) ∧ t.hif.ops = s.hif.ops ∧ t.ldg = s.ldg

/-- The apply rotations and the end of a validation: APPLY1 stores the census of every port and converts every element once, APPLY2 asks for the drive
rail and converts; outside its state a row changes nothing. A validation without an error arms the load and its STI_LOAD is DONE with the rotation;
one with an error ends the load, is counted and shown, and the STI_LOAD is REFUSED; a boot load that fails leaves no image (R76 to R80, R89, R90,
R122). The model's choices here are log entries 6, 27, 147, 175 and 185. -/
def Obligations.ApplyAndLoad : Prop :=
  (∀ (rises : List (Option Nat)) (s : State), s.Up →
    (s.lens ≠ lsAPPLY1 → exec (.apply1Work rises) s = .next s) ∧
    (s.lens = lsAPPLY1 → s.ports ≤ rises.length →
      ∃ t, exec (.apply1Work rises) s = .next t ∧ t.fget F.AFE_STATUS_CENSUS = 1 ∧
        (∀ p, p < s.ports → t.fget (F.AFE_CENSUS_STATE p) = (s.censusPort (rises.getD p none)).1 ∧
          t.fget (F.AFE_CENSUS_CAP p) = (s.censusPort (rises.getD p none)).2) ∧
        (s.elemMask ≠ 0 → s.tmu.conv = none → t.tmu.conv = some { why := .apply1, mask := s.elemMask, reps := 1 }) ∧
        (s.elemMask = 0 → t.tmu = s.tmu) ∧ t.mem = s.mem ∧ t.hif.ops = s.hif.ops)) ∧
  (∀ s : State, s.Up →
    (s.lens ≠ lsAPPLY2 → exec .apply2Work s = .next s) ∧
    (s.lens = lsAPPLY2 →
      ∃ t, exec .apply2Work s = .next t ∧ t.fget F.AFE_STATUS_VDRV_OK = 0 ∧
        (t.pwr.link = some ⟨.vdrv, 2, s.vdrvLevel⟩ ∨ ⟨.vdrv, 2, s.vdrvLevel⟩ ∈ t.pwr.linkQ) ∧
        (s.elemMask ≠ 0 → s.tmu.conv = none → t.tmu.conv = some { why := .apply2, mask := s.elemMask, reps := s.navg }) ∧
        (s.elemMask = 0 → t.tmu = s.tmu) ∧ t.mem = s.mem ∧ t.hif.ops = s.hif.ops)) ∧
  ∀ s : State, s.Up → s.rot.entry = none →
    (s.fget F.STI_STATUS_LOAD ≠ 1 → exec .stiValidationDone s = .next s) ∧
    (s.fget F.STI_STATUS_LOAD = 1 →
      ((s.checkStaged).1 = none → ∃ t, exec .stiValidationDone s = .next t ∧ t.fget F.STI_STATUS_LOAD = 2 ∧ t.fget F.STI_STATUS_ERROR = 0 ∧
        t.reg Reg.STI_ERR_AT = 0 ∧ t.regN Reg.STI_ARM_ROT = s.regN Reg.ROT_NUM ∧
        t.fget F.STI_LOADS_REJECTED = s.fget F.STI_LOADS_REJECTED ∧ t.image = s.image ∧ t.ldg = s.ldg ∧
        (s.fget F.STI_STATUS_BOOT = 0 → ∀ i, s.loadingOp = some i → s.Completed t i Sts.DONE 0 (s.regN Reg.ROT_NUM)) ∧
        (s.fget F.STI_STATUS_BOOT = 1 ∨ s.loadingOp = none → t.hif = s.hif)) ∧
      ∀ e, (s.checkStaged).1 = some e → ∃ t, exec .stiValidationDone s = .next t ∧ t.fget F.STI_STATUS_LOAD = 0 ∧
        t.fget F.STI_STATUS_ERROR = e.code % 2 ^ 5 ∧ t.fget F.STI_ERR_AT_ENTRY = e.entry % 2 ^ 8 ∧
        t.fget F.STI_LOADS_REJECTED = min 65535 (s.fget F.STI_LOADS_REJECTED + 1) ∧ t.ldg.acc = s.ldg.acc ∧
        (s.fget F.STI_STATUS_BOOT = 0 → t.image = s.image ∧ t.ldg = s.ldg ∧ (s.loadingOp = none → t.hif = s.hif) ∧
          ∀ i, s.loadingOp = some i → s.Completed t i Sts.REFUSED 0 0) ∧
        (s.fget F.STI_STATUS_BOOT = 1 → t.image = none ∧
          (s.image.isSome = true → t.lens = (if s.lens = lsRECOVER then lsRECOVER else lsIDLE) ∧ t.regN Reg.SYS_DUTY = 0 ∧
            t.fget F.ROT_CFG_CEILING = 0 ∧ t.fget F.STI_STATUS_ACTIVE = 0)))

/-- A scheduled conversion, its domains ON and the mark window past, starts where it fits and arms channel 20, else it is late; each discharge that the
running channel stamps, or timeout, adds its time and arms the channel for the next, and another edge does nothing; after the last one its results are
written and SEQ advances. A CONVERT starts so in its window, or is TOO_LATE; it is DONE with the elements that are good and bad, or ends CANCELLED at
the first discharge after its deadline (R54, R63, R136, R195, R196, R209 to R212, R306). The model's choices here are log entries 6 and 158. -/
def Obligations.ConversionRuns : Prop :=
  (∀ (n : Nat) (s : State), s.Up → s.tmu.conv = none → s.entryReady = true → pastWindow n = true → s.inKind kCONV = true →
    (facetArg s.nowWord % 32).land s.elemMask ≠ 0 →
    (s.fits (s.rot.entry.getD 0) n (s.convUs ((facetArg s.nowWord % 32).land s.elemMask) s.navg) = true →
      ∃ t, exec (.conversionStart n) s = .next t ∧
        t.tmu.conv = some { why := .sched, mask := (facetArg s.nowWord % 32).land s.elemMask, reps := s.navg } ∧
        t.fget F.TMU_STATUS_BUSY = 1 ∧ t.evState 4 = evARMED ∧ t.mem = s.mem ∧ t.hif = s.hif) ∧
    (s.fits (s.rot.entry.getD 0) n (s.convUs ((facetArg s.nowWord % 32).land s.elemMask) s.navg) = false →
      ∃ t, exec (.conversionStart n) s = .next t ∧ t.fget F.TMU_STATUS_LATE = 1 ∧
        t.fget F.TMU_CNT_LATE = min 65535 (s.fget F.TMU_CNT_LATE + 1) ∧ s.OnlyRegs t [Reg.TMU_STATUS, Reg.TMU_CNT])) ∧
  (∀ (n i : Nat) (s : State), s.Up → s.measuring = false → s.windowReady 1 n = true → s.inKind kCONV = false → s.hostQueue.head? = some i →
    (s.opE i).type = opCONVERT →
    (s.fits (s.rot.entry.getD 0) n (s.convUs ((s.opE i).par 0 1) s.navg) = true →
      ∃ t, exec (.conversionStart n) s = .next t ∧ t.tmu.conv = some { why := .op i, mask := (s.opE i).par 0 1, reps := s.navg } ∧
        t.fget F.TMU_STATUS_BUSY = 1 ∧ t.evState 4 = evARMED ∧ t.opE i = { s.opE i with started := true } ∧
        (∀ j, j ≠ i → t.opE j = s.opE j) ∧ t.mem = s.mem ∧ t.ldg = s.ldg) ∧
    (s.fits (s.rot.entry.getD 0) n (s.convUs ((s.opE i).par 0 1) s.navg) = false →
      ∃ t, exec (.conversionStart n) s = .next t ∧ s.Completed t i Sts.TOO_LATE 0 0 ∧ s.RegsBut t [Reg.SYS_IRQ] ∧
        t = { s with regs := t.regs, hif := t.hif })) ∧
  (∀ (c : Conv) (i : Nat) (s : State), s.Up → s.tmu.conv = some c → c.why = .op i → (s.opE i).st = .active →
    (s.cyclesLeft = 0 →
      ∃ t, exec .conversionComplete s = .next t ∧ t.tmu.conv = none ∧ t.fget F.TMU_STATUS_BUSY = 0 ∧
        t.fget F.TMU_STATUS_SEQ = (s.fget F.TMU_STATUS_SEQ + 1) % 2 ^ 16 ∧ s.Completed t i Sts.DONE 0 (t.convWord c.mask) ∧ t.mem = s.mem) ∧
    (1 < s.cyclesLeft → (s.opE i).expiring = true →
      ∃ t, exec .dischargeTimeout s = .next t ∧ t.tmu = { s.tmu with conv := none } ∧ t.fget F.TMU_STATUS_BUSY = 0 ∧
        t.fget F.TMU_CNT_ABANDONED = min 65535 (s.fget F.TMU_CNT_ABANDONED + 1) ∧ s.Completed t i Sts.CANCELLED upDEADLINE 0 ∧ t.mem = s.mem)) ∧
  ∀ (c : Conv) (s : State), s.Up → s.tmu.conv = some c → c.why = .sched ∨ (∃ i, c.why = .op i ∧ (s.opE i).expiring = false) →
    (s.cyclesLeft ≠ 0 →
      (∀ (stamp : Word) (rising : Bool), s.evStamps 4 rising = false → exec (.eventEdge 4 stamp rising) s = .next s) ∧
      (∀ (stamp : Word) (rising : Bool), s.evStamps 4 rising = true → ∃ t, exec (.eventEdge 4 stamp rising) s = .next t ∧
        t.tmu.conv = some { c with times := c.times ++ [some ((stamp.toNat : Int) - s.fget F.TMU_TRIM_TDEL)] } ∧
        t.evState 4 = (if s.cyclesLeft = 1 then evDONE else evARMED) ∧ t.mem = s.mem ∧ t.hif = s.hif) ∧
      (∃ t, exec .dischargeTimeout s = .next t ∧ t.tmu.conv = some { c with times := c.times ++ [none] } ∧
        t.evState 4 = (if s.cyclesLeft = 1 then evIDLE else evARMED) ∧ t.mem = s.mem ∧ t.hif = s.hif) ∧
      exec .conversionComplete s = .next s) ∧
    (s.cyclesLeft = 0 → c.why = .sched →
      ∃ t, exec .conversionComplete s = .next t ∧ t.tmu.conv = none ∧ t.fget F.TMU_STATUS_BUSY = 0 ∧
        t.fget F.TMU_STATUS_SEQ = (s.fget F.TMU_STATUS_SEQ + 1) % 2 ^ 16 ∧ t.tmu.rot = s.regN Reg.ROT_NUM ∧ t.mem = s.mem ∧ t.hif = s.hif ∧
        t.ldg = s.ldg)

/-! Ledger NVM, NVM_WRITE, SCRUB and pulses -/

/-- The end of the commit interval is noted for the first NVM facet that begins after it. A record of a commit that may go on, in an NVM facet or as a
power-fail commit or one that a device fault found, advances the write position: a word that fails verify ends the commit, which is repeated in the
next NVM facet; else, with no flip mask armed, the next record follows, or the commit is complete, its SEQ shows and its operation is DONE, and a
repeat that is due in the facet starts. An erase of a ledger page leaves it erased and no longer torn, and nothing else changes (R39, R62, R232, R234,
R237). The model's choices here are log entries 6, 41 and 125. -/
def Obligations.LedgerRecords : Prop :=
  (∀ s : State, s.Up → exec .periodicCommit s = .next { s with ldg := { s.ldg with periodic := true } }) ∧
  (∀ (bad : Option (Fin 4)) (us : Nat) (c : LdgCommit) (s : State), s.Up → s.ldg.commit = some c →
    c.cause = 2 ∨ c.runOn = true ∨ (s.rot.fog = false ∧ s.inKind kNVM = true) →
    s.inKind kNVM = false ∨ s.rot.fog = true ∨ (s.ldg.perDue = false ∧ s.waitingCommit = none) →
    ∃ t, exec (.ledgerRecordProgram bad us) s = .next t ∧ t.fget F.LDG_NVMPOS_POS = (s.fget F.LDG_NVMPOS_POS + 1) % 1024 ∧
      t.ldg.acc = s.ldg.acc ∧
      (bad.isSome = true → (s.inKind kNVM = false ∨ s.rot.fog = true ∨ s.ldg.due = [] → t.ldg.commit = none) ∧ t.fget F.LDG_EVT_COMMIT_FAIL = 1 ∧
        t.ldg.redo = s.ldg.redo ++ [if c.cause = 1 then 0 else c.cause]) ∧
      (bad = none → s.fbit F.MEM_FLIP_CTL_ARM = false →
        (c.done + 1 < 7 → t.ldg.commit = some { c with done := c.done + 1 } ∧ t.regN Reg.LDG_SEQ = s.regN Reg.LDG_SEQ) ∧
        (7 ≤ c.done + 1 → (s.inKind kNVM = false ∨ s.rot.fog = true ∨ s.ldg.due = [] → t.ldg.commit = none) ∧
          (∀ x l, s.inKind kNVM = true → s.rot.fog = false → s.ldg.due = x :: l →
            t.ldg.due = l ∧ ∃ d, t.ldg.commit = some d ∧ d.cause = x ∧ d.done = 0 ∧ d.op = none) ∧
          t.regN Reg.LDG_SEQ = c.seq % 2 ^ 32 ∧ (c.cause = 2 → t.fget F.LDG_STATUS_PF_DONE = 1) ∧
          ∀ i, c.op = some i → i < 16 → (s.opE i).st = .active → (s.opE i).autorel = false →
            (t.opE i).st = .complete ∧ (t.opE i).status = Sts.DONE ∧ (t.opE i).result = c.seq))) ∧
  ∀ (p : Nat) (s : State), s.Up → s.ldg.erase = some p → p < 32 →
    (s.inKind kNVM = true → s.rot.fog = false → s.ldg.commit = none →
      ∃ t, exec .ledgerPageErase s = .next t ∧
        (∀ k, 0x300000 + 0x800 * p ≤ k → k < 0x300000 + 0x800 * (p + 1) → t.byte k = 0xFF) ∧
        (∀ k, k < 0x1000000 → k < 0x300000 + 0x800 * p ∨ 0x300000 + 0x800 * (p + 1) ≤ k → t.byte k = s.byte k) ∧
        t.ldg.torn = s.ldg.torn.filter (· != p) ∧ t.regs = s.regs ∧ t.hif = s.hif) ∧
    (s.inKind kNVM = false → exec .ledgerPageErase s = .next s)

/-- An attempt of an NVM_WRITE: with every word taking its program the next page follows, and after the last the operation is DONE with the pages and the
poisoned words copied; with one that does not the page is tried again, and the third failure ends the operation CANCELLED with VERIFY_FAIL. A word of
a scrub is read and counted, and the last ends it DONE; a word of BANK0 or BANK1 is found with its content, since its loss is a device fault (R326,
R332, R333, R343). The entry in progress has its domains ON (R63). The model's choices here are log entries 87 and 156. -/
def Obligations.PagesAndScrub : Prop :=
  (∀ (bad : Option (Fin 128)) (j : NvmJob) (s : State), s.Up → s.inKind kNVM = true → s.entryReady = true → s.ldg.commit = none →
    s.memu.nvm = some j → s.opExpiring j.op = false → j.dst + 0x800 * (j.done + 1) ≤ 0x300000 →
    (bad = none → s.fbit F.MEM_FLIP_CTL_ARM = false → j.done + 1 < j.pages →
      ∃ t p, exec (.nvmPageAttempt bad) s = .next t ∧ t.memu.nvm = some { j with done := j.done + 1, fails := 0, poison := p } ∧
        t.opE j.op = { s.opE j.op with lower := 0 } ∧ (∀ i, i ≠ j.op → t.opE i = s.opE i) ∧ t.ldg = s.ldg) ∧
    (bad = none → s.fbit F.MEM_FLIP_CTL_ARM = false → j.pages ≤ j.done + 1 → s.activeOps opNVM_WRITE = [j.op] →
      ∃ t p, exec (.nvmPageAttempt bad) s = .next t ∧ s.Completed t j.op Sts.DONE 0 (j.done + 1 + min 0xFFFF p * 2 ^ 16) ∧
        t.memu.nvm = none ∧ t.ldg = s.ldg) ∧
    (bad.isSome = true → j.fails + 1 < 3 →
      ∃ t, exec (.nvmPageAttempt bad) s = .next t ∧ t.memu.nvm = some { j with fails := j.fails + 1 } ∧
        ((s.opE j.op).st = .active → (t.opE j.op).lower = loVERIFY_FAIL) ∧ t.ldg = s.ldg) ∧
    (bad.isSome = true → 3 ≤ j.fails + 1 → j.op < 16 → (s.opE j.op).st = .active → (s.opE j.op).autorel = false →
      ∃ t, exec (.nvmPageAttempt bad) s = .next t ∧ (t.opE j.op).st = .complete ∧ (t.opE j.op).status = Sts.CANCELLED ∧
        (t.opE j.op).causes = 16 * loVERIFY_FAIL ∧ t.ldg = s.ldg)) ∧
  ∀ (i done : Nat) (s : State), s.Up → s.bgFacet = true → s.entryReady = true → s.pwr.vdrvReq = false → s.memu.scrub = some (i, done) →
    s.bgOps = [i] → (s.opE i).started = true → (s.opE i).expiring = false →
    (∀ r, regionOf ((s.opE i).par 0 3 + done) = some r → r < 2 → s.Intact r) →
    (done + 16 < (s.opE i).par 4 4 →
      ∃ t, exec .scrubWord s = .next t ∧ t.memu.scrub = some (i, done + 16) ∧
        t.regN Reg.MEM_SCR_READ = (s.regN Reg.MEM_SCR_READ + 1) % 2 ^ 32 ∧ t.hif.ops = s.hif.ops ∧ t.ldg = s.ldg) ∧
    ((s.opE i).par 4 4 ≤ done + 16 → (s.opE i).autorel = false →
      ∃ t, exec .scrubWord s = .next t ∧ t.memu.scrub = none ∧ (t.opE i).st = .complete ∧ (t.opE i).status = Sts.DONE ∧ t.ldg = s.ldg)

/-! The radio and the mesh -/

/-- A minute boundary turns the governor's bins where no fog frame is queued. A listen that hears less than the threshold lets the frame go on air; a busy
one of an own frame or of a join request with listens left waits for another. The last bit counts the frame: a host frame's operation completes with
its airtime, an own frame waits for its answer. Nothing else is there for the radio to begin (R47, R248 to R253, R281). The model's choices here are
log entries 51 and 169. -/
def Obligations.TransmitSteps : Prop :=
  (∀ s : State, s.Up → s.queue 2 = [] →
    exec .governorMinute s = .next { s with rad := { s.rad with bins := s.rad.bins.map fun b => (0 :: b).take 61 } }) ∧
  (∀ (rssi : Byte) (n : Nat) (j : TxJob) (s : State), s.Up → s.rad.job = some j → j.listen = true →
    (signed 8 rssi.toNat < s.fsgn F.RAD_LBT_THRESH →
      ∃ t, exec (.lbtListenEnd rssi n) s = .next t ∧ t.rad = { s.rad with job := some { j with listen := false } } ∧
        t.fget F.RAD_RSSI_CCA = rssi.toNat ∧ t = { s with regs := t.regs, rad := t.rad } ∧ s.RegsBut t [Reg.RAD_RSSI]) ∧
    (s.fsgn F.RAD_LBT_THRESH ≤ signed 8 rssi.toNat → s.rot.fog = false → s.rad.busy + 1 < s.lbtTries →
      (∃ c fl, j.why = .own c fl) ∨ (∃ fl, j.why = .join fl) →
      s.rot.entry = none ∨ s.DataReady →
      ∃ t, exec (.lbtListenEnd rssi n) s = .next t ∧ t.rad = { s.rad with job := none, wait := some j.why, busy := s.rad.busy + 1 } ∧
        t.fget F.RAD_TXCNT_BUSY = min 65535 (s.fget F.RAD_TXCNT_BUSY + 1) ∧ t = { s with regs := t.regs, rad := t.rad })) ∧
  ∀ (n : Nat) (j : TxJob) (s : State), s.Up → s.rad.job = some j → j.listen = false →
    (∀ i, j.why = .host i → i < 16 → (s.opE i).st = .active → (s.opE i).autorel = false → s.RadioQuiet [i] [] →
      ∃ t, exec (.transmissionEnd n) s = .next t ∧ t.rad.job = none ∧ t.fget F.RAD_TXCNT_TX = min 65535 (s.fget F.RAD_TXCNT_TX + 1) ∧
        (t.opE i).st = .complete ∧ (t.opE i).status = Sts.DONE ∧ (t.opE i).result = j.air ∧ t.fget F.SYS_IRQ_OP_DONE = 1 ∧ t.msh = s.msh) ∧
    (∀ fl o rest, j.why = .own 0 fl → s.queue 0 = o :: rest → o.dst ≠ 0xFFFF → s.isWmMac = false →
      s.rot.entry = none ∨ s.rot.fog = true ∨ s.DataReady →
      ∃ t, exec (.transmissionEnd n) s = .next t ∧ t.rad.job = none ∧ t.fget F.RAD_TXCNT_TX = min 65535 (s.fget F.RAD_TXCNT_TX + 1) ∧
        t.msh = { s.msh with await := some (.own 0 fl) } ∧ t.hif = s.hif)

/-- The end of an SFD with the receiver open and no flash window past is stamped with the channel it came on, else it is ignored. A frame of a host scan
whose checks pass is delivered to the lowest free buffer entry and counted; one with a feature the device lacks is only counted bad. The dwell ends
the scan with its counts, once no frame is arriving. Nothing else is there for the radio to begin (R243, R254, R255, R262, R264). The model's choices
here are log entries 6, 51 and 154. -/
def Obligations.ReceiveSteps : Prop :=
  (∀ (n : Nat) (s : State), s.Up →
    (s.rxOpen = true → s.msh.window = false ∨ 64 * n ≤ s.flashClose →
      exec (.sfdEnd n) s = .next { s with rad := { s.rad with rx := some ⟨n, n * 64 / lftUnits, s.regN Reg.ROT_NUM, s.rxChan⟩ } }) ∧
    (s.rxOpen = false → exec (.sfdEnd n) s = .next s)) ∧
  (∀ (f : RxFrame) (st : RxStart) (s : State), s.Up → s.rad.rx = some st → s.macMode ≠ 0 →
    (f.unsup = true → s.rad.scan = none → s.msh.window = false → s.RadioQuiet [] [] →
      ∃ t, exec (.frameReceived f) s = .next t ∧ t.rad = { s.rad with rx := none } ∧
        t.fget F.RAD_CNT_RX_BAD = min 65535 (s.fget F.RAD_CNT_RX_BAD + 1) ∧ s.RegsBut t [Reg.RAD_CNT] ∧ t.hif = s.hif) ∧
    (∀ c q, f.unsup = false → s.checksPass f = true → s.inKind kDATA = true → s.rad.scan = some c → c.ended = false → s.freeRx = some q →
      s.rot.fog = true ∨ s.DataReady →
      ∃ t, exec (.frameReceived f) s = .next t ∧ t.rad = { s.rad with rx := none, scan := some { c with got := c.got + 1 } } ∧
        t.fget F.RAD_CNT_RX_OK = min 65535 (s.fget F.RAD_CNT_RX_OK + 1) ∧ t.fget F.SYS_IRQ_RX_FRAME = 1 ∧
        t.fget F.RAD_RSSI_LAST = f.rssi.toNat ∧
        t.fget (F.RAD_RXD_LEN q) = min 512 f.psdu.length ∧ t.fget (F.RAD_RXD_FULL q) = 1 ∧ t.fget (F.RAD_RXD_CHECK_OK q) = 1 ∧
        (∀ k, k < min 512 f.psdu.length → bitsOf (t.regN (rxWord q (k / 4))) (8 * (k % 4)) 8 = (f.psdu.getD k 0).toNat) ∧
        (∀ p, p < 4 → p ≠ q → t.reg (Reg.RAD_RXD p) = s.reg (Reg.RAD_RXD p)))) ∧
  ∀ (c : Scan) (s : State), s.Up → s.rad.scan = some c →
    (s.rad.rx = none → c.op < 16 → (s.opE c.op).st = .active → (s.opE c.op).autorel = false → s.RadioQuiet [] [c.op] →
      ∃ t, exec .scanDwellEnd s = .next t ∧ t.rad = { s.rad with scan := none } ∧ (t.opE c.op).st = .complete ∧
        (t.opE c.op).status = Sts.DONE ∧ (t.opE c.op).result = min 255 c.got + 256 * min 255 c.other) ∧
    (s.rad.rx.isSome = true → s.rot.entry = none ∨ s.rot.fog = true ∨ s.DataReady →
      exec .scanDwellEnd s = .next { s with rad := { s.rad with scan := some { c with ended := true } } })

/-- A missing answer to a direct attempt of a report with attempts left counts it and waits; the end of a wait starts the attempt of a built frame that
fits its facet. An acknowledgement due is built under the next frame counter and sent, or dropped where a frame is on air, in a preemption, or where
it would reach into the mark lead; a built downlink is sent after its acknowledgement. Every frame carries its FCS (R258, R267, R274, R281, R283). The
model's choices here are log entries 56, 154 and 155. -/
def Obligations.MeshAnswers : Prop :=
  (∀ (o : Own) (rest : List Own) (s : State), s.Up → s.msh.await = some (.own 0 false) → s.queue 0 = o :: rest → o.kind = .report →
    s.isWmMac = false → o.tries + 1 < s.tries → s.rot.entry = none ∨ s.rot.fog = true ∨ s.DataReady →
    ∃ t, exec .answerWindowEnd s = .next t ∧ t.msh.await = none ∧ t.queue 0 = { o with tries := o.tries + 1, lower := loNO_ACK } :: rest ∧
      t.rad = { s.rad with wait := some (.own 0 false), busy := 0 } ∧ t.regs = s.regs ∧ t.hif = s.hif) ∧
  (∀ (o : Own) (rest : List Own) (n : Nat) (s : State), s.Up → s.rad.wait = some (.own 0 false) → s.txBusy = false → s.rot.fog = false →
    s.inKind kDATA = true → s.queue 0 = o :: rest → o.fcnt = some n → o.kind = .report → o.held = false → s.isWmMac = false → s.maySend o = true →
    s.wantsFlood o = false → s.ownAttemptUs o ≤ s.leftUs → s.msh.fcntEnd = false →
    s.Clear (s.ownAir o (s.ownFrame o n false)) (chanOf s.light s.evt) false →
    ∃ t, exec .retryWaitEnd s = .next t ∧
      t.OnAir (.own 0 false) (s.ownFrame o n false) (s.ownAir o (s.ownFrame o n false)) (chanOf s.light s.evt) ∧
      t.msh.cur = some 0 ∧ t.rad.wait = none ∧ t.queue 0 = { o with booked := false } :: rest) ∧
  (∀ (a : Answer) (p : List Byte) (s : State), s.Up → s.msh.answer = some a → s.txBusy = false → s.rot.fog = false →
    s.clearOfMark (s.meshAir (9 + a.payload.length + 8) (a.type == tyACK)) = true → s.msh.fcntEnd = false → s.regN Reg.MSH_FCNT % 2 ^ 20 < 2 ^ 20 - 1 →
    p = withFcs (buildFrame ⟨a.type, a.cls, if s.isKeeper then 0 else s.fget F.MSH_SHORT_SHORT, a.dst, s.regN Reg.MSH_FCNT, a.down.isSome, none⟩
      s.light.cell ⟨a.key, a.long, a.dir⟩ a.payload) →
    s.Clear (s.meshAir (p.length - 4) (a.type == tyACK)) (chanOf s.light s.evt) (a.cls == 2) →
    ∃ t, exec .ackSend s = .next t ∧ t.OnAir .answer p (s.meshAir (p.length - 4) (a.type == tyACK)) (chanOf s.light s.evt) ∧
      t.regN Reg.MSH_FCNT = s.regN Reg.MSH_FCNT + 1 ∧ t.msh = s.msh ∧ t.hif = s.hif) ∧
  (∀ (a : Answer) (s : State), s.Up → s.msh.answer = some a →
    s.txBusy = true ∨ s.rot.fog = true ∨ s.clearOfMark (s.meshAir (9 + a.payload.length + 8) (a.type == tyACK)) = false →
    exec .ackSend s = .next { s with msh := { s.msh with answer := none } }) ∧
  ∀ (i k n : Nat) (e : AssocEntry) (o : Own) (p : List Byte) (s : State), s.Up → s.msh.downNext = some i → s.assoc i = some e →
    e.down = some o → o.kind = .host k → o.fcnt = some n → s.txBusy = false → s.msh.fcntEnd = false →
    s.clearOfMark (s.meshAir (9 + 1 + (s.opE k).par 8 2 + 8) false) = true →
    p = withFcs (buildFrame ⟨tyDATA, o.cls, 0, i + 1, n, false, none⟩ s.light.cell ⟨s.entryKey e, e.long, 1⟩ o.payload) →
    s.Clear (s.meshAir (p.length - 4) false) (chanOf s.light s.evt) false →
    ∃ t, exec .downlinkSend s = .next t ∧ t.OnAir (.down i) p (s.meshAir (p.length - 4) false) (chanOf s.light s.evt) ∧
      t.msh.downNext = none ∧ t.assoc i = some e ∧ (∀ j, j ≠ i → t.assoc j = s.assoc j)

/-- The keeper's flash goes on air in its FLASH facet under the cell key. A buoy's flash window opens there, in a fog preemption at its end: one that
closes before it is an abandoned listen, counted as such and as missed (R71). An open one closes as a missed flash that a joining or associated buoy
counts and that brings the associated one to DARK at the third; while a frame is arriving the close only is noted (R263, R264, R276). The model's
choices here are log entries 6, 54, 133, 154 and 164. -/
def Obligations.FlashAndWindow : Prop :=
  (∀ (ck : List Nat) (p : List Byte) (s : State), s.Up → s.isKeeper = true → s.inKind kFLASH = true → s.txBusy = false →
    s.msh.cellKey = some ck → s.msh.fcntEnd = false → s.regN Reg.MSH_FCNT % 2 ^ 20 < 2 ^ 20 - 1 →
    p = withFcs (buildFrame ⟨tyFLASH, 0, 0, 0xFFFF, s.regN Reg.MSH_FCNT, false, none⟩ s.light.cell (cellSecure ck) s.flashPayload) →
    s.Clear (s.meshAir (p.length - 4) false) (chanOf s.light s.evt) false →
    ∃ t, exec .flashSend s = .next t ∧ t.OnAir .flash p (s.meshAir (p.length - 4) false) (chanOf s.light s.evt) ∧
      t.regN Reg.MSH_FCNT = s.regN Reg.MSH_FCNT + 1 ∧ t.msh = s.msh ∧ t.hif = s.hif) ∧
  (∀ s : State, s.Up → s.isKeeper = false ∨ s.inKind kFLASH = false → exec .flashSend s = .next s) ∧
  (∀ s : State, s.Up →
    (s.isBuoy = true → s.mst ≠ bsSCAN → s.inKind kFLASH = true → s.txBusy = false → s.rot.fog = false →
      exec .flashWindowOpen s = .next { s with msh := { s.msh with window := true, closing := false } }) ∧
    (s.isBuoy = true → s.mst ≠ bsSCAN → s.inKind kFLASH = true → s.rot.fog = true →
      exec .flashWindowOpen s = .next { s with msh := { s.msh with shut := true } }) ∧
    (s.isBuoy = false ∨ s.mst = bsSCAN ∨ s.inKind kFLASH = false → exec .flashWindowOpen s = .next s)) ∧
  (∀ s : State, s.Up → s.msh.shut = true →
    ∃ t, exec .flashWindowClose s = .next t ∧ t.msh = { s.msh with window := false, shut := false, closing := false } ∧
      t.fget F.MSH_CNT_MISSED = min 65535 (s.fget F.MSH_CNT_MISSED + 1) ∧
      t.fget F.ROT_PREEMPT_CNT_ABANDONED = min 65535 (s.fget F.ROT_PREEMPT_CNT_ABANDONED + 1) ∧ t.rad = s.rad ∧ t.hif = s.hif) ∧
  ∀ s : State, s.Up → s.msh.shut = false →
    (s.msh.window = false → exec .flashWindowClose s = .next s) ∧
    (s.msh.window = true → s.rad.rx.isSome = true →
      exec .flashWindowClose s = .next { s with msh := { s.msh with closing := true } }) ∧
    (s.msh.window = true → s.rad.rx = none →
      ∃ t, exec .flashWindowClose s = .next t ∧ t.msh = { s.msh with window := false, closing := false } ∧
        t.fget F.MSH_CNT_MISSED = min 65535 (s.fget F.MSH_CNT_MISSED + 1) ∧
        (s.mst = bsASSOC → t.fget F.MSH_STATUS_MISS = min 3 (s.fget F.MSH_STATUS_MISS + 1) ∧
          t.mst = (if 2 ≤ s.fget F.MSH_STATUS_MISS then bsDARK else bsASSOC)) ∧
        (s.mst = bsJOIN → t.mst = bsJOIN ∧ t.fget F.MSH_STATUS_MISS = min 3 (s.fget F.MSH_STATUS_MISS + 1)) ∧
        (s.mst ≠ bsASSOC → s.mst ≠ bsJOIN → t.mst = s.mst ∧ t.fget F.MSH_STATUS_MISS = s.fget F.MSH_STATUS_MISS) ∧ t.rad = s.rad ∧ t.hif = s.hif)

/-- With the end of its delay the first relay is sent unchanged in a FLOOD facet with 10 ms left, else dropped, or waits for the radio; in a fog
preemption only a fog relay is sent, and none once no frame counter is left. An originator starts the flood of the frame that is to be flooded where
it still fits, no fog relay being queued. A join request is sent in its facet under the link key (R258, R268, R269, R271, R276, R278). The model's
choices here are log entries 6, 56, 134, 154 and 170. -/
def Obligations.FloodsAndJoins : Prop :=
  (∀ (r : Relay) (rest : List Relay) (s : State), s.Up → s.msh.relays = r :: rest →
    (s.txBusy = true ∨ s.rad.wait.isSome = true ∨ s.radioOn = false →
      exec .floodRelay s = .next { s with msh := { s.msh with relayDue := true } }) ∧
    (s.txBusy = false → s.rad.wait = none → s.radioOn = true → s.msh.origDue = false ∨ s.msh.relays.any (·.fog) = true →
      (s.rot.fog = true → s.msh.relays.any (·.fog) = false → exec .floodRelay s = .next { s with msh := { s.msh with relayDue := true } }) ∧
      (s.rot.fog = false ∨ s.msh.relays.any (·.fog) = true →
        (s.inKind kFLOOD = true → 10000 ≤ s.leftUs → s.msh.fcntEnd = false → s.Clear (s.meshAir r.psdu.length r.fog) (chanOf s.light s.evt) r.fog →
          ∃ t, exec .floodRelay s = .next t ∧ t.OnAir .relay (withFcs r.psdu) (s.meshAir r.psdu.length r.fog) (chanOf s.light s.evt) ∧
            t.msh = { s.msh with relayDue := false } ∧ t.hif = s.hif) ∧
        (s.inKind kFLOOD = false ∨ s.leftUs < 10000 ∨ s.msh.fcntEnd = true →
          exec .floodRelay s = .next { s with msh := { s.msh with relays := rest, relayDue := false } })))) ∧
  (∀ (c n : Nat) (o : Own) (rest : List Own) (s : State), s.Up → s.inKind kFLOOD = true → s.txBusy = false → s.rad.wait = none →
    s.radioOn = true → s.msh.await = none → s.msh.relays.any (·.fog) = false → s.floodClass = some c →
    (c = 1 → s.msh.relayDue = false ∨ s.rot.fog = true) → s.queue c = o :: rest → o.fcnt = some n → s.msh.fcntEnd = false → s.isWmMac = false →
    s.Clear (s.ownAir o (s.ownFrame o n true)) (chanOf s.light s.evt) (c == 2) →
    (s.floodFits c = true →
      ∃ t, exec .floodOriginate s = .next t ∧
        t.OnAir (.own c true) (s.ownFrame o n true) (s.ownAir o (s.ownFrame o n true)) (chanOf s.light s.evt) ∧ t.msh.cur = some c) ∧
    (s.floodFits c = false → exec .floodOriginate s = .next { s with msh := { s.msh with origDue := false } })) ∧
  (∀ s : State, s.Up → s.inKind kFLOOD = false → exec .floodOriginate s = .next s) ∧
  ∀ (p : List Byte) (s : State), s.Up → s.role = roleBUOY → s.mst = bsJOIN → s.txBusy = false → s.rot.fog = false → s.msh.await = none →
    s.joinFits = true → s.radioOn = true →
    s.msh.fcntEnd = false → s.regN Reg.MSH_FCNT % 2 ^ 20 < 2 ^ 20 - 1 →
    p = withFcs (buildFrame ⟨tyJOIN_REQ, 0, 0xFFFE, 0, s.regN Reg.MSH_FCNT, false, if s.msh.jflood then some (s.ttl, 0xFFFE) else none⟩
      s.light.cell s.buoySends (leBytes 4 (s.regN Reg.MSH_ADDR))) →
    s.Clear (s.meshAir (p.length - 4) false) (chanOf s.light s.evt) false →
    ∃ t, exec .joinReq s = .next t ∧ t.OnAir (.join s.msh.jflood) p (s.meshAir (p.length - 4) false) (chanOf s.light s.evt) ∧
      t.regN Reg.MSH_FCNT = s.regN Reg.MSH_FCNT + 1 ∧ t.msh = s.msh ∧ t.hif = s.hif

/-- What the hardware MAC makes of a frame it has received. A flash of the cell that matches the image and verifies aligns an associated or dark buoy,
which is associated then; one with JOIN_OPEN brings a scanning buoy that may join to JOIN. A join response brings the joining buoy to ASSOC with its
short address and the cell key. An acknowledgement of the frame it waits for ends the frame as DONE or TX_DONE. A downlink is acknowledged, and
delivered where its KIND is 0x10; one that fails its MIC is dropped and counted. A keeper acknowledges the frame of an associated buoy, with PENDING
where a downlink waits, and answers a join request of a provisioned one. A buoy in a FLOOD facet queues a flood for relaying with its own SRC and a
TTL one lower (R264 to R266, R268, R270, R272 to R277, R283, R284, R288). The model's choices here are log entries 53, 54, 56 and 180. -/
def Obligations.MeshFrames : Prop :=
  (∀ (f : RxFrame) (st : RxStart) (p : RxParts) (s : State), s.Up → s.Hears f st p → s.isBuoy = true → s.isKeeper = false → p.head.flood = none →
    (p.head.type = tyFLASH → s.Holds ∨ (s.inKind kFLASH = true ∧ s.msh.relayDue = false) →
      (readFlash p.clear).cell = s.light.cell → s.flashMatches (readFlash p.clear) = true →
      (s.mst = bsASSOC ∨ s.mst = bsDARK → (p.verify s.light.cell s.cellSec).isSome = true →
        ∃ t, exec (.frameReceived f) s = .next t ∧ s.Heard t f ∧ t.mst = bsASSOC ∧ t.fget F.MSH_STATUS_MISS = 0 ∧ t.evt = (readFlash p.clear).evt ∧
          t.msh.anchors = ((readFlash p.clear).evt, (64 * st.ns : Int)) :: s.msh.anchors.take 1 ∧ t.msh.window = false ∧
          t.msh.corr = some (({ s with msh := t.msh } : State).correction (readFlash p.clear).evt) ∧ t.fget F.MSH_LASTFLASH_SINCE = 0 ∧
          t.fget F.MSH_LASTFLASH_RSSI = f.rssi.toNat ∧ (s.mst = bsDARK → t.fget F.MSH_EVT_LIGHT = 1) ∧ t.hif = s.hif) ∧
      (s.mst = bsSCAN → (readFlash p.clear).flags.testBit 3 = true → s.fbit F.MSH_CFG_AUTOJOIN = true → s.msh.suspended = false →
        ∃ t, exec (.frameReceived f) s = .next t ∧ s.Heard t f ∧ t.mst = bsJOIN ∧ t.fget F.MSH_STATUS_MISS = 0 ∧
          t.evt = (readFlash p.clear).evt ∧ t.msh.jtries = 0 ∧ t.msh.jflood = false ∧ t.hif = s.hif)) ∧
    (s.Holds → s.msh.window = false → s.accept p.source p.head.fcnt s.msh.newest = .new →
      (∀ fl b, p.head.type = tyJOIN_RSP → p.head.dst = 0xFFFE → s.msh.await = some (.join fl) → p.verify s.light.cell s.buoyHears = some b →
        ∃ t, exec (.frameReceived f) s = .next t ∧ s.Heard t f ∧ t.mst = bsASSOC ∧ t.fget F.MSH_SHORT_SHORT = leAt b 0 2 % 2 ^ 16 ∧
          t.msh.cellKey = some (nats ((b.drop 2).take 16)) ∧ t.msh.klong = leAt b 18 4 ∧ t.msh.await = none ∧ t.fget F.MSH_EVT_JOINED = 1 ∧
          t.hif = s.hif) ∧
      (∀ c o rest, p.head.type = tyACK → p.source = 0 → s.msh.queues.length = 3 → c < 3 → s.msh.await = some (.own c false) →
        s.queue c = o :: rest → p.head.dst = o.src.getD (s.fget F.MSH_SHORT_SHORT) → p.head.dst ≠ 0xFFFE →
        s.msh.cellKey = none ∨ p.verify s.light.cell s.cellSec = none → (p.verify s.light.cell s.buoyHears).isSome = true →
        o.fcnt = some (leAt p.clear 0 4) →
        ∃ t, exec (.frameReceived f) s = .next t ∧ s.Heard t f ∧ t.queue c = rest ∧ t.msh.orphans = 0 ∧ t.msh.silent = 0 ∧
          t.msh.await = (if p.head.pending then some (.down 0) else none) ∧ t.fget F.MSH_STATUS_FLOODED = 0 ∧
          (∀ i, o.kind = .host i → (s.opE i).st = .active →
            s.Completed t i Sts.DONE 0 (min 255 (o.tries + o.ftries + 1) + leAt p.clear 0 4 % 65536 * 65536)) ∧
          (o.kind = .report ∨ o.kind = .fog ∨ o.kind = .keepalive → t.fget F.SYS_IRQ_TX_DONE = 1 ∧ t.hif = s.hif)) ∧
      (∀ b, p.head.type = tyDATA → p.head.dst = s.fget F.MSH_SHORT_SHORT → p.head.dst ≠ 0xFFFE → p.head.dst ≠ 0xFFFF → p.source = 0 →
        p.verify s.light.cell s.buoyHears = some b →
        (1 ≤ leAt b 0 1 → leAt b 0 1 ≤ 3 →
          ∃ t, exec (.frameReceived f) s = .next t ∧ s.Heard t f ∧ s.RegsBut t [Reg.RAD_CNT, Reg.RAD_RSSI] ∧ t.hif = s.hif ∧
            t.msh = { s.msh with
              answer := some { type := tyACK, cls := p.head.cls, dst := 0, payload := leBytes 4 p.head.fcnt, key := s.linkKey,
                               long := s.regN Reg.MSH_ADDR, dir := 0 }
              seen := ((0, p.head.fcnt, tyDATA) :: s.msh.seen).take 256, newest := newer s.msh.newest p.head.fcnt }) ∧
        (∀ q, leAt b 0 1 = 0x10 → s.freeRx = some q →
          ∃ t, exec (.frameReceived f) s = .next t ∧ s.Heard t f ∧ t.fget (F.RAD_RXD_FULL q) = 1 ∧
            t.fget (F.RAD_RXD_LEN q) = min 512 (12 + (b.length - 1)) ∧ t.fget F.SYS_IRQ_RX_FRAME = 1 ∧
            t.msh.answer.map (·.payload) = some (leBytes 4 p.head.fcnt) ∧ t.msh.newest = newer s.msh.newest p.head.fcnt) ∧
        (leAt b 0 1 = 0x10 → s.freeRx = none →
          ∃ t, exec (.frameReceived f) s = .next t ∧ s.Heard t f ∧ t.fget F.RAD_EVT_RX_DROP = 1 ∧ t.msh = s.msh)) ∧
      (p.head.type = tyDATA → p.head.dst = s.fget F.MSH_SHORT_SHORT → p.head.dst ≠ 0xFFFE → p.head.dst ≠ 0xFFFF → p.source = 0 →
        p.verify s.light.cell s.buoyHears = none →
        ∃ t, exec (.frameReceived f) s = .next t ∧ s.Heard t f ∧ t.fget F.MSH_CNT2_REPLAY = min 65535 (s.fget F.MSH_CNT2_REPLAY + 1) ∧
          t.msh = s.msh ∧ t.hif = s.hif))) ∧
  (∀ (f : RxFrame) (st : RxStart) (p : RxParts) (i : Nat) (e : AssocEntry) (s : State), s.Up → s.Hears f st p → s.isKeeper = true → s.Holds →
    s.msh.window = false → p.head.dst = 0 → p.head.flood = none → s.assoc i = some e → s.accept p.source p.head.fcnt e.fcnt = .new →
    (∀ b, p.head.type = tyDATA → p.source = i + 1 → e.joined = true → p.verify s.light.cell ⟨s.entryKey e, e.long, 0⟩ = some b →
      leAt b 0 1 = 3 ∨ (s.freeRx.isSome = true ∧ (leAt b 0 1 = 1 ∨ leAt b 0 1 = 2 ∨ leAt b 0 1 = 0x10)) →
      ∃ t, exec (.frameReceived f) s = .next t ∧ s.Heard t f ∧
        t.assoc i = some { e with supv := 0, fcnt := newer e.fcnt p.head.fcnt, rssi := f.rssi.toNat } ∧ (∀ j, j ≠ i → t.assoc j = s.assoc j) ∧
        t.msh.answer = some { type := tyACK, cls := p.head.cls, dst := i + 1, payload := leBytes 4 p.head.fcnt, key := s.entryKey e, long := e.long,
                              dir := 1, down := if e.down.isSome then some i else none } ∧
        (leAt b 0 1 ≠ 3 → t.fget F.SYS_IRQ_RX_FRAME = 1) ∧ t.hif = s.hif) ∧
    (∀ ck, p.head.type = tyJOIN_REQ → s.msh.table.find? (fun x => x.2.long == leAt p.clear 0 4) = some (i, e) → s.fbit F.MSH_CFG_JOIN_OPEN = true →
      (p.verify s.light.cell ⟨s.entryKey e, e.long, 0⟩).isSome = true → s.msh.cellKey = some ck →
      ∃ t, exec (.frameReceived f) s = .next t ∧ s.Heard t f ∧
        t.assoc i = some { e with joined := true, supv := 0, fcnt := newer e.fcnt p.head.fcnt, rssi := f.rssi.toNat } ∧
        (∀ j, j ≠ i → t.assoc j = s.assoc j) ∧ (s.msh.kevts.length < 16 → t.msh.kevts = s.msh.kevts ++ [(0, i + 1)]) ∧
        t.msh.answer = some { type := tyJOIN_RSP, cls := 0, dst := 0xFFFE, payload := leBytes 2 (i + 1) ++ bytesOf ck ++ leBytes 4 (s.regN Reg.MSH_ADDR),
                              key := s.entryKey e, long := e.long, dir := 1 } ∧ t.hif = s.hif)) ∧
  ∀ (f : RxFrame) (st : RxStart) (p : RxParts) (ttl orig : Nat) (s : State), s.Up → s.Hears f st p → s.isBuoy = true → s.isKeeper = false →
    s.inKind kFLOOD = true →
    s.msh.relayDue = false → s.msh.origDue = false → s.msh.window = false → s.fbit F.MSH_RETRY_RELAY = true → s.msh.cellKey.isSome = true →
    p.cellh = s.light.cell % 256 → p.head.flood = some (ttl, orig) → 1 ≤ ttl → s.wasSeen orig p.head.fcnt = false → s.msh.relays.length < 8 →
    p.head.type = tyDATA → p.head.dst = 0 → s.fget F.MSH_SHORT_SHORT ≠ 0 →
    ∃ t, exec (.frameReceived f) s = .next t ∧ s.Heard t f ∧ t.hif = s.hif ∧
      t.msh = { s.msh with
        seen := ((orig, p.head.fcnt, tyDATA) :: s.msh.seen).take 256
        relays := addRelay s.heldRelay ⟨relayCopy (f.psdu.take (f.psdu.length - 4)) (s.fget F.MSH_SHORT_SHORT) ttl, orig, p.head.fcnt,
          p.head.cls == 2⟩ s.msh.relays }

/-! Fog preemption and the supply link -/

/-- A fog event leaves its list and wakes CORE; where a frame is sent for it, preemption begins and is counted, and the frame is queued with its instant.
The fog frame goes on air once CORE and RADIO are ON, and until then waits for their wakes. At their abort points a flash on air is cut, an entry
whose domains were still waking waits for the end of the preemption, a conversion ends without results, and the mark sequence and a supply-link
transaction run on; with nothing preempted or expired nothing changes (R70 to R73, R192, R340). The model's choices here are log entries 6, 78, 79,
89, 173, 174 and 177. -/
def Obligations.FogPreempts : Prop :=
  (∀ (n : Nat) (s : State), s.Up →
    (s.msh.events = [] → exec (.fogEvent n) s = .next s) ∧
    ∀ e rest, s.msh.events = e :: rest →
      (s.fogSends = false → s.pwr.sleepWaits = true → ∃ t, exec (.fogEvent n) s = .next t ∧ t.fget F.PWR_SLEEP_ST_STATE = 3 ∧
        t.fget F.PWR_SLEEP_ST_STATUS = Sts.REFUSED ∧ t.fget F.PWR_SLEEP_ST_REASON = 3 ∧ t.pwr.sleepWaits = false) ∧
      (s.fogSends = false → s.pwr.sleepWaits = false → ∃ t, exec (.fogEvent n) s = .next t ∧ t.msh = { s.msh with events := rest } ∧ t.rot = s.rot ∧
        (t.isOn domCORE = true ∨ (t.wakeOfDom domCORE).isSome = true) ∧ t.rad = s.rad ∧ t.hif = s.hif ∧ t.ldg = s.ldg ∧ t.mem = s.mem) ∧
      (s.fogSends = true → s.msh.queues.length = 3 → (s.queue 2).length < 4 →
        ∃ t, exec (.fogEvent n) s = .next t ∧ t.msh.events = rest ∧ t.rot = { s.rot with fog := true, waking := t.rot.waking } ∧
          t.queue 2 = s.queue 2 ++ [{ kind := .fog, type := tyDATA, cls := 2, dst := 0, body := e.body, g := 64 * n }] ∧
          t.fget F.ROT_PREEMPT_CNT_PREEMPT = min 65535 (s.fget F.ROT_PREEMPT_CNT_PREEMPT + b2n (!s.rot.fog)) ∧
          (t.isOn domCORE = true ∨ (t.wakeOfDom domCORE).isSome = true) ∧ t.rad = s.rad ∧ t.hif = s.hif ∧ t.ldg = s.ldg ∧ t.mem = s.mem)) ∧
  (∀ (n m : Nat) (o : Own) (rest : List Own) (s : State), s.Up → s.rot.fog = true → s.fogSends = true → s.queue 2 = o :: rest →
    (o.fcnt = some m → s.isWmMac = false → s.maySend o = true → s.wantsFlood o = false → o.held = false → s.msh.fcntEnd = false →
      s.radioOn = true → s.txBusy = false → s.msh.await = none →
      s.rad.wait = none → s.Clear (s.ownAir o (s.ownFrame o m false)) (chanOf s.light s.evt) true →
      ∃ t, exec (.fogFrameSend n) s = .next t ∧
        t.OnAir (.own 2 false) (s.ownFrame o m false) (s.ownAir o (s.ownFrame o m false)) (chanOf s.light s.evt) ∧
        t.rad.fogWait = false ∧ t.rot = s.rot) ∧
    (s.hasRadio = true → s.isOn domRADIO = false →
      ∃ t, exec (.fogFrameSend n) s = .next t ∧ t.rad = { s.rad with fogWait := true } ∧ (t.wakeOfDom domRADIO).isSome = true ∧
        (t.isOn domCORE = true ∨ (t.wakeOfDom domCORE).isSome = true) ∧ t.msh = s.msh ∧ t.rot = s.rot)) ∧
  ∀ s : State, s.Up →
    (s.rot.fog = true → exec (.abortPoint .markSeq) s = .next s ∧ exec (.abortPoint .slink) s = .next s) ∧
    (s.rot.fog = true → ∀ j, s.rad.job = some j → j.fog = false → j.listen = false → j.why = .flash →
      ∃ t, exec (.abortPoint .transmission) s = .next t ∧ t.rad = { s.rad with job := none, busy := 0 } ∧
        t.fget F.MSH_CNT_MISSED = min 65535 (s.fget F.MSH_CNT_MISSED + 1) ∧ s.RegsBut t [Reg.MSH_CNT] ∧ t.msh = s.msh) ∧
    (s.rot.fog = true → s.rot.waking = true → ∀ m, s.rot.entry = some m →
      ∃ t, exec (.abortPoint .wake) s = .next t ∧ t.rot = { s.rot with entry := none, late := m :: s.rot.late, waking := false } ∧ t.hif = s.hif ∧
        t.ldg = s.ldg) ∧
    (s.rot.fog = true → ∀ c, s.tmu.conv = some c → c.why = .sched →
      ∃ t, exec (.abortPoint .conversion) s = .next t ∧ t.tmu.conv = none ∧ t.fget F.TMU_STATUS_BUSY = 0 ∧
        t.fget F.ROT_PREEMPT_CNT_ABANDONED = min 65535 (s.fget F.ROT_PREEMPT_CNT_ABANDONED + 1) ∧ t.hif.ops = s.hif.ops) ∧
    (s.rot.fog = false → s.memu.nvm = none → s.memu.scrub = none → s.ldg.commit = none → s.loadingOp = none →
      ∀ w, exec (.abortPoint w) s = .next s)

/-- The last stage of a wake makes its domain ON, MEM0 with CORE; the crystal's stage starts it and the wake goes on to a later one. A domain that is not
waking is left (R338, R339). An acknowledged attempt of the supply link ends the transaction and sets the level it asked for, a SLINK_SET's with its
value and its attempts; a failed one is tried again and counted once, and the fourth, or the transition timeout, is the device fault SLINK_FAIL,
recorded with the causes of the same cycle under the lowest code, a SLINK_SET's completed with its lower cause. The drive rail settles at its levels
in order. No entry is in progress and no fog frame waits for the wake, so that nothing follows (R40, R347 to R350). The model's choices here are log
entries 6, 74, 88 and 179. -/
def Obligations.WakesAndSupplyLink : Prop :=
  (∀ (k : Fin 27) (us : Nat) (s : State), s.Up → s.rad.fogWait = false → s.rot.entry = none ∨ s.rot.fog = true →
    (s.wakeOfDom k = none → exec (.wakeStage k us) s = .next s) ∧
    ∀ w, s.wakeOfDom k = some w →
      (w.stage = 4 → s.followsCore k = false →
        ∃ t, exec (.wakeStage k us) s = .next t ∧ t.isOn k = true ∧ t.wakeOfDom k = none ∧ (k.val = domCORE → t.isOn (domMEM 0) = true) ∧
          (∀ d, d ≠ k.val → t.wakeOfDom d = s.wakeOfDom d) ∧ t.mem = s.mem ∧ t.hif = s.hif ∧ t.ldg = s.ldg) ∧
      (w.stage = 2 →
        ∃ t w', exec (.wakeStage k us) s = .next t ∧ t.pwr.xo = true ∧ t.wakeOfDom k = some w' ∧ 2 < w'.stage ∧ w'.off = w.off ∧
          (∀ d, d ≠ k.val → t.wakeOfDom d = s.wakeOfDom d) ∧ t.mem = s.mem ∧ t.hif = s.hif ∧ t.ldg = s.ldg)) ∧
  ((∀ (x : LinkEnd) (tr : Slink) (s : State), s.Up → s.rot.entry = none → s.pwr.link = some tr →
    (∀ a, x.ack = some a → slinkAckOk (s.fget F.PWR_SLINK_ST_SEQ) tr.cmd tr.value a = true → s.pwr.linkQ = [] → tr.why = .vdrv → tr.value < 256 →
      ∃ t, exec (.supplyLinkAttempt x) s = .next t ∧ t.pwr.link = none ∧ t.fget F.PWR_SLINK_ST_BUSY = 0 ∧
        (tr.cmd = 1 → t.fget F.PWR_VCORE_ACT = tr.value) ∧ (tr.cmd = 2 → t.pwr.settle = s.pwr.settle ++ [tr.value]) ∧ t.hif = s.hif ∧
        t.ldg = s.ldg) ∧
    (∀ a i, x.ack = some a → slinkAckOk (s.fget F.PWR_SLINK_ST_SEQ) tr.cmd tr.value a = true → s.pwr.linkQ = [] → tr.why = .op i →
      (s.opE i).st = .active → tr.value < 256 →
      ∃ t, exec (.supplyLinkAttempt x) s = .next t ∧ s.Completed t i Sts.DONE 0 (tr.value + (s.pwr.linkTries + 1) * 256) ∧ t.pwr.link = none ∧
        (tr.cmd = 1 → t.fget F.PWR_VCORE_ACT = tr.value) ∧ t.ldg = s.ldg) ∧
    (∀ i, x.ack = none → tr.why = .op i → s.pwr.linkTries = 3 → fcBROWNOUT ∉ faultMask x.also.toNat → i < 16 → (s.opE i).st = .active →
      (s.opE i).autorel = false →
      ∃ t, exec (.supplyLinkAttempt x) s = .next t ∧ (t.opE i).st = .complete ∧ (t.opE i).status = Sts.DISCARDED ∧
        (t.opE i).causes = 16 * loNO_ACK ∧ (t.opE i).epoch = (s.fget F.SYS_EPOCH_EPOCH + 1) % 256 ∧ t.recovering = true) ∧
    (x.ack = none → tr.why = .vdrv → s.pwr.linkTries < 3 →
      ∃ t, exec (.supplyLinkAttempt x) s = .next t ∧
        t.pwr = { s.pwr with linkTries := s.pwr.linkTries + 1, linkLower := loNO_ACK } ∧
        t.fget F.PWR_SLINK_ST_ATTEMPTS = s.pwr.linkTries + 1 ∧
        t.fget F.PWR_SLINK_CNT_RETRY = min 65535 (s.fget F.PWR_SLINK_CNT_RETRY + (if s.pwr.linkTries = 0 then 1 else 0)) ∧
        t.hif = s.hif ∧ t.ldg = s.ldg) ∧
    (x.ack = none → tr.why = .vdrv → s.pwr.linkTries = 3 → fcBROWNOUT ∉ faultMask x.also.toNat →
      ∃ t, exec (.supplyLinkAttempt x) s = .next t ∧ t.fget F.SYS_EPOCH_EPOCH = (s.fget F.SYS_EPOCH_EPOCH + 1) % 256 ∧
        t.fget F.SYS_FAULT_CAUSE_CAUSE = (faultMask x.also.toNat).foldl min fcSLINK_FAIL ∧
        (∀ c ∈ fcSLINK_FAIL :: faultMask x.also.toNat, t.ftest F.SYS_FAULT_CAUSE_HIST (c - 1) = true) ∧
        t.recovering = true ∧ t.fget F.PWR_SLINK_ST_LOWER = loNO_ACK ∧
        t.fget F.PWR_SLINK_CNT_FAIL = min 65535 (s.fget F.PWR_SLINK_CNT_FAIL + 1) ∧ t.ldg.acc = s.ldg.acc)) ∧
  (∀ (tr : Slink) (s : State), s.Up → s.rot.entry = none → s.pwr.link = some tr → tr.watched = true →
    ∃ t, exec .domainTransitionTimeout s = .next t ∧ t.fget F.SYS_EPOCH_EPOCH = (s.fget F.SYS_EPOCH_EPOCH + 1) % 256 ∧
      t.fget F.SYS_FAULT_CAUSE_CAUSE = fcSLINK_FAIL ∧ t.recovering = true ∧ t.fget F.PWR_SLINK_ST_UPPER = upDOMAIN_TO ∧
      t.fget F.PWR_SLINK_CNT_FAIL = min 65535 (s.fget F.PWR_SLINK_CNT_FAIL + 1) ∧ t.ldg.acc = s.ldg.acc) ∧
  (∀ s : State, s.Up → s.rot.entry = none → s.pwr.link = none → exec .domainTransitionTimeout s = .next s) ∧
  ∀ s : State, s.Up →
    (s.pwr.settle = [] → exec .vdrvSettle s = .next s) ∧
    (∀ v l, s.pwr.settle = v :: l → v < 256 →
      ∃ t, exec .vdrvSettle s = .next t ∧ t.fget F.AFE_STATUS_VDRV_ACT = v ∧ t.pwr = { s.pwr with settle := l } ∧
        (l = [] → s.pwr.link = none → s.pwr.linkQ = [] → t.fget F.AFE_STATUS_VDRV_OK = 1) ∧ t = { s with regs := t.regs, pwr := t.pwr } ∧
        s.RegsBut t [Reg.AFE_STATUS]))

/-! Shots, echo steps and the update engine -/

/-- A TRIG edge with no armed shot is ignored and counted; an armed one, or the next host shot, in a window whose domains are ON, that passes its fire
decision begins and is the shot in progress. One that would not finish in its window is TOO_LATE and counted, one that a preemption held CANCELLED and
counted as abandoned, one without free slots REFUSED and counted; in a preemption the next host shot is held. A SHOT entry's chords fire into their
slots of this rotation, its domains ON and the mark window past. The shot instant of the rotation is the first (R33, R54, R63, R68, R69, R71, R113,
R119, R190, R192). The model's choices here are log entries 6, 84, 91 and 158. -/
def Obligations.ShotsFire : Prop :=
  (∀ (n : Nat) (s : State), s.Up → (∀ i, i < 16 → s.armedTrig i = true → (s.opE i).started = true) →
    ∃ t, exec (.trigEdge n) s = .next t ∧ t.fget F.ROT_TRIG_CNT_IGNORED = min 65535 (s.fget F.ROT_TRIG_CNT_IGNORED + 1) ∧
      t.fget F.ROT_TRIG_CNT_FIRED = s.fget F.ROT_TRIG_CNT_FIRED ∧ s.OnlyRegs t [Reg.ROT_TRIG_CNT]) ∧
  (∀ (n i : Nat) (s : State), s.Up → s.hostQueue.head? = some i → (s.opE i).type = opSHOT →
    (s.rot.fog = true → ∃ t, exec (.hostShotFire n) s = .next t ∧ t.opE i = { s.opE i with due := true } ∧ (∀ j, j ≠ i → t.opE j = s.opE j) ∧
      t = { s with hif := { s.hif with ops := t.hif.ops } }) ∧
    (s.rot.fog = false → s.windowReady 0 n = true → s.measuring = false →
      (s.shotFits ((s.opE i).par 0 1) n = false → (s.opE i).due = false → ∃ t, exec (.hostShotFire n) s = .next t ∧
        s.Completed t i Sts.TOO_LATE 0 0 ∧ t.fget F.ROT_LATE_CNT_LATE = min 65535 (s.fget F.ROT_LATE_CNT_LATE + 1) ∧
        s.RegsBut t [Reg.SYS_IRQ, Reg.ROT_LATE_CNT] ∧ t = { s with regs := t.regs, hif := t.hif }) ∧
      (s.shotFits ((s.opE i).par 0 1) n = false → (s.opE i).due = true → ∃ t, exec (.hostShotFire n) s = .next t ∧
        s.Completed t i Sts.CANCELLED 0 0 ∧ t.fget F.ROT_PREEMPT_CNT_ABANDONED = min 65535 (s.fget F.ROT_PREEMPT_CNT_ABANDONED + 1) ∧
        s.RegsBut t [Reg.SYS_IRQ, Reg.ROT_PREEMPT_CNT] ∧ t = { s with regs := t.regs, hif := t.hif }) ∧
      (s.shotFits ((s.opE i).par 0 1) n = true → s.freeSlots.length < popCount 8 ((s.opE i).par 0 1) →
        ∃ t, exec (.hostShotFire n) s = .next t ∧ s.Completed t i Sts.REFUSED 0 0 ∧
          t.fget F.FLW_SHOT_CNT_NOSLOT = min 65535 (s.fget F.FLW_SHOT_CNT_NOSLOT + 1) ∧
          s.RegsBut t [Reg.SYS_IRQ, Reg.FLW_SHOT_CNT] ∧ t = { s with regs := t.regs, hif := t.hif }))) ∧
  (∀ (n i : Nat) (s : State), s.Up → s.windowReady 0 n = true → s.measuring = false → s.shotFits ((s.opE i).par 0 1) n = true →
    popCount 8 ((s.opE i).par 0 1) ≤ s.freeSlots.length →
    ((s.activeOps opSHOT).find? (fun i => s.armedTrig i && !(s.opE i).started) = some i → s.hostShots = true →
      ∃ t, exec (.trigEdge n) s = .next t ∧ t.fget F.ROT_TRIG_CNT_FIRED = min 65535 (s.fget F.ROT_TRIG_CNT_FIRED + 1) ∧ s.ShotBegun t i n) ∧
    (s.hostQueue.head? = some i → (s.opE i).type = opSHOT → ∃ t, exec (.hostShotFire n) s = .next t ∧ s.ShotBegun t i n)) ∧
  (∀ (n : Nat) (s : State), s.Up → s.hostQueue = [] → exec (.hostShotFire n) s = .next s) ∧
  ∀ (n : Nat) (s : State), s.Up → s.inKind kSHOT = true → s.entryReady = true → pastWindow n = true → s.hostShots = false →
    s.afe.shot = none →
    ∃ t h, exec (.hwShotFire n) s = .next t ∧ t.afe.shot = some h ∧ h.op = none ∧
      h.chords.map (fun c => (c.chord, c.slot)) =
        (s.chordCfgs.filter fun c => (facetArg s.nowWord).testBit c.chord).map (fun c => (c.chord, c.chord + 8 * (s.regN Reg.ROT_NUM % 2))) ∧
      t.ldg = { s.ldg with shotAt := some (s.ldg.shotAt.getD (64 * n)) } ∧ t.mem = s.mem ∧ t.hif.ops = s.hif.ops

/-- The end of a capture of one chord leaves its slot FULL with the stamps counted, and no shot in progress. A host shot is DONE then with its slots where
the host processes echoes, else waits for its records; one whose deadline passed is CANCELLED. An echo step whose turn it is and that fits frees its
slot and adds the record of its chord, and the last one of a host shot completes it with its slots and its first record; a hardware shot's that does
not fit frees the slot as LATE, a host shot's waits (R120, R144, R145, R191, R306). The model's choices here are log entries 6, 26 and 160. -/
def Obligations.CaptureAndEcho : Prop :=
  (∀ (x : List (List (BitVec 12) × List (BitVec 12))) (s : State), s.Up →
    (s.afe.shot = none → exec (.captureComplete x) s = .next s) ∧
    ∀ h c, s.afe.shot = some h → h.chords = [c] → c.slot < 16 → c.chord < 8 →
      ∃ t, exec (.captureComplete x) s = .next t ∧ t.afe.shot = none ∧ t.slotState c.slot = slotFULL ∧
        (c.nstA < 128 → c.unlocked = false → t.fget (F.AFE_SLOT_RXA_NST c.slot) = c.nstA) ∧
        (∀ k, k < 16 → k ≠ c.slot → t.slotState k = s.slotState k) ∧ t.ldg = s.ldg ∧
        (h.op = none → t.hif = s.hif ∧ t.afe.hostShots = s.afe.hostShots) ∧
        ∀ i, h.op = some i → (s.opE i).st = .active →
          ((s.opE i).expiring = true → s.Completed t i Sts.CANCELLED upDEADLINE 0 ∧ t.afe.hostShots = s.afe.hostShots) ∧
          ((s.opE i).expiring = false → s.hostEcho = true →
            s.Completed t i Sts.DONE 0 (2 ^ c.slot + 0xFFFF * 2 ^ 16) ∧ t.afe.hostShots = s.afe.hostShots) ∧
          ((s.opE i).expiring = false → s.hostEcho = false → t.hif = s.hif ∧
            t.afe.hostShots = s.afe.hostShots ++ [{ op := i, slots := 2 ^ c.slot, left := 2 ^ c.slot }])) ∧
  ∀ (k : Fin 16) (n : Nat) (c : ChordCfg) (s : State), s.Up → s.hostEcho = false → s.inKind kECHO = true → s.entryReady = true →
    pastWindow n = true → s.echoSlot k = true → s.echoTurn k n = true → s.chordCfg (s.fget (F.AFE_SLOT_CTL_CHORD k)) = some c →
    (s.echoFits k n = true →
      ∃ t r, exec (.echoStep k n) s = .next t ∧ t.slotState k = slotFREE ∧ t.ech.recs = s.ech.recs ++ [r] ∧ r.chord = c.chord ∧ r.lost = false ∧
        ∀ h, s.hostShots = true → s.afe.hostShots.find? (fun h => h.left.testBit k) = some h → h.left = 2 ^ k.val → (s.opE h.op).st = .active →
          s.Completed t h.op Sts.DONE 0 (h.slots + h.first.getD (s.fget F.ECH_RING_PTR) % 2 ^ 16 * 2 ^ 16) ∧
          t.afe.hostShots = s.afe.hostShots.filter fun x => x.op != h.op) ∧
    (s.echoFits k n = false →
      (s.hostShots = true → exec (.echoStep k n) s = .next s) ∧
      (s.hostShots = false → ∃ t, exec (.echoStep k n) s = .next t ∧ t.slotState k = slotFREE ∧ t.fget F.ECH_STATUS_LATE = 1 ∧
        t = { s with regs := t.regs }))

/-- The update engine: the end of the erase leaves the inactive slot erased and the update RECEIVING. An UPDATE_BLOCK in RECEIVING whose block is not yet
in the bitmap, with room, is held and answered DONE; one that finds 16 blocks held, or in ERASING, is REFUSED, in any other state LOCKED. A staged
block of which one of three attempts programs is stored and entered in the bitmap; one that fails three times is reported and not entered. The
verification ends in VERIFIED, or with its error in the state it began from (R296, R380 to R382). The model's choices here are log entries 6, 96, 97
and 98. -/
def Obligations.UpdateEngine : Prop :=
  (∀ (tag : Byte) (addr : BitVec 24) (data : List Byte) (crc : BitVec 16) (s : State), s.Up →
    s.Serves (.updateBlock tag addr data crc) → addr.toNat % 256 = 0 → addr.toNat < 0x80000 → s.life ≠ lcSCRAP →
    (s.updState = upRECEIVING → s.blockMapped (addr.toNat / 256) = false → s.upd.staging.length < 16 →
      ∃ t, exec (.updateBlock tag addr data crc) s = .next t ∧ t.Replied Sts.DONE ∧
        s.OnlyAnswered { t with upd := s.upd } (.updateBlock tag addr data crc) Sts.DONE ∧
        t.upd = { s.upd with staging := (s.upd.staging.filter fun x => x.1 != addr.toNat / 256) ++ [(addr.toNat / 256, data)] }) ∧
    (s.updState = upRECEIVING → s.blockMapped (addr.toNat / 256) = true →
      ∃ t, exec (.updateBlock tag addr data crc) s = .next t ∧ t.Replied Sts.DONE ∧ s.OnlyAnswered t (.updateBlock tag addr data crc) Sts.DONE) ∧
    (s.updState = upRECEIVING → s.blockMapped (addr.toNat / 256) = false → 16 ≤ s.upd.staging.length →
      ∃ t, exec (.updateBlock tag addr data crc) s = .next t ∧ t.Replied Sts.REFUSED ∧
        s.OnlyAnswered t (.updateBlock tag addr data crc) Sts.REFUSED) ∧
    (s.updState ≠ upRECEIVING →
      ∃ t, exec (.updateBlock tag addr data crc) s = .next t ∧ t.Replied (if s.updState = upERASING then Sts.REFUSED else Sts.LOCKED) ∧
        s.OnlyAnswered t (.updateBlock tag addr data crc) (if s.updState = upERASING then Sts.REFUSED else Sts.LOCKED))) ∧
  (∀ s : State, s.Up →
    (s.updState = upERASING → s.updTime = true →
      ∃ t, exec .eraseDone s = .next t ∧ t.updState = upRECEIVING ∧
        (∀ a, s.inactiveBase ≤ a → a < s.inactiveBase + 0x80000 → t.byte (s.phys a) = 0xFF) ∧ s.RegsBut t [Reg.UPD_STATUS] ∧ t.hif = s.hif ∧
        t.ldg = s.ldg ∧ t.upd = s.upd) ∧
    (s.updState ≠ upERASING → exec .eraseDone s = .next s)) ∧
  (∀ (bad : List (Fin 16)) (b : Nat) (d : List Byte) (s : State), s.Up → s.upd.staging = [(b, d)] → s.updState = upRECEIVING →
    s.updTime = true → b < 2048 → d.length = 256 →
    (bad.length < 3 → s.fbit F.MEM_FLIP_CTL_ARM = false →
      ∃ t, exec (.blockProgram bad) s = .next t ∧ t.upd.staging = [] ∧ t.blockMapped b = true ∧
        (∀ c, c < 2048 → c ≠ b → t.blockMapped c = s.blockMapped c) ∧
        (bad = [] → t.memu.log = s.memu.log) ∧ ∀ i, i < 256 → t.byte (s.phys (s.inactiveBase + 256 * b + i)) = d.getD i 0) ∧
    (3 ≤ bad.length →
      ∃ t, exec (.blockProgram bad) s = .next t ∧ t.upd.staging = [] ∧ t.fget F.UPD_EVT_PROG_FAIL = 1 ∧
        ∀ c, c < 2048 → t.blockMapped c = s.blockMapped c)) ∧
  ∀ s : State, s.Up →
    (s.updState ≠ upVERIFYING ∨ s.recovering = true → exec .verificationDone s = .next s) ∧
    (s.updState = upVERIFYING → s.recovering = false →
      ∃ t, exec .verificationDone s = .next t ∧ t.fget F.UPD_EVT_VERIFY_DONE = 1 ∧
        (s.verifySet.1 = none → t.updState = upVERIFIED) ∧
        ∀ e, s.verifySet.1 = some e → t.fget F.UPD_STATUS_ERROR = e.code % 16 ∧
          t.updState = (if s.upd.fromRecv then upRECEIVING else upIDLE))
end

