-- ==== Sys2Proof/Laws/Assoc.lean ====
section
/-! SUPPORT. Laws of the sparse maps: reading after a write, and the canonical form, which every operation keeps and in which equal
contents are equal lists. -/

namespace Sys2Proof.Machine.Assoc

variable {α : Type} [DecidableEq α] {d : Nat → α} {m : List (Nat × α)} {lo a b : Nat} {x : α}

/-- A lower bound of the keys may be lowered. -/
theorem wfFrom_mono {lo' : Nat} (h : wfFrom d lo m = true) (hl : lo' ≤ lo) : wfFrom d lo' m = true := by
  cases m with
  | nil => rfl
  | cons p t =>
    simp only [wfFrom, Bool.and_eq_true, decide_eq_true_eq] at h ⊢
    exact ⟨⟨by omega, h.1.2⟩, h.2⟩

/-- Below every key a map reads its default. -/
theorem get_below (h : wfFrom d lo m = true) (ha : a < lo) : get d m a = d a := by
  induction m generalizing lo with
  | nil => rfl
  | cons p t ih =>
    obtain ⟨k, v⟩ := p
    simp only [wfFrom, Bool.and_eq_true, decide_eq_true_eq] at h
    rw [get, if_neg (by omega)]
    exact ih h.2 (by omega)

/-- What was stored is read. -/
theorem get_set_same (h : wfFrom d lo m = true) : get d (set d m a x) a = x := by
  induction m generalizing lo with
  | nil => unfold set; split <;> simp_all [get]
  | cons p t ih =>
    obtain ⟨k, v⟩ := p
    simp only [wfFrom, Bool.and_eq_true, decide_eq_true_eq] at h
    unfold set
    by_cases h1 : a < k
    · rw [if_pos h1]
      split
      · rename_i hx
        rw [get, if_neg (by omega), hx]
        exact get_below h.2 (by omega)
      · simp [get]
    · rw [if_neg h1]
      by_cases h2 : a = k
      · rw [if_pos h2]
        subst h2
        split
        · rename_i hx
          rw [hx]
          exact get_below h.2 (by omega)
        · simp [get]
      · rw [if_neg h2, get, if_neg h2]
        exact ih h.2

/-- Storing at one key leaves every other key. -/
theorem get_set_ne (hb : b ≠ a) : get d (set d m a x) b = get d m b := by
  induction m with
  | nil => unfold set; split <;> simp [get, hb]
  | cons p t ih =>
    obtain ⟨k, v⟩ := p
    unfold set
    by_cases h1 : a < k
    · rw [if_pos h1]; split <;> simp [get, hb]
    · rw [if_neg h1]
      by_cases h2 : a = k
      · rw [if_pos h2]; subst h2; split <;> simp [get, hb]
      · rw [if_neg h2]; simp only [get, ih]

/-- A store keeps the canonical form above any bound of its key. -/
theorem wfFrom_set (h : wfFrom d lo m = true) (hl : lo ≤ a) : wfFrom d lo (set d m a x) = true := by
  induction m generalizing lo with
  | nil => unfold set; split <;> simp_all [wfFrom]
  | cons p t ih =>
    obtain ⟨k, v⟩ := p
    simp only [wfFrom, Bool.and_eq_true, decide_eq_true_eq] at h
    unfold set
    by_cases h1 : a < k
    · rw [if_pos h1]
      split
      · simp [wfFrom, h]
      · rename_i hx
        simp only [wfFrom, Bool.and_eq_true, decide_eq_true_eq]
        exact ⟨⟨hl, by simpa using hx⟩, ⟨by omega, h.1.2⟩, h.2⟩
    · rw [if_neg h1]
      by_cases h2 : a = k
      · rw [if_pos h2]
        split
        · exact wfFrom_mono h.2 (by omega)
        · rename_i hx
          subst h2
          simp only [wfFrom, Bool.and_eq_true, decide_eq_true_eq]
          exact ⟨⟨by omega, by simpa using hx⟩, h.2⟩
      · rw [if_neg h2]
        simp only [wfFrom, Bool.and_eq_true, decide_eq_true_eq]
        exact ⟨h.1, ih h.2 (by omega)⟩

/-- A store keeps the canonical form. -/
theorem wf_set (h : wf d m = true) : wf d (set d m a x) = true := wfFrom_set h (Nat.zero_le a)

/-- Dropping entries keeps the canonical form. -/
theorem wfFrom_filter {f : Nat × α → Bool} (h : wfFrom d lo m = true) : wfFrom d lo (m.filter f) = true := by
  induction m generalizing lo with
  | nil => rfl
  | cons p t ih =>
    obtain ⟨k, v⟩ := p
    simp only [wfFrom, Bool.and_eq_true, decide_eq_true_eq] at h
    rw [List.filter_cons]
    split
    · simp only [wfFrom, Bool.and_eq_true, decide_eq_true_eq]
      exact ⟨h.1, ih h.2⟩
    · exact wfFrom_mono (ih h.2) (by omega)

/-- Dropping entries keeps the canonical form of a whole map. -/
theorem wf_filter {f : Nat × α → Bool} (h : wf d m = true) : wf d (m.filter f) = true := wfFrom_filter h

/-- A map in canonical form reads x at a after a store, and what it read before elsewhere. -/
theorem get_set (h : wf d m = true) (b : Nat) : get d (set d m a x) b = if b = a then x else get d m b := by
  by_cases hb : b = a
  · rw [if_pos hb, hb]; exact get_set_same h
  · rw [if_neg hb]; exact get_set_ne hb

/-- In the canonical form equal contents are equal lists. -/
theorem eq_of_get {n : List (Nat × α)} (hm : wfFrom d lo m = true) (hn : wfFrom d lo n = true)
    (h : ∀ a, get d m a = get d n a) : m = n := by
  induction m generalizing lo n with
  | nil =>
    cases n with
    | nil => rfl
    | cons p t =>
      obtain ⟨k, v⟩ := p
      simp only [wfFrom, Bool.and_eq_true, decide_eq_true_eq] at hn
      have := h k
      simp [get] at this
      exact absurd this.symm hn.1.2
  | cons p t ih =>
    obtain ⟨k, v⟩ := p
    have hm' := hm
    simp only [wfFrom, Bool.and_eq_true, decide_eq_true_eq] at hm
    cases n with
    | nil =>
      have := h k
      simp [get] at this
      exact absurd this hm.1.2
    | cons q u =>
      obtain ⟨j, w⟩ := q
      have hn' := hn
      simp only [wfFrom, Bool.and_eq_true, decide_eq_true_eq] at hn
      have hkj : k = j := by
        rcases Nat.lt_trichotomy k j with hl | he | hl
        · have h1 := h k
          rw [get, if_pos rfl, get, if_neg (by omega), get_below hn.2 (by omega)] at h1
          exact absurd h1 hm.1.2
        · exact he
        · have h1 := h j
          rw [get, if_neg (by omega), get_below hm.2 (by omega), get, if_pos rfl] at h1
          exact absurd h1.symm hn.1.2
      subst hkj
      have hvw : v = w := by simpa [get] using h k
      subst hvw
      have : t = u := by
        refine ih hm.2 hn.2 fun a => ?_
        by_cases ha : a = k
        · subst ha; rw [get_below hm.2 (by omega), get_below hn.2 (by omega)]
        · simpa [get, ha] using h a
      rw [this]

end Sys2Proof.Machine.Assoc
end

