-- ==== Sys2Proof/Laws/Fields.lean ====
section
/-! SUPPORT. Laws of registers and fields: what a field reads after a store to it, to another field of its register and to another
register. In a sound state every store is read back. -/

namespace Sys2Proof.Machine

/-! Bits -/

/-- A field store as nested powers of two. -/
theorem putBits_eq (v lo w x : Nat) :
    putBits v lo w x = 2 ^ lo * (2 ^ w * (v / 2 ^ (lo + w)) + x % 2 ^ w) + v % 2 ^ lo := by
  unfold putBits
  rw [Nat.pow_add, Nat.mul_add, Nat.mul_comm (v / _), Nat.mul_assoc, Nat.mul_comm (x % _)]

theorem bitsOf_putBits_same (v lo w x : Nat) : bitsOf (putBits v lo w x) lo w = x % 2 ^ w := by
  have h1 : v % 2 ^ lo < 2 ^ lo := Nat.mod_lt _ (Nat.two_pow_pos lo)
  rw [bitsOf, putBits_eq, Nat.mul_add_div (Nat.two_pow_pos lo), Nat.div_eq_of_lt h1, Nat.add_zero, Nat.mul_add_mod, Nat.mod_mod]

theorem testBit_putBits (v lo w x i : Nat) :
    (putBits v lo w x).testBit i = if lo ≤ i ∧ i < lo + w then x.testBit (i - lo) else v.testBit i := by
  have h1 : v % 2 ^ lo < 2 ^ lo := Nat.mod_lt _ (Nat.two_pow_pos lo)
  have h3 : x % 2 ^ w < 2 ^ w := Nat.mod_lt _ (Nat.two_pow_pos w)
  rw [putBits_eq, Nat.testBit_two_pow_mul_add _ h1]
  split
  · rename_i hi
    rw [if_neg (by omega), Nat.testBit_mod_two_pow]; simp [hi]
  · rename_i hi
    rw [Nat.testBit_two_pow_mul_add _ h3]
    split
    · rw [if_pos (by omega), Nat.testBit_mod_two_pow]
      rename_i h; simp [h]
    · rw [if_neg (by omega), Nat.testBit_div_two_pow]
      congr 1; omega

theorem testBit_bitsOf (v lo w i : Nat) : (bitsOf v lo w).testBit i = (decide (i < w) && v.testBit (lo + i)) := by
  unfold bitsOf
  rw [Nat.testBit_mod_two_pow, Nat.testBit_div_two_pow, Nat.add_comm]

theorem bitsOf_putBits_apart (v lo w x lo' w' : Nat) (h : lo' + w' ≤ lo ∨ lo + w ≤ lo') :
    bitsOf (putBits v lo w x) lo' w' = bitsOf v lo' w' := by
  apply Nat.eq_of_testBit_eq; intro i
  rw [testBit_bitsOf, testBit_bitsOf, testBit_putBits]
  by_cases hi : i < w'
  · rw [if_neg (by omega)]
  · simp [hi]

theorem putBits_lt {v lo w x n : Nat} (hv : v < 2 ^ n) (hf : lo + w ≤ n) : putBits v lo w x < 2 ^ n := by
  apply Nat.lt_pow_two_of_testBit; intro i hi
  rw [testBit_putBits, if_neg (by omega)]
  exact Nat.testBit_lt_two_pow (Nat.lt_of_lt_of_le hv (Nat.pow_le_pow_right (by omega) hi))

theorem bitsOf_lt (v lo w : Nat) : bitsOf v lo w < 2 ^ w := Nat.mod_lt _ (Nat.two_pow_pos w)

/-! Registers -/

variable {s : State} {a b n v x : Nat} {f g : Fld} {y : Word}

theorem State.regN_lt : s.regN a < 2 ^ 32 := (s.reg a).isLt

/-- What was stored in a register is read. -/
theorem State.reg_setReg_same (h : s.Inv) : (s.setReg a y).reg a = y := Assoc.get_set_same h.1

/-- Other registers stay. -/
theorem State.reg_setReg_ne (hb : b ≠ a) : (s.setReg a y).reg b = s.reg b := Assoc.get_set_ne hb

theorem State.regN_setRegN_same (h : s.Inv) : (s.setRegN a v).regN a = v % 2 ^ 32 := by
  unfold State.regN State.setRegN
  rw [State.reg_setReg_same h, BitVec.toNat_ofNat]

theorem State.regN_setRegN_ne (hb : b ≠ a) : (s.setRegN a v).regN b = s.regN b := by
  unfold State.regN State.setRegN
  rw [State.reg_setReg_ne hb]

/-! Soundness of stores -/

theorem State.setReg_Inv (h : s.Inv) : (s.setReg a y).Inv := ⟨Assoc.wf_set h.1, h.2⟩
theorem State.setRegN_Inv (h : s.Inv) : (s.setRegN a v).Inv := State.setReg_Inv h
theorem State.fset_Inv (h : s.Inv) : (s.fset f v).Inv := State.setReg_Inv h

/-! Fields -/

/-- A field that lies in a register of 32 bits. -/
def Fld.fits (f : Fld) : Bool := f.lo + f.w ≤ 32

/-- Two fields that share no bit. -/
def Fld.apart (f g : Fld) : Bool := f.reg != g.reg || f.lo + f.w ≤ g.lo || g.lo + g.w ≤ f.lo

theorem State.fget_lt : s.fget f < 2 ^ f.w := bitsOf_lt _ _ _

/-- What was stored in a field is read, cut to the field's width. -/
theorem State.fget_fset_same (h : s.Inv) (hf : f.fits = true) : (s.fset f v).fget f = v % 2 ^ f.w := by
  simp only [Fld.fits, decide_eq_true_eq] at hf
  unfold State.fget State.fset
  rw [State.regN_setRegN_same h, Nat.mod_eq_of_lt (putBits_lt State.regN_lt hf), bitsOf_putBits_same]

/-- A store to a field leaves the fields that share no bit with it. -/
theorem State.fget_fset_apart (h : s.Inv) (hf : f.fits = true) (hg : f.apart g = true) : (s.fset f v).fget g = s.fget g := by
  unfold State.fget State.fset
  by_cases hr : g.reg = f.reg
  · simp only [Fld.fits, decide_eq_true_eq] at hf
    simp only [Fld.apart, bne_iff_ne, Bool.or_eq_true, decide_eq_true_eq] at hg
    rw [hr, State.regN_setRegN_same h, Nat.mod_eq_of_lt (putBits_lt State.regN_lt hf)]
    exact bitsOf_putBits_apart _ _ _ _ _ _ (by omega)
  · rw [State.regN_setRegN_ne hr]

/-- A store to a register leaves the fields of other registers. -/
theorem State.fget_setRegN_ne (hr : f.reg ≠ a) : (s.setRegN a v).fget f = s.fget f := by
  unfold State.fget; rw [State.regN_setRegN_ne hr]

/-- A register outside the field stays. -/
theorem State.regN_fset_ne (hr : a ≠ f.reg) : (s.fset f v).regN a = s.regN a := State.regN_setRegN_ne hr

theorem State.reg_fset_ne (hr : a ≠ f.reg) : (s.fset f v).reg a = s.reg a := State.reg_setReg_ne hr

/-- A saturating counter. -/
theorem State.fget_addSat_same (h : s.Inv) (hf : f.fits = true) :
    (s.addSat f n).fget f = min (2 ^ f.w - 1) (s.fget f + n) := by
  unfold State.addSat
  rw [State.fget_fset_same h hf]
  have : 0 < 2 ^ f.w := Nat.two_pow_pos _
  exact Nat.mod_eq_of_lt (by omega)

/-- A wrapping counter. -/
theorem State.fget_addWrap_same (h : s.Inv) (hf : f.fits = true) : (s.addWrap f n).fget f = (s.fget f + n) % 2 ^ f.w := by
  unfold State.addWrap
  rw [State.fget_fset_same h hf, Nat.mod_mod]

end Sys2Proof.Machine
end

