-- ==== Sys2Proof/Laws/State.lean ====
section
/-! SUPPORT. What each elementary update of the state leaves alone: one lemma per field and update. The register updates change only
`regs`; the others only their own field. -/

namespace Sys2Proof.Machine

/-! setReg -/

section
variable {s : State} {a : Nat} {v : Word}

@[simp] theorem State.setReg_part : (s.setReg a v).part = s.part := rfl
@[simp] theorem State.setReg_step : (s.setReg a v).step = s.step := rfl
@[simp] theorem State.setReg_mem : (s.setReg a v).mem = s.mem := rfl
@[simp] theorem State.setReg_gpio : (s.setReg a v).gpio = s.gpio := rfl
@[simp] theorem State.setReg_hif : (s.setReg a v).hif = s.hif := rfl
@[simp] theorem State.setReg_memu : (s.setReg a v).memu = s.memu := rfl
@[simp] theorem State.setReg_pwr : (s.setReg a v).pwr = s.pwr := rfl
@[simp] theorem State.setReg_rtc : (s.setReg a v).rtc = s.rtc := rfl
@[simp] theorem State.setReg_afe : (s.setReg a v).afe = s.afe := rfl
@[simp] theorem State.setReg_tiu : (s.setReg a v).tiu = s.tiu := rfl
@[simp] theorem State.setReg_ech : (s.setReg a v).ech = s.ech := rfl
@[simp] theorem State.setReg_flw : (s.setReg a v).flw = s.flw := rfl
@[simp] theorem State.setReg_tmu : (s.setReg a v).tmu = s.tmu := rfl
@[simp] theorem State.setReg_ldg : (s.setReg a v).ldg = s.ldg := rfl
@[simp] theorem State.setReg_rad : (s.setReg a v).rad = s.rad := rfl
@[simp] theorem State.setReg_msh : (s.setReg a v).msh = s.msh := rfl
@[simp] theorem State.setReg_rot : (s.setReg a v).rot = s.rot := rfl
@[simp] theorem State.setReg_upd : (s.setReg a v).upd = s.upd := rfl
@[simp] theorem State.setReg_image : (s.setReg a v).image = s.image := rfl
@[simp] theorem State.setReg_lastImage : (s.setReg a v).lastImage = s.lastImage := rfl
@[simp] theorem State.setReg_srcBad : (s.setReg a v).srcBad = s.srcBad := rfl
@[simp] theorem State.setReg_srcStruct : (s.setReg a v).srcStruct = s.srcStruct := rfl
@[simp] theorem State.setReg_badRegs : (s.setReg a v).badRegs = s.badRegs := rfl
@[simp] theorem State.setReg_free : (s.setReg a v).free = s.free := rfl
@[simp] theorem State.setReg_pending : (s.setReg a v).pending = s.pending := rfl
end

/-! setRegN -/

section
variable {s : State} {a v : Nat}

@[simp] theorem State.setRegN_part : (s.setRegN a v).part = s.part := rfl
@[simp] theorem State.setRegN_step : (s.setRegN a v).step = s.step := rfl
@[simp] theorem State.setRegN_mem : (s.setRegN a v).mem = s.mem := rfl
@[simp] theorem State.setRegN_gpio : (s.setRegN a v).gpio = s.gpio := rfl
@[simp] theorem State.setRegN_hif : (s.setRegN a v).hif = s.hif := rfl
@[simp] theorem State.setRegN_memu : (s.setRegN a v).memu = s.memu := rfl
@[simp] theorem State.setRegN_pwr : (s.setRegN a v).pwr = s.pwr := rfl
@[simp] theorem State.setRegN_rtc : (s.setRegN a v).rtc = s.rtc := rfl
@[simp] theorem State.setRegN_afe : (s.setRegN a v).afe = s.afe := rfl
@[simp] theorem State.setRegN_tiu : (s.setRegN a v).tiu = s.tiu := rfl
@[simp] theorem State.setRegN_ech : (s.setRegN a v).ech = s.ech := rfl
@[simp] theorem State.setRegN_flw : (s.setRegN a v).flw = s.flw := rfl
@[simp] theorem State.setRegN_tmu : (s.setRegN a v).tmu = s.tmu := rfl
@[simp] theorem State.setRegN_ldg : (s.setRegN a v).ldg = s.ldg := rfl
@[simp] theorem State.setRegN_rad : (s.setRegN a v).rad = s.rad := rfl
@[simp] theorem State.setRegN_msh : (s.setRegN a v).msh = s.msh := rfl
@[simp] theorem State.setRegN_rot : (s.setRegN a v).rot = s.rot := rfl
@[simp] theorem State.setRegN_upd : (s.setRegN a v).upd = s.upd := rfl
@[simp] theorem State.setRegN_image : (s.setRegN a v).image = s.image := rfl
@[simp] theorem State.setRegN_lastImage : (s.setRegN a v).lastImage = s.lastImage := rfl
@[simp] theorem State.setRegN_srcBad : (s.setRegN a v).srcBad = s.srcBad := rfl
@[simp] theorem State.setRegN_srcStruct : (s.setRegN a v).srcStruct = s.srcStruct := rfl
@[simp] theorem State.setRegN_badRegs : (s.setRegN a v).badRegs = s.badRegs := rfl
@[simp] theorem State.setRegN_free : (s.setRegN a v).free = s.free := rfl
@[simp] theorem State.setRegN_pending : (s.setRegN a v).pending = s.pending := rfl
end

/-! fset -/

section
variable {s : State} {f : Fld} {v : Nat}

@[simp] theorem State.fset_part : (s.fset f v).part = s.part := rfl
@[simp] theorem State.fset_step : (s.fset f v).step = s.step := rfl
@[simp] theorem State.fset_mem : (s.fset f v).mem = s.mem := rfl
@[simp] theorem State.fset_gpio : (s.fset f v).gpio = s.gpio := rfl
@[simp] theorem State.fset_hif : (s.fset f v).hif = s.hif := rfl
@[simp] theorem State.fset_memu : (s.fset f v).memu = s.memu := rfl
@[simp] theorem State.fset_pwr : (s.fset f v).pwr = s.pwr := rfl
@[simp] theorem State.fset_rtc : (s.fset f v).rtc = s.rtc := rfl
@[simp] theorem State.fset_afe : (s.fset f v).afe = s.afe := rfl
@[simp] theorem State.fset_tiu : (s.fset f v).tiu = s.tiu := rfl
@[simp] theorem State.fset_ech : (s.fset f v).ech = s.ech := rfl
@[simp] theorem State.fset_flw : (s.fset f v).flw = s.flw := rfl
@[simp] theorem State.fset_tmu : (s.fset f v).tmu = s.tmu := rfl
@[simp] theorem State.fset_ldg : (s.fset f v).ldg = s.ldg := rfl
@[simp] theorem State.fset_rad : (s.fset f v).rad = s.rad := rfl
@[simp] theorem State.fset_msh : (s.fset f v).msh = s.msh := rfl
@[simp] theorem State.fset_rot : (s.fset f v).rot = s.rot := rfl
@[simp] theorem State.fset_upd : (s.fset f v).upd = s.upd := rfl
@[simp] theorem State.fset_image : (s.fset f v).image = s.image := rfl
@[simp] theorem State.fset_lastImage : (s.fset f v).lastImage = s.lastImage := rfl
@[simp] theorem State.fset_srcBad : (s.fset f v).srcBad = s.srcBad := rfl
@[simp] theorem State.fset_srcStruct : (s.fset f v).srcStruct = s.srcStruct := rfl
@[simp] theorem State.fset_badRegs : (s.fset f v).badRegs = s.badRegs := rfl
@[simp] theorem State.fset_free : (s.fset f v).free = s.free := rfl
@[simp] theorem State.fset_pending : (s.fset f v).pending = s.pending := rfl
end

/-! fsetBit -/

section
variable {s : State} {f : Fld} {i : Nat}

@[simp] theorem State.fsetBit_part : (s.fsetBit f i).part = s.part := rfl
@[simp] theorem State.fsetBit_step : (s.fsetBit f i).step = s.step := rfl
@[simp] theorem State.fsetBit_mem : (s.fsetBit f i).mem = s.mem := rfl
@[simp] theorem State.fsetBit_gpio : (s.fsetBit f i).gpio = s.gpio := rfl
@[simp] theorem State.fsetBit_hif : (s.fsetBit f i).hif = s.hif := rfl
@[simp] theorem State.fsetBit_memu : (s.fsetBit f i).memu = s.memu := rfl
@[simp] theorem State.fsetBit_pwr : (s.fsetBit f i).pwr = s.pwr := rfl
@[simp] theorem State.fsetBit_rtc : (s.fsetBit f i).rtc = s.rtc := rfl
@[simp] theorem State.fsetBit_afe : (s.fsetBit f i).afe = s.afe := rfl
@[simp] theorem State.fsetBit_tiu : (s.fsetBit f i).tiu = s.tiu := rfl
@[simp] theorem State.fsetBit_ech : (s.fsetBit f i).ech = s.ech := rfl
@[simp] theorem State.fsetBit_flw : (s.fsetBit f i).flw = s.flw := rfl
@[simp] theorem State.fsetBit_tmu : (s.fsetBit f i).tmu = s.tmu := rfl
@[simp] theorem State.fsetBit_ldg : (s.fsetBit f i).ldg = s.ldg := rfl
@[simp] theorem State.fsetBit_rad : (s.fsetBit f i).rad = s.rad := rfl
@[simp] theorem State.fsetBit_msh : (s.fsetBit f i).msh = s.msh := rfl
@[simp] theorem State.fsetBit_rot : (s.fsetBit f i).rot = s.rot := rfl
@[simp] theorem State.fsetBit_upd : (s.fsetBit f i).upd = s.upd := rfl
@[simp] theorem State.fsetBit_image : (s.fsetBit f i).image = s.image := rfl
@[simp] theorem State.fsetBit_lastImage : (s.fsetBit f i).lastImage = s.lastImage := rfl
@[simp] theorem State.fsetBit_srcBad : (s.fsetBit f i).srcBad = s.srcBad := rfl
@[simp] theorem State.fsetBit_srcStruct : (s.fsetBit f i).srcStruct = s.srcStruct := rfl
@[simp] theorem State.fsetBit_badRegs : (s.fsetBit f i).badRegs = s.badRegs := rfl
@[simp] theorem State.fsetBit_free : (s.fsetBit f i).free = s.free := rfl
@[simp] theorem State.fsetBit_pending : (s.fsetBit f i).pending = s.pending := rfl
end

/-! fclrBit -/

section
variable {s : State} {f : Fld} {i : Nat}

@[simp] theorem State.fclrBit_part : (s.fclrBit f i).part = s.part := rfl
@[simp] theorem State.fclrBit_step : (s.fclrBit f i).step = s.step := rfl
@[simp] theorem State.fclrBit_mem : (s.fclrBit f i).mem = s.mem := rfl
@[simp] theorem State.fclrBit_gpio : (s.fclrBit f i).gpio = s.gpio := rfl
@[simp] theorem State.fclrBit_hif : (s.fclrBit f i).hif = s.hif := rfl
@[simp] theorem State.fclrBit_memu : (s.fclrBit f i).memu = s.memu := rfl
@[simp] theorem State.fclrBit_pwr : (s.fclrBit f i).pwr = s.pwr := rfl
@[simp] theorem State.fclrBit_rtc : (s.fclrBit f i).rtc = s.rtc := rfl
@[simp] theorem State.fclrBit_afe : (s.fclrBit f i).afe = s.afe := rfl
@[simp] theorem State.fclrBit_tiu : (s.fclrBit f i).tiu = s.tiu := rfl
@[simp] theorem State.fclrBit_ech : (s.fclrBit f i).ech = s.ech := rfl
@[simp] theorem State.fclrBit_flw : (s.fclrBit f i).flw = s.flw := rfl
@[simp] theorem State.fclrBit_tmu : (s.fclrBit f i).tmu = s.tmu := rfl
@[simp] theorem State.fclrBit_ldg : (s.fclrBit f i).ldg = s.ldg := rfl
@[simp] theorem State.fclrBit_rad : (s.fclrBit f i).rad = s.rad := rfl
@[simp] theorem State.fclrBit_msh : (s.fclrBit f i).msh = s.msh := rfl
@[simp] theorem State.fclrBit_rot : (s.fclrBit f i).rot = s.rot := rfl
@[simp] theorem State.fclrBit_upd : (s.fclrBit f i).upd = s.upd := rfl
@[simp] theorem State.fclrBit_image : (s.fclrBit f i).image = s.image := rfl
@[simp] theorem State.fclrBit_lastImage : (s.fclrBit f i).lastImage = s.lastImage := rfl
@[simp] theorem State.fclrBit_srcBad : (s.fclrBit f i).srcBad = s.srcBad := rfl
@[simp] theorem State.fclrBit_srcStruct : (s.fclrBit f i).srcStruct = s.srcStruct := rfl
@[simp] theorem State.fclrBit_badRegs : (s.fclrBit f i).badRegs = s.badRegs := rfl
@[simp] theorem State.fclrBit_free : (s.fclrBit f i).free = s.free := rfl
@[simp] theorem State.fclrBit_pending : (s.fclrBit f i).pending = s.pending := rfl
end

/-! addSat -/

section
variable {s : State} {f : Fld} {n : Nat}

@[simp] theorem State.addSat_part : (s.addSat f n).part = s.part := rfl
@[simp] theorem State.addSat_step : (s.addSat f n).step = s.step := rfl
@[simp] theorem State.addSat_mem : (s.addSat f n).mem = s.mem := rfl
@[simp] theorem State.addSat_gpio : (s.addSat f n).gpio = s.gpio := rfl
@[simp] theorem State.addSat_hif : (s.addSat f n).hif = s.hif := rfl
@[simp] theorem State.addSat_memu : (s.addSat f n).memu = s.memu := rfl
@[simp] theorem State.addSat_pwr : (s.addSat f n).pwr = s.pwr := rfl
@[simp] theorem State.addSat_rtc : (s.addSat f n).rtc = s.rtc := rfl
@[simp] theorem State.addSat_afe : (s.addSat f n).afe = s.afe := rfl
@[simp] theorem State.addSat_tiu : (s.addSat f n).tiu = s.tiu := rfl
@[simp] theorem State.addSat_ech : (s.addSat f n).ech = s.ech := rfl
@[simp] theorem State.addSat_flw : (s.addSat f n).flw = s.flw := rfl
@[simp] theorem State.addSat_tmu : (s.addSat f n).tmu = s.tmu := rfl
@[simp] theorem State.addSat_ldg : (s.addSat f n).ldg = s.ldg := rfl
@[simp] theorem State.addSat_rad : (s.addSat f n).rad = s.rad := rfl
@[simp] theorem State.addSat_msh : (s.addSat f n).msh = s.msh := rfl
@[simp] theorem State.addSat_rot : (s.addSat f n).rot = s.rot := rfl
@[simp] theorem State.addSat_upd : (s.addSat f n).upd = s.upd := rfl
@[simp] theorem State.addSat_image : (s.addSat f n).image = s.image := rfl
@[simp] theorem State.addSat_lastImage : (s.addSat f n).lastImage = s.lastImage := rfl
@[simp] theorem State.addSat_srcBad : (s.addSat f n).srcBad = s.srcBad := rfl
@[simp] theorem State.addSat_srcStruct : (s.addSat f n).srcStruct = s.srcStruct := rfl
@[simp] theorem State.addSat_badRegs : (s.addSat f n).badRegs = s.badRegs := rfl
@[simp] theorem State.addSat_free : (s.addSat f n).free = s.free := rfl
@[simp] theorem State.addSat_pending : (s.addSat f n).pending = s.pending := rfl
end

/-! addWrap -/

section
variable {s : State} {f : Fld} {n : Nat}

@[simp] theorem State.addWrap_part : (s.addWrap f n).part = s.part := rfl
@[simp] theorem State.addWrap_step : (s.addWrap f n).step = s.step := rfl
@[simp] theorem State.addWrap_mem : (s.addWrap f n).mem = s.mem := rfl
@[simp] theorem State.addWrap_gpio : (s.addWrap f n).gpio = s.gpio := rfl
@[simp] theorem State.addWrap_hif : (s.addWrap f n).hif = s.hif := rfl
@[simp] theorem State.addWrap_memu : (s.addWrap f n).memu = s.memu := rfl
@[simp] theorem State.addWrap_pwr : (s.addWrap f n).pwr = s.pwr := rfl
@[simp] theorem State.addWrap_rtc : (s.addWrap f n).rtc = s.rtc := rfl
@[simp] theorem State.addWrap_afe : (s.addWrap f n).afe = s.afe := rfl
@[simp] theorem State.addWrap_tiu : (s.addWrap f n).tiu = s.tiu := rfl
@[simp] theorem State.addWrap_ech : (s.addWrap f n).ech = s.ech := rfl
@[simp] theorem State.addWrap_flw : (s.addWrap f n).flw = s.flw := rfl
@[simp] theorem State.addWrap_tmu : (s.addWrap f n).tmu = s.tmu := rfl
@[simp] theorem State.addWrap_ldg : (s.addWrap f n).ldg = s.ldg := rfl
@[simp] theorem State.addWrap_rad : (s.addWrap f n).rad = s.rad := rfl
@[simp] theorem State.addWrap_msh : (s.addWrap f n).msh = s.msh := rfl
@[simp] theorem State.addWrap_rot : (s.addWrap f n).rot = s.rot := rfl
@[simp] theorem State.addWrap_upd : (s.addWrap f n).upd = s.upd := rfl
@[simp] theorem State.addWrap_image : (s.addWrap f n).image = s.image := rfl
@[simp] theorem State.addWrap_lastImage : (s.addWrap f n).lastImage = s.lastImage := rfl
@[simp] theorem State.addWrap_srcBad : (s.addWrap f n).srcBad = s.srcBad := rfl
@[simp] theorem State.addWrap_srcStruct : (s.addWrap f n).srcStruct = s.srcStruct := rfl
@[simp] theorem State.addWrap_badRegs : (s.addWrap f n).badRegs = s.badRegs := rfl
@[simp] theorem State.addWrap_free : (s.addWrap f n).free = s.free := rfl
@[simp] theorem State.addWrap_pending : (s.addWrap f n).pending = s.pending := rfl
end

/-! raise -/

section
variable {s : State} {f : Fld}

@[simp] theorem State.raise_part : (s.raise f).part = s.part := rfl
@[simp] theorem State.raise_step : (s.raise f).step = s.step := rfl
@[simp] theorem State.raise_mem : (s.raise f).mem = s.mem := rfl
@[simp] theorem State.raise_gpio : (s.raise f).gpio = s.gpio := rfl
@[simp] theorem State.raise_hif : (s.raise f).hif = s.hif := rfl
@[simp] theorem State.raise_memu : (s.raise f).memu = s.memu := rfl
@[simp] theorem State.raise_pwr : (s.raise f).pwr = s.pwr := rfl
@[simp] theorem State.raise_rtc : (s.raise f).rtc = s.rtc := rfl
@[simp] theorem State.raise_afe : (s.raise f).afe = s.afe := rfl
@[simp] theorem State.raise_tiu : (s.raise f).tiu = s.tiu := rfl
@[simp] theorem State.raise_ech : (s.raise f).ech = s.ech := rfl
@[simp] theorem State.raise_flw : (s.raise f).flw = s.flw := rfl
@[simp] theorem State.raise_tmu : (s.raise f).tmu = s.tmu := rfl
@[simp] theorem State.raise_ldg : (s.raise f).ldg = s.ldg := rfl
@[simp] theorem State.raise_rad : (s.raise f).rad = s.rad := rfl
@[simp] theorem State.raise_msh : (s.raise f).msh = s.msh := rfl
@[simp] theorem State.raise_rot : (s.raise f).rot = s.rot := rfl
@[simp] theorem State.raise_upd : (s.raise f).upd = s.upd := rfl
@[simp] theorem State.raise_image : (s.raise f).image = s.image := rfl
@[simp] theorem State.raise_lastImage : (s.raise f).lastImage = s.lastImage := rfl
@[simp] theorem State.raise_srcBad : (s.raise f).srcBad = s.srcBad := rfl
@[simp] theorem State.raise_srcStruct : (s.raise f).srcStruct = s.srcStruct := rfl
@[simp] theorem State.raise_badRegs : (s.raise f).badRegs = s.badRegs := rfl
@[simp] theorem State.raise_free : (s.raise f).free = s.free := rfl
@[simp] theorem State.raise_pending : (s.raise f).pending = s.pending := rfl
end

/-! setLdg -/

section
variable {s : State} {g : Ldg → Ldg}

@[simp] theorem State.setLdg_part : (s.setLdg g).part = s.part := rfl
@[simp] theorem State.setLdg_step : (s.setLdg g).step = s.step := rfl
@[simp] theorem State.setLdg_regs : (s.setLdg g).regs = s.regs := rfl
@[simp] theorem State.setLdg_mem : (s.setLdg g).mem = s.mem := rfl
@[simp] theorem State.setLdg_gpio : (s.setLdg g).gpio = s.gpio := rfl
@[simp] theorem State.setLdg_hif : (s.setLdg g).hif = s.hif := rfl
@[simp] theorem State.setLdg_memu : (s.setLdg g).memu = s.memu := rfl
@[simp] theorem State.setLdg_pwr : (s.setLdg g).pwr = s.pwr := rfl
@[simp] theorem State.setLdg_rtc : (s.setLdg g).rtc = s.rtc := rfl
@[simp] theorem State.setLdg_afe : (s.setLdg g).afe = s.afe := rfl
@[simp] theorem State.setLdg_tiu : (s.setLdg g).tiu = s.tiu := rfl
@[simp] theorem State.setLdg_ech : (s.setLdg g).ech = s.ech := rfl
@[simp] theorem State.setLdg_flw : (s.setLdg g).flw = s.flw := rfl
@[simp] theorem State.setLdg_tmu : (s.setLdg g).tmu = s.tmu := rfl
@[simp] theorem State.setLdg_rad : (s.setLdg g).rad = s.rad := rfl
@[simp] theorem State.setLdg_msh : (s.setLdg g).msh = s.msh := rfl
@[simp] theorem State.setLdg_rot : (s.setLdg g).rot = s.rot := rfl
@[simp] theorem State.setLdg_upd : (s.setLdg g).upd = s.upd := rfl
@[simp] theorem State.setLdg_image : (s.setLdg g).image = s.image := rfl
@[simp] theorem State.setLdg_lastImage : (s.setLdg g).lastImage = s.lastImage := rfl
@[simp] theorem State.setLdg_srcBad : (s.setLdg g).srcBad = s.srcBad := rfl
@[simp] theorem State.setLdg_srcStruct : (s.setLdg g).srcStruct = s.srcStruct := rfl
@[simp] theorem State.setLdg_badRegs : (s.setLdg g).badRegs = s.badRegs := rfl
@[simp] theorem State.setLdg_free : (s.setLdg g).free = s.free := rfl
@[simp] theorem State.setLdg_pending : (s.setLdg g).pending = s.pending := rfl
@[simp] theorem State.setLdg_own : (s.setLdg g).ldg = g s.ldg := rfl
end

/-! setPwr -/

section
variable {s : State} {g : Pwr → Pwr}

@[simp] theorem State.setPwr_part : (s.setPwr g).part = s.part := rfl
@[simp] theorem State.setPwr_step : (s.setPwr g).step = s.step := rfl
@[simp] theorem State.setPwr_regs : (s.setPwr g).regs = s.regs := rfl
@[simp] theorem State.setPwr_mem : (s.setPwr g).mem = s.mem := rfl
@[simp] theorem State.setPwr_gpio : (s.setPwr g).gpio = s.gpio := rfl
@[simp] theorem State.setPwr_hif : (s.setPwr g).hif = s.hif := rfl
@[simp] theorem State.setPwr_memu : (s.setPwr g).memu = s.memu := rfl
@[simp] theorem State.setPwr_rtc : (s.setPwr g).rtc = s.rtc := rfl
@[simp] theorem State.setPwr_afe : (s.setPwr g).afe = s.afe := rfl
@[simp] theorem State.setPwr_tiu : (s.setPwr g).tiu = s.tiu := rfl
@[simp] theorem State.setPwr_ech : (s.setPwr g).ech = s.ech := rfl
@[simp] theorem State.setPwr_flw : (s.setPwr g).flw = s.flw := rfl
@[simp] theorem State.setPwr_tmu : (s.setPwr g).tmu = s.tmu := rfl
@[simp] theorem State.setPwr_ldg : (s.setPwr g).ldg = s.ldg := rfl
@[simp] theorem State.setPwr_rad : (s.setPwr g).rad = s.rad := rfl
@[simp] theorem State.setPwr_msh : (s.setPwr g).msh = s.msh := rfl
@[simp] theorem State.setPwr_rot : (s.setPwr g).rot = s.rot := rfl
@[simp] theorem State.setPwr_upd : (s.setPwr g).upd = s.upd := rfl
@[simp] theorem State.setPwr_image : (s.setPwr g).image = s.image := rfl
@[simp] theorem State.setPwr_lastImage : (s.setPwr g).lastImage = s.lastImage := rfl
@[simp] theorem State.setPwr_srcBad : (s.setPwr g).srcBad = s.srcBad := rfl
@[simp] theorem State.setPwr_srcStruct : (s.setPwr g).srcStruct = s.srcStruct := rfl
@[simp] theorem State.setPwr_badRegs : (s.setPwr g).badRegs = s.badRegs := rfl
@[simp] theorem State.setPwr_free : (s.setPwr g).free = s.free := rfl
@[simp] theorem State.setPwr_pending : (s.setPwr g).pending = s.pending := rfl
@[simp] theorem State.setPwr_own : (s.setPwr g).pwr = g s.pwr := rfl
end

/-! setRot -/

section
variable {s : State} {g : Rot → Rot}

@[simp] theorem State.setRot_part : (s.setRot g).part = s.part := rfl
@[simp] theorem State.setRot_step : (s.setRot g).step = s.step := rfl
@[simp] theorem State.setRot_regs : (s.setRot g).regs = s.regs := rfl
@[simp] theorem State.setRot_mem : (s.setRot g).mem = s.mem := rfl
@[simp] theorem State.setRot_gpio : (s.setRot g).gpio = s.gpio := rfl
@[simp] theorem State.setRot_hif : (s.setRot g).hif = s.hif := rfl
@[simp] theorem State.setRot_memu : (s.setRot g).memu = s.memu := rfl
@[simp] theorem State.setRot_pwr : (s.setRot g).pwr = s.pwr := rfl
@[simp] theorem State.setRot_rtc : (s.setRot g).rtc = s.rtc := rfl
@[simp] theorem State.setRot_afe : (s.setRot g).afe = s.afe := rfl
@[simp] theorem State.setRot_tiu : (s.setRot g).tiu = s.tiu := rfl
@[simp] theorem State.setRot_ech : (s.setRot g).ech = s.ech := rfl
@[simp] theorem State.setRot_flw : (s.setRot g).flw = s.flw := rfl
@[simp] theorem State.setRot_tmu : (s.setRot g).tmu = s.tmu := rfl
@[simp] theorem State.setRot_ldg : (s.setRot g).ldg = s.ldg := rfl
@[simp] theorem State.setRot_rad : (s.setRot g).rad = s.rad := rfl
@[simp] theorem State.setRot_msh : (s.setRot g).msh = s.msh := rfl
@[simp] theorem State.setRot_upd : (s.setRot g).upd = s.upd := rfl
@[simp] theorem State.setRot_image : (s.setRot g).image = s.image := rfl
@[simp] theorem State.setRot_lastImage : (s.setRot g).lastImage = s.lastImage := rfl
@[simp] theorem State.setRot_srcBad : (s.setRot g).srcBad = s.srcBad := rfl
@[simp] theorem State.setRot_srcStruct : (s.setRot g).srcStruct = s.srcStruct := rfl
@[simp] theorem State.setRot_badRegs : (s.setRot g).badRegs = s.badRegs := rfl
@[simp] theorem State.setRot_free : (s.setRot g).free = s.free := rfl
@[simp] theorem State.setRot_pending : (s.setRot g).pending = s.pending := rfl
@[simp] theorem State.setRot_own : (s.setRot g).rot = g s.rot := rfl
end

/-! setMsh -/

section
variable {s : State} {g : Msh → Msh}

@[simp] theorem State.setMsh_part : (s.setMsh g).part = s.part := rfl
@[simp] theorem State.setMsh_step : (s.setMsh g).step = s.step := rfl
@[simp] theorem State.setMsh_regs : (s.setMsh g).regs = s.regs := rfl
@[simp] theorem State.setMsh_mem : (s.setMsh g).mem = s.mem := rfl
@[simp] theorem State.setMsh_gpio : (s.setMsh g).gpio = s.gpio := rfl
@[simp] theorem State.setMsh_hif : (s.setMsh g).hif = s.hif := rfl
@[simp] theorem State.setMsh_memu : (s.setMsh g).memu = s.memu := rfl
@[simp] theorem State.setMsh_pwr : (s.setMsh g).pwr = s.pwr := rfl
@[simp] theorem State.setMsh_rtc : (s.setMsh g).rtc = s.rtc := rfl
@[simp] theorem State.setMsh_afe : (s.setMsh g).afe = s.afe := rfl
@[simp] theorem State.setMsh_tiu : (s.setMsh g).tiu = s.tiu := rfl
@[simp] theorem State.setMsh_ech : (s.setMsh g).ech = s.ech := rfl
@[simp] theorem State.setMsh_flw : (s.setMsh g).flw = s.flw := rfl
@[simp] theorem State.setMsh_tmu : (s.setMsh g).tmu = s.tmu := rfl
@[simp] theorem State.setMsh_ldg : (s.setMsh g).ldg = s.ldg := rfl
@[simp] theorem State.setMsh_rad : (s.setMsh g).rad = s.rad := rfl
@[simp] theorem State.setMsh_rot : (s.setMsh g).rot = s.rot := rfl
@[simp] theorem State.setMsh_upd : (s.setMsh g).upd = s.upd := rfl
@[simp] theorem State.setMsh_image : (s.setMsh g).image = s.image := rfl
@[simp] theorem State.setMsh_lastImage : (s.setMsh g).lastImage = s.lastImage := rfl
@[simp] theorem State.setMsh_srcBad : (s.setMsh g).srcBad = s.srcBad := rfl
@[simp] theorem State.setMsh_srcStruct : (s.setMsh g).srcStruct = s.srcStruct := rfl
@[simp] theorem State.setMsh_badRegs : (s.setMsh g).badRegs = s.badRegs := rfl
@[simp] theorem State.setMsh_free : (s.setMsh g).free = s.free := rfl
@[simp] theorem State.setMsh_pending : (s.setMsh g).pending = s.pending := rfl
@[simp] theorem State.setMsh_own : (s.setMsh g).msh = g s.msh := rfl
end

/-! setTmu -/

section
variable {s : State} {g : Tmu → Tmu}

@[simp] theorem State.setTmu_part : (s.setTmu g).part = s.part := rfl
@[simp] theorem State.setTmu_step : (s.setTmu g).step = s.step := rfl
@[simp] theorem State.setTmu_regs : (s.setTmu g).regs = s.regs := rfl
@[simp] theorem State.setTmu_mem : (s.setTmu g).mem = s.mem := rfl
@[simp] theorem State.setTmu_gpio : (s.setTmu g).gpio = s.gpio := rfl
@[simp] theorem State.setTmu_hif : (s.setTmu g).hif = s.hif := rfl
@[simp] theorem State.setTmu_memu : (s.setTmu g).memu = s.memu := rfl
@[simp] theorem State.setTmu_pwr : (s.setTmu g).pwr = s.pwr := rfl
@[simp] theorem State.setTmu_rtc : (s.setTmu g).rtc = s.rtc := rfl
@[simp] theorem State.setTmu_afe : (s.setTmu g).afe = s.afe := rfl
@[simp] theorem State.setTmu_tiu : (s.setTmu g).tiu = s.tiu := rfl
@[simp] theorem State.setTmu_ech : (s.setTmu g).ech = s.ech := rfl
@[simp] theorem State.setTmu_flw : (s.setTmu g).flw = s.flw := rfl
@[simp] theorem State.setTmu_ldg : (s.setTmu g).ldg = s.ldg := rfl
@[simp] theorem State.setTmu_rad : (s.setTmu g).rad = s.rad := rfl
@[simp] theorem State.setTmu_msh : (s.setTmu g).msh = s.msh := rfl
@[simp] theorem State.setTmu_rot : (s.setTmu g).rot = s.rot := rfl
@[simp] theorem State.setTmu_upd : (s.setTmu g).upd = s.upd := rfl
@[simp] theorem State.setTmu_image : (s.setTmu g).image = s.image := rfl
@[simp] theorem State.setTmu_lastImage : (s.setTmu g).lastImage = s.lastImage := rfl
@[simp] theorem State.setTmu_srcBad : (s.setTmu g).srcBad = s.srcBad := rfl
@[simp] theorem State.setTmu_srcStruct : (s.setTmu g).srcStruct = s.srcStruct := rfl
@[simp] theorem State.setTmu_badRegs : (s.setTmu g).badRegs = s.badRegs := rfl
@[simp] theorem State.setTmu_free : (s.setTmu g).free = s.free := rfl
@[simp] theorem State.setTmu_pending : (s.setTmu g).pending = s.pending := rfl
@[simp] theorem State.setTmu_own : (s.setTmu g).tmu = g s.tmu := rfl
end

/-! setUpd -/

section
variable {s : State} {g : Upd → Upd}

@[simp] theorem State.setUpd_part : (s.setUpd g).part = s.part := rfl
@[simp] theorem State.setUpd_step : (s.setUpd g).step = s.step := rfl
@[simp] theorem State.setUpd_regs : (s.setUpd g).regs = s.regs := rfl
@[simp] theorem State.setUpd_mem : (s.setUpd g).mem = s.mem := rfl
@[simp] theorem State.setUpd_gpio : (s.setUpd g).gpio = s.gpio := rfl
@[simp] theorem State.setUpd_hif : (s.setUpd g).hif = s.hif := rfl
@[simp] theorem State.setUpd_memu : (s.setUpd g).memu = s.memu := rfl
@[simp] theorem State.setUpd_pwr : (s.setUpd g).pwr = s.pwr := rfl
@[simp] theorem State.setUpd_rtc : (s.setUpd g).rtc = s.rtc := rfl
@[simp] theorem State.setUpd_afe : (s.setUpd g).afe = s.afe := rfl
@[simp] theorem State.setUpd_tiu : (s.setUpd g).tiu = s.tiu := rfl
@[simp] theorem State.setUpd_ech : (s.setUpd g).ech = s.ech := rfl
@[simp] theorem State.setUpd_flw : (s.setUpd g).flw = s.flw := rfl
@[simp] theorem State.setUpd_tmu : (s.setUpd g).tmu = s.tmu := rfl
@[simp] theorem State.setUpd_ldg : (s.setUpd g).ldg = s.ldg := rfl
@[simp] theorem State.setUpd_rad : (s.setUpd g).rad = s.rad := rfl
@[simp] theorem State.setUpd_msh : (s.setUpd g).msh = s.msh := rfl
@[simp] theorem State.setUpd_rot : (s.setUpd g).rot = s.rot := rfl
@[simp] theorem State.setUpd_image : (s.setUpd g).image = s.image := rfl
@[simp] theorem State.setUpd_lastImage : (s.setUpd g).lastImage = s.lastImage := rfl
@[simp] theorem State.setUpd_srcBad : (s.setUpd g).srcBad = s.srcBad := rfl
@[simp] theorem State.setUpd_srcStruct : (s.setUpd g).srcStruct = s.srcStruct := rfl
@[simp] theorem State.setUpd_badRegs : (s.setUpd g).badRegs = s.badRegs := rfl
@[simp] theorem State.setUpd_free : (s.setUpd g).free = s.free := rfl
@[simp] theorem State.setUpd_pending : (s.setUpd g).pending = s.pending := rfl
@[simp] theorem State.setUpd_own : (s.setUpd g).upd = g s.upd := rfl
end

/-! setMemu -/

section
variable {s : State} {g : Memu → Memu}

@[simp] theorem State.setMemu_part : (s.setMemu g).part = s.part := rfl
@[simp] theorem State.setMemu_step : (s.setMemu g).step = s.step := rfl
@[simp] theorem State.setMemu_regs : (s.setMemu g).regs = s.regs := rfl
@[simp] theorem State.setMemu_mem : (s.setMemu g).mem = s.mem := rfl
@[simp] theorem State.setMemu_gpio : (s.setMemu g).gpio = s.gpio := rfl
@[simp] theorem State.setMemu_hif : (s.setMemu g).hif = s.hif := rfl
@[simp] theorem State.setMemu_pwr : (s.setMemu g).pwr = s.pwr := rfl
@[simp] theorem State.setMemu_rtc : (s.setMemu g).rtc = s.rtc := rfl
@[simp] theorem State.setMemu_afe : (s.setMemu g).afe = s.afe := rfl
@[simp] theorem State.setMemu_tiu : (s.setMemu g).tiu = s.tiu := rfl
@[simp] theorem State.setMemu_ech : (s.setMemu g).ech = s.ech := rfl
@[simp] theorem State.setMemu_flw : (s.setMemu g).flw = s.flw := rfl
@[simp] theorem State.setMemu_tmu : (s.setMemu g).tmu = s.tmu := rfl
@[simp] theorem State.setMemu_ldg : (s.setMemu g).ldg = s.ldg := rfl
@[simp] theorem State.setMemu_rad : (s.setMemu g).rad = s.rad := rfl
@[simp] theorem State.setMemu_msh : (s.setMemu g).msh = s.msh := rfl
@[simp] theorem State.setMemu_rot : (s.setMemu g).rot = s.rot := rfl
@[simp] theorem State.setMemu_upd : (s.setMemu g).upd = s.upd := rfl
@[simp] theorem State.setMemu_image : (s.setMemu g).image = s.image := rfl
@[simp] theorem State.setMemu_lastImage : (s.setMemu g).lastImage = s.lastImage := rfl
@[simp] theorem State.setMemu_srcBad : (s.setMemu g).srcBad = s.srcBad := rfl
@[simp] theorem State.setMemu_srcStruct : (s.setMemu g).srcStruct = s.srcStruct := rfl
@[simp] theorem State.setMemu_badRegs : (s.setMemu g).badRegs = s.badRegs := rfl
@[simp] theorem State.setMemu_free : (s.setMemu g).free = s.free := rfl
@[simp] theorem State.setMemu_pending : (s.setMemu g).pending = s.pending := rfl
@[simp] theorem State.setMemu_own : (s.setMemu g).memu = g s.memu := rfl
end

/-! setByte -/

section
variable {s : State} {a : Nat} {v : Byte}

@[simp] theorem State.setByte_part : (s.setByte a v).part = s.part := rfl
@[simp] theorem State.setByte_step : (s.setByte a v).step = s.step := rfl
@[simp] theorem State.setByte_regs : (s.setByte a v).regs = s.regs := rfl
@[simp] theorem State.setByte_gpio : (s.setByte a v).gpio = s.gpio := rfl
@[simp] theorem State.setByte_hif : (s.setByte a v).hif = s.hif := rfl
@[simp] theorem State.setByte_memu : (s.setByte a v).memu = s.memu := rfl
@[simp] theorem State.setByte_pwr : (s.setByte a v).pwr = s.pwr := rfl
@[simp] theorem State.setByte_rtc : (s.setByte a v).rtc = s.rtc := rfl
@[simp] theorem State.setByte_afe : (s.setByte a v).afe = s.afe := rfl
@[simp] theorem State.setByte_tiu : (s.setByte a v).tiu = s.tiu := rfl
@[simp] theorem State.setByte_ech : (s.setByte a v).ech = s.ech := rfl
@[simp] theorem State.setByte_flw : (s.setByte a v).flw = s.flw := rfl
@[simp] theorem State.setByte_tmu : (s.setByte a v).tmu = s.tmu := rfl
@[simp] theorem State.setByte_ldg : (s.setByte a v).ldg = s.ldg := rfl
@[simp] theorem State.setByte_rad : (s.setByte a v).rad = s.rad := rfl
@[simp] theorem State.setByte_msh : (s.setByte a v).msh = s.msh := rfl
@[simp] theorem State.setByte_rot : (s.setByte a v).rot = s.rot := rfl
@[simp] theorem State.setByte_upd : (s.setByte a v).upd = s.upd := rfl
@[simp] theorem State.setByte_image : (s.setByte a v).image = s.image := rfl
@[simp] theorem State.setByte_lastImage : (s.setByte a v).lastImage = s.lastImage := rfl
@[simp] theorem State.setByte_srcBad : (s.setByte a v).srcBad = s.srcBad := rfl
@[simp] theorem State.setByte_srcStruct : (s.setByte a v).srcStruct = s.srcStruct := rfl
@[simp] theorem State.setByte_badRegs : (s.setByte a v).badRegs = s.badRegs := rfl
@[simp] theorem State.setByte_free : (s.setByte a v).free = s.free := rfl
@[simp] theorem State.setByte_pending : (s.setByte a v).pending = s.pending := rfl
end

/-! setOp -/

section
variable {s : State} {i : Nat} {e : OpEntry}

@[simp] theorem State.setOp_part : (s.setOp i e).part = s.part := rfl
@[simp] theorem State.setOp_step : (s.setOp i e).step = s.step := rfl
@[simp] theorem State.setOp_regs : (s.setOp i e).regs = s.regs := rfl
@[simp] theorem State.setOp_mem : (s.setOp i e).mem = s.mem := rfl
@[simp] theorem State.setOp_gpio : (s.setOp i e).gpio = s.gpio := rfl
@[simp] theorem State.setOp_memu : (s.setOp i e).memu = s.memu := rfl
@[simp] theorem State.setOp_pwr : (s.setOp i e).pwr = s.pwr := rfl
@[simp] theorem State.setOp_rtc : (s.setOp i e).rtc = s.rtc := rfl
@[simp] theorem State.setOp_afe : (s.setOp i e).afe = s.afe := rfl
@[simp] theorem State.setOp_tiu : (s.setOp i e).tiu = s.tiu := rfl
@[simp] theorem State.setOp_ech : (s.setOp i e).ech = s.ech := rfl
@[simp] theorem State.setOp_flw : (s.setOp i e).flw = s.flw := rfl
@[simp] theorem State.setOp_tmu : (s.setOp i e).tmu = s.tmu := rfl
@[simp] theorem State.setOp_ldg : (s.setOp i e).ldg = s.ldg := rfl
@[simp] theorem State.setOp_rad : (s.setOp i e).rad = s.rad := rfl
@[simp] theorem State.setOp_msh : (s.setOp i e).msh = s.msh := rfl
@[simp] theorem State.setOp_rot : (s.setOp i e).rot = s.rot := rfl
@[simp] theorem State.setOp_upd : (s.setOp i e).upd = s.upd := rfl
@[simp] theorem State.setOp_image : (s.setOp i e).image = s.image := rfl
@[simp] theorem State.setOp_lastImage : (s.setOp i e).lastImage = s.lastImage := rfl
@[simp] theorem State.setOp_srcBad : (s.setOp i e).srcBad = s.srcBad := rfl
@[simp] theorem State.setOp_srcStruct : (s.setOp i e).srcStruct = s.srcStruct := rfl
@[simp] theorem State.setOp_badRegs : (s.setOp i e).badRegs = s.badRegs := rfl
@[simp] theorem State.setOp_free : (s.setOp i e).free = s.free := rfl
@[simp] theorem State.setOp_pending : (s.setOp i e).pending = s.pending := rfl
end

/-! respond -/

section
variable {s : State} {r : Resp}

@[simp] theorem State.respond_part : (s.respond r).part = s.part := rfl
@[simp] theorem State.respond_step : (s.respond r).step = s.step := rfl
@[simp] theorem State.respond_regs : (s.respond r).regs = s.regs := rfl
@[simp] theorem State.respond_mem : (s.respond r).mem = s.mem := rfl
@[simp] theorem State.respond_gpio : (s.respond r).gpio = s.gpio := rfl
@[simp] theorem State.respond_memu : (s.respond r).memu = s.memu := rfl
@[simp] theorem State.respond_pwr : (s.respond r).pwr = s.pwr := rfl
@[simp] theorem State.respond_rtc : (s.respond r).rtc = s.rtc := rfl
@[simp] theorem State.respond_afe : (s.respond r).afe = s.afe := rfl
@[simp] theorem State.respond_tiu : (s.respond r).tiu = s.tiu := rfl
@[simp] theorem State.respond_ech : (s.respond r).ech = s.ech := rfl
@[simp] theorem State.respond_flw : (s.respond r).flw = s.flw := rfl
@[simp] theorem State.respond_tmu : (s.respond r).tmu = s.tmu := rfl
@[simp] theorem State.respond_ldg : (s.respond r).ldg = s.ldg := rfl
@[simp] theorem State.respond_rad : (s.respond r).rad = s.rad := rfl
@[simp] theorem State.respond_msh : (s.respond r).msh = s.msh := rfl
@[simp] theorem State.respond_rot : (s.respond r).rot = s.rot := rfl
@[simp] theorem State.respond_upd : (s.respond r).upd = s.upd := rfl
@[simp] theorem State.respond_image : (s.respond r).image = s.image := rfl
@[simp] theorem State.respond_lastImage : (s.respond r).lastImage = s.lastImage := rfl
@[simp] theorem State.respond_srcBad : (s.respond r).srcBad = s.srcBad := rfl
@[simp] theorem State.respond_srcStruct : (s.respond r).srcStruct = s.srcStruct := rfl
@[simp] theorem State.respond_badRegs : (s.respond r).badRegs = s.badRegs := rfl
@[simp] theorem State.respond_free : (s.respond r).free = s.free := rfl
@[simp] theorem State.respond_pending : (s.respond r).pending = s.pending := rfl
@[simp] theorem State.respond_resp : (s.respond r).hif.resp = some r := rfl
end

/-! answer -/

section
variable {s : State} {n : Nat}

@[simp] theorem State.answer_part : (s.answer n).part = s.part := rfl
@[simp] theorem State.answer_step : (s.answer n).step = s.step := rfl
@[simp] theorem State.answer_regs : (s.answer n).regs = s.regs := rfl
@[simp] theorem State.answer_mem : (s.answer n).mem = s.mem := rfl
@[simp] theorem State.answer_gpio : (s.answer n).gpio = s.gpio := rfl
@[simp] theorem State.answer_memu : (s.answer n).memu = s.memu := rfl
@[simp] theorem State.answer_pwr : (s.answer n).pwr = s.pwr := rfl
@[simp] theorem State.answer_rtc : (s.answer n).rtc = s.rtc := rfl
@[simp] theorem State.answer_afe : (s.answer n).afe = s.afe := rfl
@[simp] theorem State.answer_tiu : (s.answer n).tiu = s.tiu := rfl
@[simp] theorem State.answer_ech : (s.answer n).ech = s.ech := rfl
@[simp] theorem State.answer_flw : (s.answer n).flw = s.flw := rfl
@[simp] theorem State.answer_tmu : (s.answer n).tmu = s.tmu := rfl
@[simp] theorem State.answer_ldg : (s.answer n).ldg = s.ldg := rfl
@[simp] theorem State.answer_rad : (s.answer n).rad = s.rad := rfl
@[simp] theorem State.answer_msh : (s.answer n).msh = s.msh := rfl
@[simp] theorem State.answer_rot : (s.answer n).rot = s.rot := rfl
@[simp] theorem State.answer_upd : (s.answer n).upd = s.upd := rfl
@[simp] theorem State.answer_image : (s.answer n).image = s.image := rfl
@[simp] theorem State.answer_lastImage : (s.answer n).lastImage = s.lastImage := rfl
@[simp] theorem State.answer_srcBad : (s.answer n).srcBad = s.srcBad := rfl
@[simp] theorem State.answer_srcStruct : (s.answer n).srcStruct = s.srcStruct := rfl
@[simp] theorem State.answer_badRegs : (s.answer n).badRegs = s.badRegs := rfl
@[simp] theorem State.answer_free : (s.answer n).free = s.free := rfl
@[simp] theorem State.answer_pending : (s.answer n).pending = s.pending := rfl
@[simp] theorem State.answer_resp : (s.answer n).hif.resp = some (s.header n) := rfl
end

/-! setRegs and fsetAll, and the stores that the register readers see -/

section
variable {s : State}

@[simp] theorem State.setRegs_part {l : List (Nat × Nat)} : (s.setRegs l).part = s.part := by
  induction l generalizing s with
  | nil => rfl
  | cons p t ih => exact ih
@[simp] theorem State.setRegs_step {l : List (Nat × Nat)} : (s.setRegs l).step = s.step := by
  induction l generalizing s with
  | nil => rfl
  | cons p t ih => exact ih
@[simp] theorem State.setRegs_mem {l : List (Nat × Nat)} : (s.setRegs l).mem = s.mem := by
  induction l generalizing s with
  | nil => rfl
  | cons p t ih => exact ih
@[simp] theorem State.setRegs_gpio {l : List (Nat × Nat)} : (s.setRegs l).gpio = s.gpio := by
  induction l generalizing s with
  | nil => rfl
  | cons p t ih => exact ih
@[simp] theorem State.setRegs_hif {l : List (Nat × Nat)} : (s.setRegs l).hif = s.hif := by
  induction l generalizing s with
  | nil => rfl
  | cons p t ih => exact ih
@[simp] theorem State.setRegs_memu {l : List (Nat × Nat)} : (s.setRegs l).memu = s.memu := by
  induction l generalizing s with
  | nil => rfl
  | cons p t ih => exact ih
@[simp] theorem State.setRegs_pwr {l : List (Nat × Nat)} : (s.setRegs l).pwr = s.pwr := by
  induction l generalizing s with
  | nil => rfl
  | cons p t ih => exact ih
@[simp] theorem State.setRegs_rtc {l : List (Nat × Nat)} : (s.setRegs l).rtc = s.rtc := by
  induction l generalizing s with
  | nil => rfl
  | cons p t ih => exact ih
@[simp] theorem State.setRegs_afe {l : List (Nat × Nat)} : (s.setRegs l).afe = s.afe := by
  induction l generalizing s with
  | nil => rfl
  | cons p t ih => exact ih
@[simp] theorem State.setRegs_tiu {l : List (Nat × Nat)} : (s.setRegs l).tiu = s.tiu := by
  induction l generalizing s with
  | nil => rfl
  | cons p t ih => exact ih
@[simp] theorem State.setRegs_ech {l : List (Nat × Nat)} : (s.setRegs l).ech = s.ech := by
  induction l generalizing s with
  | nil => rfl
  | cons p t ih => exact ih
@[simp] theorem State.setRegs_flw {l : List (Nat × Nat)} : (s.setRegs l).flw = s.flw := by
  induction l generalizing s with
  | nil => rfl
  | cons p t ih => exact ih
@[simp] theorem State.setRegs_tmu {l : List (Nat × Nat)} : (s.setRegs l).tmu = s.tmu := by
  induction l generalizing s with
  | nil => rfl
  | cons p t ih => exact ih
@[simp] theorem State.setRegs_ldg {l : List (Nat × Nat)} : (s.setRegs l).ldg = s.ldg := by
  induction l generalizing s with
  | nil => rfl
  | cons p t ih => exact ih
@[simp] theorem State.setRegs_rad {l : List (Nat × Nat)} : (s.setRegs l).rad = s.rad := by
  induction l generalizing s with
  | nil => rfl
  | cons p t ih => exact ih
@[simp] theorem State.setRegs_msh {l : List (Nat × Nat)} : (s.setRegs l).msh = s.msh := by
  induction l generalizing s with
  | nil => rfl
  | cons p t ih => exact ih
@[simp] theorem State.setRegs_rot {l : List (Nat × Nat)} : (s.setRegs l).rot = s.rot := by
  induction l generalizing s with
  | nil => rfl
  | cons p t ih => exact ih
@[simp] theorem State.setRegs_upd {l : List (Nat × Nat)} : (s.setRegs l).upd = s.upd := by
  induction l generalizing s with
  | nil => rfl
  | cons p t ih => exact ih
@[simp] theorem State.setRegs_image {l : List (Nat × Nat)} : (s.setRegs l).image = s.image := by
  induction l generalizing s with
  | nil => rfl
  | cons p t ih => exact ih
@[simp] theorem State.setRegs_lastImage {l : List (Nat × Nat)} : (s.setRegs l).lastImage = s.lastImage := by
  induction l generalizing s with
  | nil => rfl
  | cons p t ih => exact ih
@[simp] theorem State.setRegs_srcBad {l : List (Nat × Nat)} : (s.setRegs l).srcBad = s.srcBad := by
  induction l generalizing s with
  | nil => rfl
  | cons p t ih => exact ih
@[simp] theorem State.setRegs_srcStruct {l : List (Nat × Nat)} : (s.setRegs l).srcStruct = s.srcStruct := by
  induction l generalizing s with
  | nil => rfl
  | cons p t ih => exact ih
@[simp] theorem State.setRegs_badRegs {l : List (Nat × Nat)} : (s.setRegs l).badRegs = s.badRegs := by
  induction l generalizing s with
  | nil => rfl
  | cons p t ih => exact ih
@[simp] theorem State.setRegs_free {l : List (Nat × Nat)} : (s.setRegs l).free = s.free := by
  induction l generalizing s with
  | nil => rfl
  | cons p t ih => exact ih
@[simp] theorem State.setRegs_pending {l : List (Nat × Nat)} : (s.setRegs l).pending = s.pending := by
  induction l generalizing s with
  | nil => rfl
  | cons p t ih => exact ih
@[simp] theorem State.fsetAll_part {l : List (Fld × Nat)} : (s.fsetAll l).part = s.part := by
  induction l generalizing s with
  | nil => rfl
  | cons p t ih => exact ih
@[simp] theorem State.fsetAll_step {l : List (Fld × Nat)} : (s.fsetAll l).step = s.step := by
  induction l generalizing s with
  | nil => rfl
  | cons p t ih => exact ih
@[simp] theorem State.fsetAll_mem {l : List (Fld × Nat)} : (s.fsetAll l).mem = s.mem := by
  induction l generalizing s with
  | nil => rfl
  | cons p t ih => exact ih
@[simp] theorem State.fsetAll_gpio {l : List (Fld × Nat)} : (s.fsetAll l).gpio = s.gpio := by
  induction l generalizing s with
  | nil => rfl
  | cons p t ih => exact ih
@[simp] theorem State.fsetAll_hif {l : List (Fld × Nat)} : (s.fsetAll l).hif = s.hif := by
  induction l generalizing s with
  | nil => rfl
  | cons p t ih => exact ih
@[simp] theorem State.fsetAll_memu {l : List (Fld × Nat)} : (s.fsetAll l).memu = s.memu := by
  induction l generalizing s with
  | nil => rfl
  | cons p t ih => exact ih
@[simp] theorem State.fsetAll_pwr {l : List (Fld × Nat)} : (s.fsetAll l).pwr = s.pwr := by
  induction l generalizing s with
  | nil => rfl
  | cons p t ih => exact ih
@[simp] theorem State.fsetAll_rtc {l : List (Fld × Nat)} : (s.fsetAll l).rtc = s.rtc := by
  induction l generalizing s with
  | nil => rfl
  | cons p t ih => exact ih
@[simp] theorem State.fsetAll_afe {l : List (Fld × Nat)} : (s.fsetAll l).afe = s.afe := by
  induction l generalizing s with
  | nil => rfl
  | cons p t ih => exact ih
@[simp] theorem State.fsetAll_tiu {l : List (Fld × Nat)} : (s.fsetAll l).tiu = s.tiu := by
  induction l generalizing s with
  | nil => rfl
  | cons p t ih => exact ih
@[simp] theorem State.fsetAll_ech {l : List (Fld × Nat)} : (s.fsetAll l).ech = s.ech := by
  induction l generalizing s with
  | nil => rfl
  | cons p t ih => exact ih
@[simp] theorem State.fsetAll_flw {l : List (Fld × Nat)} : (s.fsetAll l).flw = s.flw := by
  induction l generalizing s with
  | nil => rfl
  | cons p t ih => exact ih
@[simp] theorem State.fsetAll_tmu {l : List (Fld × Nat)} : (s.fsetAll l).tmu = s.tmu := by
  induction l generalizing s with
  | nil => rfl
  | cons p t ih => exact ih
@[simp] theorem State.fsetAll_ldg {l : List (Fld × Nat)} : (s.fsetAll l).ldg = s.ldg := by
  induction l generalizing s with
  | nil => rfl
  | cons p t ih => exact ih
@[simp] theorem State.fsetAll_rad {l : List (Fld × Nat)} : (s.fsetAll l).rad = s.rad := by
  induction l generalizing s with
  | nil => rfl
  | cons p t ih => exact ih
@[simp] theorem State.fsetAll_msh {l : List (Fld × Nat)} : (s.fsetAll l).msh = s.msh := by
  induction l generalizing s with
  | nil => rfl
  | cons p t ih => exact ih
@[simp] theorem State.fsetAll_rot {l : List (Fld × Nat)} : (s.fsetAll l).rot = s.rot := by
  induction l generalizing s with
  | nil => rfl
  | cons p t ih => exact ih
@[simp] theorem State.fsetAll_upd {l : List (Fld × Nat)} : (s.fsetAll l).upd = s.upd := by
  induction l generalizing s with
  | nil => rfl
  | cons p t ih => exact ih
@[simp] theorem State.fsetAll_image {l : List (Fld × Nat)} : (s.fsetAll l).image = s.image := by
  induction l generalizing s with
  | nil => rfl
  | cons p t ih => exact ih
@[simp] theorem State.fsetAll_lastImage {l : List (Fld × Nat)} : (s.fsetAll l).lastImage = s.lastImage := by
  induction l generalizing s with
  | nil => rfl
  | cons p t ih => exact ih
@[simp] theorem State.fsetAll_srcBad {l : List (Fld × Nat)} : (s.fsetAll l).srcBad = s.srcBad := by
  induction l generalizing s with
  | nil => rfl
  | cons p t ih => exact ih
@[simp] theorem State.fsetAll_srcStruct {l : List (Fld × Nat)} : (s.fsetAll l).srcStruct = s.srcStruct := by
  induction l generalizing s with
  | nil => rfl
  | cons p t ih => exact ih
@[simp] theorem State.fsetAll_badRegs {l : List (Fld × Nat)} : (s.fsetAll l).badRegs = s.badRegs := by
  induction l generalizing s with
  | nil => rfl
  | cons p t ih => exact ih
@[simp] theorem State.fsetAll_free {l : List (Fld × Nat)} : (s.fsetAll l).free = s.free := by
  induction l generalizing s with
  | nil => rfl
  | cons p t ih => exact ih
@[simp] theorem State.fsetAll_pending {l : List (Fld × Nat)} : (s.fsetAll l).pending = s.pending := by
  induction l generalizing s with
  | nil => rfl
  | cons p t ih => exact ih

/-- Registers read the same in two states with one register file. -/
theorem State.reg_congr {t : State} (h : s.regs = t.regs) (a : Nat) : s.reg a = t.reg a := by unfold State.reg; rw [h]
theorem State.regN_congr {t : State} (h : s.regs = t.regs) (a : Nat) : s.regN a = t.regN a := by unfold State.regN; rw [State.reg_congr h]
theorem State.fget_congr {t : State} (h : s.regs = t.regs) (f : Fld) : s.fget f = t.fget f := by unfold State.fget; rw [State.regN_congr h]

@[simp] theorem State.setLdg_reg {g : Ldg → Ldg} {k : Nat} : (s.setLdg g).reg k = s.reg k := rfl
@[simp] theorem State.setLdg_regN {g : Ldg → Ldg} {k : Nat} : (s.setLdg g).regN k = s.regN k := rfl
@[simp] theorem State.setLdg_fget {g : Ldg → Ldg} {f : Fld} : (s.setLdg g).fget f = s.fget f := rfl
@[simp] theorem State.setPwr_reg {g : Pwr → Pwr} {k : Nat} : (s.setPwr g).reg k = s.reg k := rfl
@[simp] theorem State.setPwr_regN {g : Pwr → Pwr} {k : Nat} : (s.setPwr g).regN k = s.regN k := rfl
@[simp] theorem State.setPwr_fget {g : Pwr → Pwr} {f : Fld} : (s.setPwr g).fget f = s.fget f := rfl
@[simp] theorem State.setRot_reg {g : Rot → Rot} {k : Nat} : (s.setRot g).reg k = s.reg k := rfl
@[simp] theorem State.setRot_regN {g : Rot → Rot} {k : Nat} : (s.setRot g).regN k = s.regN k := rfl
@[simp] theorem State.setRot_fget {g : Rot → Rot} {f : Fld} : (s.setRot g).fget f = s.fget f := rfl
@[simp] theorem State.setMsh_reg {g : Msh → Msh} {k : Nat} : (s.setMsh g).reg k = s.reg k := rfl
@[simp] theorem State.setMsh_regN {g : Msh → Msh} {k : Nat} : (s.setMsh g).regN k = s.regN k := rfl
@[simp] theorem State.setMsh_fget {g : Msh → Msh} {f : Fld} : (s.setMsh g).fget f = s.fget f := rfl
@[simp] theorem State.setTmu_reg {g : Tmu → Tmu} {k : Nat} : (s.setTmu g).reg k = s.reg k := rfl
@[simp] theorem State.setTmu_regN {g : Tmu → Tmu} {k : Nat} : (s.setTmu g).regN k = s.regN k := rfl
@[simp] theorem State.setTmu_fget {g : Tmu → Tmu} {f : Fld} : (s.setTmu g).fget f = s.fget f := rfl
@[simp] theorem State.setUpd_reg {g : Upd → Upd} {k : Nat} : (s.setUpd g).reg k = s.reg k := rfl
@[simp] theorem State.setUpd_regN {g : Upd → Upd} {k : Nat} : (s.setUpd g).regN k = s.regN k := rfl
@[simp] theorem State.setUpd_fget {g : Upd → Upd} {f : Fld} : (s.setUpd g).fget f = s.fget f := rfl
@[simp] theorem State.setMemu_reg {g : Memu → Memu} {k : Nat} : (s.setMemu g).reg k = s.reg k := rfl
@[simp] theorem State.setMemu_regN {g : Memu → Memu} {k : Nat} : (s.setMemu g).regN k = s.regN k := rfl
@[simp] theorem State.setMemu_fget {g : Memu → Memu} {f : Fld} : (s.setMemu g).fget f = s.fget f := rfl
@[simp] theorem State.setOp_reg {i : Nat} {e : OpEntry} {k : Nat} : (s.setOp i e).reg k = s.reg k := rfl
@[simp] theorem State.setOp_regN {i : Nat} {e : OpEntry} {k : Nat} : (s.setOp i e).regN k = s.regN k := rfl
@[simp] theorem State.setOp_fget {i : Nat} {e : OpEntry} {f : Fld} : (s.setOp i e).fget f = s.fget f := rfl
@[simp] theorem State.setByte_reg {a : Nat} {v : Byte} {k : Nat} : (s.setByte a v).reg k = s.reg k := rfl
@[simp] theorem State.setByte_regN {a : Nat} {v : Byte} {k : Nat} : (s.setByte a v).regN k = s.regN k := rfl
@[simp] theorem State.setByte_fget {a : Nat} {v : Byte} {f : Fld} : (s.setByte a v).fget f = s.fget f := rfl
@[simp] theorem State.respond_reg {r : Resp} {k : Nat} : (s.respond r).reg k = s.reg k := rfl
@[simp] theorem State.respond_regN {r : Resp} {k : Nat} : (s.respond r).regN k = s.regN k := rfl
@[simp] theorem State.respond_fget {r : Resp} {f : Fld} : (s.respond r).fget f = s.fget f := rfl
@[simp] theorem State.answer_reg {n : Nat} {k : Nat} : (s.answer n).reg k = s.reg k := rfl
@[simp] theorem State.answer_regN {n : Nat} {k : Nat} : (s.answer n).regN k = s.regN k := rfl
@[simp] theorem State.answer_fget {n : Nat} {f : Fld} : (s.answer n).fget f = s.fget f := rfl
end

end Sys2Proof.Machine
end

