-- ==== Sys2Proof/Laws/Host.lean ====
section
/-! SUPPORT. What one register access of the host can do: a word that is served and not locked is applied and answered DONE, a locked one
is answered LOCKED, and a read answers the register's value. -/

namespace Sys2Proof.Machine

variable {s : State} {a v : Nat}

theorem ofLe_leBytes (n v : Nat) : ofLe (leBytes n v) = v % 256 ^ n := by
  induction n generalizing v with
  | zero => simp [leBytes, ofLe, Nat.mod_one]
  | succ n ih =>
    rw [leBytes, ofLe, ih, BitVec.toNat_ofNat, show 256 ^ (n + 1) = 256 * 256 ^ n by rw [Nat.pow_succ 256 n, Nat.mul_comm]]
    exact (Nat.mod_mul (a := 256)).symm

@[simp] theorem length_leBytes (n v : Nat) : (leBytes n v).length = n := by
  induction n generalizing v with
  | zero => rfl
  | succ n ih => simp [leBytes, ih]

/-- The bytes of a word hold the word. -/
theorem leAt_leBytes (n v : Nat) : leAt (leBytes n v) 0 n = v % 256 ^ n := by
  unfold leAt sliceBytes
  rw [List.drop_zero, List.take_of_length_le (by simp)]
  simp [ofLe_leBytes]

theorem wordsOf_word (a v : Nat) : wordsOf a (leBytes 4 v) 4 = [(a, v % 2 ^ 32)] := by
  simp [wordsOf, leAt_leBytes, List.range_succ]

theorem regPart_word (h : a + 4 ≤ 0x100000) : regPart a 4 = 4 := by unfold regPart; rw [if_pos (by omega)]; omega

/-- A frame of one served register word breaks no rule of R7 and R17. -/
theorem State.frameOk_word (h4 : a % 4 = 0) (h : a + 4 ≤ 0x100000) (hr : s.regAt a = true) : s.frameOk a 4 = true := by
  unfold State.frameOk
  simp [regPart_word h, regWords, List.range_succ, h4, hr]

/-- No frame of one word meets memory. -/
theorem State.memWriteLocked_nil : s.memWriteLocked a 0 = false := by simp [State.memWriteLocked, spansMeet]

/-- A time field is pending only by its own word, so a lone commit word is judged as it stands. -/
theorem State.frameWordLocked_word : s.frameWordLocked [(a, v)] (a, v) = s.wordLocked a v := by
  unfold State.frameWordLocked
  split
  · rename_i h
    simp only at h
    subst h
    rfl
  · rfl

/-- A word that is served and not locked is applied and answered DONE. -/
theorem State.hostWord_done (h4 : a % 4 = 0) (h : a + 4 ≤ 0x100000) (hr : s.regAt a = true)
    (hl : s.wordLocked a (v % 2 ^ 32) = false) : s.hostWord a v = (s.writeReg a (v % 2 ^ 32)).answer Sts.DONE := by
  unfold State.hostWord State.writeFrame
  simp only [Nat.reducePow] at hl ⊢
  simp [regPart_word h, wordsOf_word, State.frameOk_word h4 h hr, State.frameWordLocked_word, hl, State.memWriteLocked_nil]

/-- A locked word changes nothing but what R360 and R369 keep of a refusal, and is answered LOCKED. -/
theorem State.hostWord_locked (h4 : a % 4 = 0) (h : a + 4 ≤ 0x100000) (hr : s.regAt a = true)
    (hl : s.wordLocked a (v % 2 ^ 32) = true) : s.hostWord a v = (s.afterLocked [(a, v % 2 ^ 32)]).answer Sts.LOCKED := by
  unfold State.hostWord State.writeFrame
  simp only [Nat.reducePow] at hl ⊢
  simp [regPart_word h, wordsOf_word, State.frameOk_word h4 h hr, State.frameWordLocked_word, hl]

/-- A read of a served register answers its value, marked as it is poisoned or not. -/
theorem State.hostRead_done (h4 : a % 4 = 0) (h : a + 4 ≤ 0x100000) (hr : s.regAt a = true) :
    s.hostRead a = (s.readReg a).2.respond
      ((s.header Sts.DONE).withData ((leBytes 4 (s.readReg a).1).map fun b => (b, s.regPoison a))) := by
  have hL : readLocked a 4 = false := by simp [readLocked, spansMeet]; omega
  unfold State.hostRead State.serveRead State.readStatus State.readFrame
  simp [State.frameOk_word h4 h hr, hL, regPart_word h, regWords, List.range_succ, State.readWords]

end Sys2Proof.Machine
end

