-- ==== Sys2Proof/Laws/Kept.lean ====
section
/-! SUPPORT. The closure rules of `State.Kept`: the two stores are written through `Assoc.set` or lose entries, every other update leaves
them, and conditionals, folds and pairs of kept states are kept. The files Laws/Kept… apply them to every operation. -/

namespace Sys2Proof.Machine

variable {r s : State}

/-- A sound state keeps itself. -/
theorem State.Kept.refl (h : s.Inv) : State.Kept s s := ⟨h, rfl, rfl, rfl⟩

/-- An update of fields other than the two stores, the part, its step and the queue. -/
@[simp] theorem kept_mk (h : State.Kept r s) {a5 a6 a7 a8 a9 a10 a11 a12 a13 a14 a15 a16 a17 a18 a19 a20 a21 a22 a23 a24 a25} :
    State.Kept r ⟨s.part, s.step, s.regs, s.mem, a5, a6, a7, a8, a9, a10, a11, a12, a13, a14, a15, a16, a17, a18, a19, a20, a21, a22, a23, a24, a25, s.pending⟩ := h

/-- The same where the registers are those of another kept state. -/
@[simp] theorem kept_mk_regs (h : State.Kept r s) {x : State} (hx : State.Kept r x)
    {a5 a6 a7 a8 a9 a10 a11 a12 a13 a14 a15 a16 a17 a18 a19 a20 a21 a22 a23 a24 a25} :
    State.Kept r ⟨s.part, s.step, x.regs, s.mem, a5, a6, a7, a8, a9, a10, a11, a12, a13, a14, a15, a16, a17, a18, a19, a20, a21, a22, a23, a24, a25, s.pending⟩ :=
  ⟨⟨hx.1.1, h.1.2⟩, h.2⟩

@[simp] theorem State.setReg_kept (h : State.Kept r s) {a : Nat} {v : Word} : State.Kept r (s.setReg a v) :=
  ⟨⟨Assoc.wf_set h.1.1, h.1.2⟩, h.2⟩

@[simp] theorem State.setByte_kept (h : State.Kept r s) {a : Nat} {v : Byte} : State.Kept r (s.setByte a v) :=
  ⟨⟨h.1.1, Assoc.wf_set h.1.2⟩, h.2⟩

/-- Dropping registers, with any update of the other fields. -/
@[simp] theorem kept_filter_regs (h : State.Kept r s) {f : Nat × Word → Bool}
    {a5 a6 a7 a8 a9 a10 a11 a12 a13 a14 a15 a16 a17 a18 a19 a20 a21 a22 a23 a24 a25} :
    State.Kept r ⟨s.part, s.step, s.regs.filter f, s.mem, a5, a6, a7, a8, a9, a10, a11, a12, a13, a14, a15, a16, a17, a18, a19, a20, a21, a22, a23, a24, a25,
      s.pending⟩ := ⟨⟨Assoc.wf_filter h.1.1, h.1.2⟩, h.2⟩

/-- Dropping memory cells. -/
@[simp] theorem kept_filter_mem (h : State.Kept r s) {f : Host.Cell → Bool} : State.Kept r { s with mem := s.mem.filter f } :=
  ⟨⟨h.1.1, Assoc.wf_filter h.1.2⟩, h.2⟩

theorem kept_ite {c : Prop} [Decidable c] {a b : State} (ha : State.Kept r a) (hb : State.Kept r b) : State.Kept r (if c then a else b) := by
  split <;> assumption

theorem kept_ite_iff {c : Prop} [Decidable c] {a b : State} :
    State.Kept r (if c then a else b) ↔ (c → State.Kept r a) ∧ (¬c → State.Kept r b) := by
  split <;> simp [*]

@[simp] theorem kept_foldl {α : Type} {l : List α} {f : State → α → State} (h : State.Kept r s)
    (hf : ∀ t x, State.Kept r t → State.Kept r (f t x)) : State.Kept r (l.foldl f s) := by
  induction l generalizing s with
  | nil => exact h
  | cons x t ih => exact ih (hf s x h)

@[simp] theorem kept_foldl_snd {α β : Type} {l : List α} {p : β × State} {f : β × State → α → β × State} (h : State.Kept r p.2)
    (hf : ∀ t x, State.Kept r t.2 → State.Kept r (f t x).2) : State.Kept r (l.foldl f p).2 := by
  induction l generalizing p with
  | nil => exact h
  | cons x t ih => exact ih (hf p x h)

@[simp] theorem State.when_kept {c : Bool} {f : State → State} (h : State.Kept r s) (hf : ∀ t, State.Kept r t → State.Kept r (f t)) :
    State.Kept r (s.when c f) := by
  unfold State.when; split
  · exact hf s h
  · exact h

end Sys2Proof.Machine
end

