-- ==== Sys2Proof/Laws/KeptOps.lean ====
section
/-! SUPPORT. `State.Kept` for the operations of Ops.lean. -/

namespace Sys2Proof.Machine

variable {r s : State}

@[simp] theorem State.setRegN_kept (h : State.Kept r s) {a v : Nat} : State.Kept r (s.setRegN a v) := by simp +contextual [State.setRegN, h]

@[simp] theorem State.fset_kept (h : State.Kept r s) {f : Fld} {v : Nat} : State.Kept r (s.fset f v) := by simp +contextual [State.fset, h]

@[simp] theorem State.fsetI_kept (h : State.Kept r s) {f : Fld} {v : Int} : State.Kept r (s.fsetI f v) := by simp +contextual [State.fsetI, h]

@[simp] theorem State.addSat_kept (h : State.Kept r s) {f : Fld} {n : Nat} : State.Kept r (s.addSat f n) := by simp +contextual [State.addSat, h]

@[simp] theorem State.addWrap_kept (h : State.Kept r s) {f : Fld} {n : Nat} : State.Kept r (s.addWrap f n) := by simp +contextual [State.addWrap, h]

@[simp] theorem State.forMask_kept (h : State.Kept r s) {f : Fld} {m : Nat} : State.Kept r (s.forMask f m) := by simp +contextual [State.forMask, h]

@[simp] theorem State.fsetBit_kept (h : State.Kept r s) {f : Fld} {i : Nat} : State.Kept r (s.fsetBit f i) := by simp +contextual [State.fsetBit, h]

@[simp] theorem State.fclrBit_kept (h : State.Kept r s) {f : Fld} {i : Nat} : State.Kept r (s.fclrBit f i) := by simp +contextual [State.fclrBit, h]

@[simp] theorem State.setRegs_kept (h : State.Kept r s) {l : List (Nat × Nat)} : State.Kept r (s.setRegs l) := by simp +contextual [State.setRegs, h]

@[simp] theorem State.fsetAll_kept (h : State.Kept r s) {l : List (Fld × Nat)} : State.Kept r (s.fsetAll l) := by simp +contextual [State.fsetAll, h]

@[simp] theorem State.raise_kept (h : State.Kept r s) {f : Fld} : State.Kept r (s.raise f) := by simp +contextual [State.raise, h]

@[simp] theorem State.draw_kept (h : State.Kept r s) : State.Kept r (s.draw).2 := by simp +contextual [State.draw, h]

@[simp] theorem State.fitS_kept (h : State.Kept r s) {w : Nat} {x : Int} : State.Kept r (s.fitS w x).2 := by unfold State.fitS; split <;> simp +contextual (maxDischargeDepth := 99) [h]

@[simp] theorem State.fitU_kept (h : State.Kept r s) {w : Nat} {x : Int} : State.Kept r (s.fitU w x).2 := by unfold State.fitU; split <;> simp +contextual (maxDischargeDepth := 99) [h]

end Sys2Proof.Machine
end

