-- ==== Sys2Proof/Laws/KeptMemory.lean ====
section
/-! SUPPORT. `State.Kept` for the operations of Memory.lean. -/

namespace Sys2Proof.Machine

variable {r s : State}

@[simp] theorem State.setSymsAt_kept (h : State.Kept r s) {k : Nat} {c : List Nat} : State.Kept r (s.setSymsAt k c) := by simp +contextual [State.setSymsAt, h]

@[simp] theorem State.storeWord_kept (h : State.Kept r s) {a : Nat} {c : List Nat} : State.Kept r (s.storeWord a c) := by
  simp only [State.storeWord]; repeat' split
  all_goals simp +contextual (maxDischargeDepth := 99) [h]

@[simp] theorem State.logEvent_kept (h : State.Kept r s) {addr cls : Nat} {src : Src} {strict : Bool} {sym0 sym1 : Nat} : State.Kept r (s.logEvent addr cls src strict sym0 sym1) := by
  unfold State.logEvent; repeat' split
  all_goals simp +contextual (maxDischargeDepth := 99) [h]

@[simp] theorem State.foundCE_kept (h : State.Kept r s) {addr cls : Nat} {src : Src} {strict : Bool} {sym0 sym1 : Nat} : State.Kept r (s.foundCE addr cls src strict sym0 sym1) := by simp +contextual (maxDischargeDepth := 99) [State.foundCE, h]

@[simp] theorem State.foundUE_kept (h : State.Kept r s) {addr : Nat} {src : Src} {strict : Bool} : State.Kept r (s.foundUE addr src strict) := by simp +contextual (maxDischargeDepth := 99) [State.foundUE, h]

@[simp] theorem State.consumed_kept (h : State.Kept r s) : State.Kept r (s.consumed) := by simp +contextual [State.consumed, h]

@[simp] theorem State.findWord_kept (h : State.Kept r s) {a : Nat} {src : Src} : State.Kept r (s.findWord a src).2 := by
  simp only [State.findWord]; repeat' split
  all_goals simp +contextual (maxDischargeDepth := 99) [h]

@[simp] theorem State.readWord_kept (h : State.Kept r s) {a : Nat} {src : Src} : State.Kept r (s.readWord a src).2 := by
  simp only [State.readWord]; repeat' split
  all_goals simp +contextual (maxDischargeDepth := 99) [h]

@[simp] theorem State.writeWord_kept (h : State.Kept r s) {a : Nat} {d : List Nat} : State.Kept r (s.writeWord a d) := by simp +contextual [State.writeWord, h]

@[simp] theorem State.writePoison_kept (h : State.Kept r s) {a : Nat} {d : List Nat} : State.Kept r (s.writePoison a d) := by simp +contextual [State.writePoison, h]

@[simp] theorem State.mergeWrite_kept (h : State.Kept r s) {a : Nat} {bs : List Byte} {poisoned : Bool} : State.Kept r (s.mergeWrite a bs poisoned) := by
  simp only [State.mergeWrite]; repeat' split
  all_goals simp +contextual (maxDischargeDepth := 99) [h]

@[simp] theorem State.writeSpan_kept (h : State.Kept r s) {a : Nat} {bs : List Byte} {y0 : Nat} : State.Kept r (s.writeSpan a bs y0) := by
  induction y0 generalizing s a bs with
  | zero => exact h
  | succ n ih =>
    unfold State.writeSpan; split
    · exact h
    · apply ih; split <;> simp +contextual (maxDischargeDepth := 99) [h]

@[simp] theorem State.writeBytes_kept (h : State.Kept r s) {a : Nat} {bs : List Byte} : State.Kept r (s.writeBytes a bs) := by simp +contextual [State.writeBytes, h]

@[simp] theorem State.readSpan_kept (h : State.Kept r s) {a n : Nat} {src : Src} {y0 : Nat} : State.Kept r (s.readSpan a n src y0).2 := by
  induction y0 generalizing s a n src with
  | zero => simp [State.readSpan, h]
  | succ _ ih =>
    unfold State.readSpan; repeat' split
    all_goals simp +contextual (maxDischargeDepth := 99) [h, ih]

@[simp] theorem State.readMarked_kept (h : State.Kept r s) {a n : Nat} {src : Src} : State.Kept r (s.readMarked a n src).2 := by simp +contextual [State.readMarked, h]

@[simp] theorem State.readBytes_kept (h : State.Kept r s) {a n : Nat} {src : Src} : State.Kept r (s.readBytes a n src).2.2 := by simp +contextual [State.readBytes, h]

@[simp] theorem State.copyWord_kept (h : State.Kept r s) {src dst : Nat} : State.Kept r (s.copyWord src dst) := by
  simp only [State.copyWord]; repeat' split
  all_goals simp +contextual (maxDischargeDepth := 99) [h]

@[simp] theorem State.copyWords_kept (h : State.Kept r s) {src dst y0 : Nat} : State.Kept r (s.copyWords src dst y0) := by
  induction y0 generalizing s src dst with
  | zero => simp [State.copyWords, h]
  | succ _ ih => simp +contextual (maxDischargeDepth := 99) [State.copyWords, h, ih]

@[simp] theorem State.zeroKeys_kept (h : State.Kept r s) {lo hi : Nat} : State.Kept r (s.zeroKeys lo hi) := by simp +contextual [State.zeroKeys, h]

@[simp] theorem State.zeroBank_kept (h : State.Kept r s) {b : Nat} : State.Kept r (s.zeroBank b) := by simp +contextual [State.zeroBank, h]

@[simp] theorem State.zeroCapture_kept (h : State.Kept r s) : State.Kept r (s.zeroCapture) := by simp +contextual [State.zeroCapture, h]

@[simp] theorem State.eraseKeys_kept (h : State.Kept r s) {lo hi : Nat} : State.Kept r (s.eraseKeys lo hi) := by simp +contextual [State.eraseKeys, h]

@[simp] theorem State.erasePage_kept (h : State.Kept r s) {a : Nat} : State.Kept r (s.erasePage a) := by simp +contextual [State.erasePage, h]

end Sys2Proof.Machine
end

