-- ==== Sys2Proof/Laws/KeptCoef.lean ====
section
/-! SUPPORT. `State.Kept` for the operations of Coef.lean. -/

namespace Sys2Proof.Machine

variable {r s : State}

@[simp] theorem State.touch_kept (h : State.Kept r s) {a n : Nat} : State.Kept r (s.touch a n) := by
  simp +contextual (maxDischargeDepth := 99) [State.touch, kept_ite_iff, h]

@[simp] theorem State.touchCoef_kept (h : State.Kept r s) {off n : Nat} : State.Kept r (s.touchCoef off n) := by unfold State.touchCoef; split <;> simp +contextual (maxDischargeDepth := 99) [h]

end Sys2Proof.Machine
end

