-- ==== Sys2Proof/Laws/KeptAfe.lean ====
section
/-! SUPPORT. `State.Kept` for the operations of Afe.lean. -/

namespace Sys2Proof.Machine

variable {r s : State}

@[simp] theorem State.setSlot_kept (h : State.Kept r s) {k st : Nat} : State.Kept r (s.setSlot k st) := by unfold State.setSlot; split <;> simp +contextual (maxDischargeDepth := 99) [h]

@[simp] theorem State.releaseSlot_kept (h : State.Kept r s) {k : Nat} : State.Kept r (s.releaseSlot k) := by unfold State.releaseSlot; split <;> simp +contextual (maxDischargeDepth := 99) [h]

@[simp] theorem State.freeAllSlots_kept (h : State.Kept r s) : State.Kept r (s.freeAllSlots) := by simp +contextual [State.freeAllSlots, h]

@[simp] theorem State.allocSlot_kept (h : State.Kept r s) {c : ChordCfg} {k : Nat} {host : Bool} {tag : Nat} : State.Kept r (s.allocSlot c k host tag) := by simp +contextual (maxDischargeDepth := 99) [State.allocSlot, h]

@[simp] theorem State.setPort_kept (h : State.Kept r s) {p : Nat} {v : PortState} : State.Kept r (s.setPort p v) := by simp +contextual [State.setPort, h]

@[simp] theorem State.fireChord_kept (h : State.Kept r s) {c : ChordCfg} {k : Nat} {host : Bool} {tag : Nat} : State.Kept r (s.fireChord c k host tag).2 := by simp +contextual (maxDischargeDepth := 99) [State.fireChord, h]

@[simp] theorem State.fireAll_kept (h : State.Kept r s) {l : List (ChordCfg × Nat)} {host : Bool} {tag : Nat} : State.Kept r (s.fireAll l host tag).2 := by
  induction l generalizing s with
  | nil => exact h
  | cons p t ih => exact ih (by simp [h])

@[simp] theorem State.fireHardware_kept (h : State.Kept r s) {mask t0 : Nat} : State.Kept r (s.fireHardware mask t0) := by simp +contextual [State.fireHardware, h]

@[simp] theorem State.fireHost_kept (h : State.Kept r s) {mask tag op t0 : Nat} : State.Kept r (s.fireHost mask tag op t0) := by simp +contextual [State.fireHost, h]

@[simp] theorem State.presetGain_kept (h : State.Kept r s) {n : Nat} : State.Kept r (s.presetGain n) := by simp +contextual [State.presetGain, h]

@[simp] theorem State.agc_kept (h : State.Kept r s) {n p : Nat} {clip : Bool} : State.Kept r (s.agc n p clip) := by unfold State.agc; split <;> simp +contextual (maxDischargeDepth := 99) [h]

@[simp] theorem State.storeDirection_kept (h : State.Kept r s) {slotOff : Nat} {peak clip : Fld} {x : List (BitVec 12)} {d : Nat} : State.Kept r (s.storeDirection slotOff peak clip x d) := by simp +contextual (maxDischargeDepth := 99) [State.storeDirection, h]

@[simp] theorem State.completeChord_kept (h : State.Kept r s) {c : ShotChord} {rxa rxb : List (BitVec 12)} : State.Kept r (s.completeChord c rxa rxb) := by
  simp only [State.completeChord]; repeat' split
  all_goals simp +contextual (maxDischargeDepth := 99) [h]

@[simp] theorem State.planCensus_kept (h : State.Kept r s) {rises : List (Option Nat)} : State.Kept r (s.planCensus rises) := by simp +contextual [State.planCensus, h]

@[simp] theorem State.censusStore_kept (h : State.Kept r s) {p : Nat} {t : Option Nat} : State.Kept r (s.censusStore p t) := by simp +contextual [State.censusStore, h]

@[simp] theorem State.censusAll_kept (h : State.Kept r s) {p : Nat} {y0 : List (Option Nat)} : State.Kept r (s.censusAll p y0) := by
  induction y0 generalizing s p with
  | nil => simp [State.censusAll, h]
  | cons _ _ ih =>
    unfold State.censusAll; repeat' split
    all_goals simp +contextual (maxDischargeDepth := 99) [h, ih]

end Sys2Proof.Machine
end

