-- ==== Sys2Proof/Laws/KeptPowerBase.lean ====
section
/-! SUPPORT. `State.Kept` for the operations of PowerBase.lean. -/

namespace Sys2Proof.Machine

variable {r s : State}

@[simp] theorem State.setDom_kept (h : State.Kept r s) {k v : Nat} : State.Kept r (s.setDom k v) := by
  unfold State.setDom; repeat' split
  all_goals simp +contextual (maxDischargeDepth := 99) [h]

@[simp] theorem State.settleXo_kept (h : State.Kept r s) : State.Kept r (s.settleXo) := by unfold State.settleXo; split <;> simp +contextual (maxDischargeDepth := 99) [h]

@[simp] theorem State.startLink_kept (h : State.Kept r s) : State.Kept r (s.startLink) := by
  unfold State.startLink; repeat' split
  all_goals simp +contextual (maxDischargeDepth := 99) [h]

@[simp] theorem State.queueLink_kept (h : State.Kept r s) {t : Slink} : State.Kept r (s.queueLink t) := by unfold State.queueLink; split <;> simp +contextual (maxDischargeDepth := 99) [h]

@[simp] theorem State.beginStage_kept (h : State.Kept r s) {k n : Nat} {off : Bool} : State.Kept r (s.beginStage k n off) := by
  simp only [State.beginStage]; repeat' split
  all_goals simp +contextual (maxDischargeDepth := 99) [h]

@[simp] theorem State.startWake_kept (h : State.Kept r s) {k : Nat} : State.Kept r (s.startWake k) := by unfold State.startWake; split <;> simp +contextual (maxDischargeDepth := 99) [h]

@[simp] theorem State.wakeCore_kept (h : State.Kept r s) : State.Kept r (s.wakeCore) := by unfold State.wakeCore; split <;> simp +contextual (maxDischargeDepth := 99) [h]

@[simp] theorem State.unsendEntry_kept (h : State.Kept r s) : State.Kept r (s.unsendEntry) := by
  simp only [State.unsendEntry]; repeat' split
  all_goals simp +contextual (maxDischargeDepth := 99) [h]

@[simp] theorem State.abandonRest_kept (h : State.Kept r s) {n k : Nat} : State.Kept r (s.abandonRest n k) := by unfold State.abandonRest; split <;> simp +contextual (maxDischargeDepth := 99) [h]

theorem kept_abandon (h : State.Kept r s) {o : Option Nat} {l : List Nat} :
    State.Kept r (o.elim s fun n => l.foldl (fun u k => u.abandonRest n k) s) := by
  cases o with
  | none => exact h
  | some n => exact kept_foldl h fun _ _ ht => State.abandonRest_kept ht

@[simp] theorem State.abandonIn_kept (h : State.Kept r s) {step : Option Nat} {l : List Nat} : State.Kept r (s.abandonIn step l) :=  kept_abandon h

@[simp] theorem State.abandonRests_kept (h : State.Kept r s) {t : Nat} {l : List Nat} : State.Kept r (s.abandonRests t l) := by simp [State.abandonRests, h]

@[simp] theorem State.noteEntry_kept (h : State.Kept r s) {k : Nat} : State.Kept r (s.noteEntry k) := by simp +contextual [State.noteEntry, h]

@[simp] theorem State.requestWake_kept (h : State.Kept r s) {k : Nat} : State.Kept r (s.requestWake k) := by
  unfold State.requestWake; repeat' split
  all_goals simp +contextual (maxDischargeDepth := 99) [h]

@[simp] theorem State.requestWakes_kept (h : State.Kept r s) {l : List Nat} : State.Kept r (s.requestWakes l) := by simp +contextual [State.requestWakes, h]

@[simp] theorem State.wakeEvent_kept (h : State.Kept r s) {l : List Nat} : State.Kept r (s.wakeEvent l) := by simp +contextual [State.wakeEvent, h]

@[simp] theorem State.writeCanaries_kept (h : State.Kept r s) {b : Nat} : State.Kept r (s.writeCanaries b) := by simp +contextual [State.writeCanaries, h]

@[simp] theorem State.setRest_kept (h : State.Kept r s) {k : Nat} {off : Bool} : State.Kept r (s.setRest k off) := by unfold State.setRest; split <;> simp +contextual (maxDischargeDepth := 99) [h]

@[simp] theorem State.enterRetain_kept (h : State.Kept r s) {k : Nat} : State.Kept r (s.enterRetain k) := by unfold State.enterRetain; split <;> simp +contextual (maxDischargeDepth := 99) [h]

@[simp] theorem State.loseWork_kept (h : State.Kept r s) {k : Nat} : State.Kept r (s.loseWork k) := by
  unfold State.loseWork; repeat' split
  all_goals simp +contextual (maxDischargeDepth := 99) [h]

@[simp] theorem State.enterOff_kept (h : State.Kept r s) {k : Nat} : State.Kept r (s.enterOff k) := by
  unfold State.enterOff; repeat' split
  all_goals simp +contextual (maxDischargeDepth := 99) [h]

@[simp] theorem State.restCore_kept (h : State.Kept r s) : State.Kept r (s.restCore) := by
  simp only [State.restCore]; repeat' split
  all_goals simp +contextual (maxDischargeDepth := 99) [h]

@[simp] theorem State.restDom_kept (h : State.Kept r s) {k : Nat} : State.Kept r (s.restDom k) := by
  unfold State.restDom; repeat' split
  all_goals simp +contextual (maxDischargeDepth := 99) [h]

@[simp] theorem State.restDoms_kept (h : State.Kept r s) {l : List Nat} : State.Kept r (s.restDoms l) := by simp +contextual [State.restDoms, h]

end Sys2Proof.Machine
end

