-- ==== Sys2Proof/Laws/KeptTiu.lean ====
section
/-! SUPPORT. `State.Kept` for the operations of Tiu.lean. -/

namespace Sys2Proof.Machine

variable {r s : State}

@[simp] theorem State.evShow_kept (h : State.Kept r s) {e : Nat} : State.Kept r (s.evShow e) := by simp +contextual [State.evShow, h]

@[simp] theorem State.setEvc_kept (h : State.Kept r s) {e : Nat} {c : EvChan} : State.Kept r (s.setEvc e c) := by simp +contextual [State.setEvc, h]

@[simp] theorem State.evHold_kept (h : State.Kept r s) : State.Kept r (s.evHold) := by simp +contextual [State.evHold, h]

@[simp] theorem State.evEnter_kept (h : State.Kept r s) {e st : Nat} : State.Kept r (s.evEnter e st) := by
  simp only [State.evEnter]; repeat' split
  all_goals simp +contextual (maxDischargeDepth := 99) [h]

@[simp] theorem State.tiuOvf_kept (h : State.Kept r s) {f : Fld} {e : Nat} : State.Kept r (s.tiuOvf f e) := by unfold State.tiuOvf; split <;> simp +contextual (maxDischargeDepth := 99) [h]

@[simp] theorem State.setStat_kept (h : State.Kept r s) {c : Nat} {u : StatUnit} : State.Kept r (s.setStat c u) := by simp +contextual [State.setStat, h]

@[simp] theorem State.statGo_kept (h : State.Kept r s) {c : Nat} : State.Kept r (s.statGo c) := by simp +contextual [State.statGo, h]

@[simp] theorem State.statTake_kept (h : State.Kept r s) {c src : Nat} {x : Int} : State.Kept r (s.statTake c src x) := by
  simp only [State.statTake]; repeat' split
  all_goals simp +contextual (maxDischargeDepth := 99) [h]

@[simp] theorem State.statExclude_kept (h : State.Kept r s) {c src : Nat} : State.Kept r (s.statExclude c src) := by unfold State.statExclude; split <;> simp +contextual (maxDischargeDepth := 99) [h]

@[simp] theorem State.statAbort_kept (h : State.Kept r s) {c : Nat} : State.Kept r (s.statAbort c) := by unfold State.statAbort; split <;> simp +contextual (maxDischargeDepth := 99) [h]

@[simp] theorem State.statSnapshot_kept (h : State.Kept r s) {c : Nat} : State.Kept r (s.statSnapshot c) := by
  simp only [State.statSnapshot]; repeat' split
  all_goals simp +contextual (maxDischargeDepth := 99) [h]

@[simp] theorem State.evClear_kept (h : State.Kept r s) {e : Nat} {serves : Option Nat} : State.Kept r (s.evClear e serves) := by simp +contextual [State.evClear, h]

@[simp] theorem State.evArm_kept (h : State.Kept r s) {e : Nat} : State.Kept r (s.evArm e) := by
  simp only [State.evArm]; repeat' split
  all_goals simp +contextual (maxDischargeDepth := 99) [h]

@[simp] theorem State.evRun_kept (h : State.Kept r s) {e : Nat} : State.Kept r (s.evRun e) := by unfold State.evRun; split <;> simp +contextual (maxDischargeDepth := 99) [h]

@[simp] theorem State.evOrigin_kept (h : State.Kept r s) {e : Nat} : State.Kept r (s.evOrigin e) := by unfold State.evOrigin; split <;> simp +contextual (maxDischargeDepth := 99) [h]

@[simp] theorem State.evShotOrigins_kept (h : State.Kept r s) : State.Kept r (s.evShotOrigins) := by
  simp +contextual (maxDischargeDepth := 99) [State.evShotOrigins, kept_ite_iff, h]

@[simp] theorem State.evCheckDone_kept (h : State.Kept r s) {e : Nat} : State.Kept r (s.evCheckDone e) := by
  simp only [State.evCheckDone]; repeat' split
  all_goals simp +contextual (maxDischargeDepth := 99) [h]

@[simp] theorem State.evResult_kept (h : State.Kept r s) {e value flags : Nat} : State.Kept r (s.evResult e value flags) := by
  simp only [State.evResult]; repeat' split
  all_goals simp +contextual (maxDischargeDepth := 99) [h]

@[simp] theorem State.evInterval_kept (h : State.Kept r s) {e stop start : Nat} : State.Kept r (s.evInterval e stop start) := by
  simp only [State.evInterval]; repeat' split
  all_goals simp +contextual (maxDischargeDepth := 99) [h]

@[simp] theorem State.evWait_kept (h : State.Kept r s) {e stamp : Nat} : State.Kept r (s.evWait e stamp) := by
  simp only [State.evWait]; repeat' split
  all_goals simp +contextual (maxDischargeDepth := 99) [h]

@[simp] theorem State.evAccept_kept (h : State.Kept r s) {e stamp : Nat} : State.Kept r (s.evAccept e stamp) := by
  simp only [State.evAccept]; repeat' split
  all_goals simp +contextual (maxDischargeDepth := 99) [h]

@[simp] theorem State.evEdge_kept (h : State.Kept r s) {e stamp : Nat} {rising : Bool} : State.Kept r (s.evEdge e stamp rising) := by
  simp only [State.evEdge]; repeat' split
  all_goals simp +contextual (maxDischargeDepth := 99) [h]

@[simp] theorem State.evOverflow_kept (h : State.Kept r s) {e0 : Nat} : State.Kept r (s.evOverflow e0) := by
  simp only [State.evOverflow]; repeat' split
  all_goals simp +contextual (maxDischargeDepth := 99) [h]

@[simp] theorem State.evDisarm_kept (h : State.Kept r s) {e : Nat} : State.Kept r (s.evDisarm e) := by
  unfold State.evDisarm; repeat' split
  all_goals simp +contextual (maxDischargeDepth := 99) [h]

@[simp] theorem State.evTake_kept (h : State.Kept r s) {e : Nat} : State.Kept r (s.evTake e).2 := by
  unfold State.evTake; repeat' split
  all_goals simp +contextual (maxDischargeDepth := 99) [h]

@[simp] theorem State.tiuFault_kept (h : State.Kept r s) : State.Kept r (s.tiuFault) := by
  simp +contextual (maxDischargeDepth := 99) [State.tiuFault, kept_ite_iff, h]

@[simp] theorem State.loseLock_kept (h : State.Kept r s) : State.Kept r (s.loseLock) := by
  simp only [State.loseLock]; repeat' split
  all_goals simp +contextual (maxDischargeDepth := 99) [h]

@[simp] theorem State.relockRing_kept (h : State.Kept r s) : State.Kept r (s.relockRing) := by unfold State.relockRing; split <;> simp +contextual (maxDischargeDepth := 99) [h]

@[simp] theorem State.streamStamp_kept (h : State.Kept r s) {h' : Shot} {c : ShotChord} {port stamp : Nat} {isB : Bool} : State.Kept r (s.streamStamp h' c port stamp isB) := by
  simp only [State.streamStamp]; repeat' split
  all_goals simp +contextual (maxDischargeDepth := 99) [h]

@[simp] theorem State.crossing_kept (h : State.Kept r s) {port stamp : Nat} {rising : Bool} {swing : Nat} : State.Kept r (s.crossing port stamp rising swing) := by
  simp only [State.crossing]; repeat' split
  all_goals simp +contextual (maxDischargeDepth := 99) [h]

@[simp] theorem State.evalAgeing_kept (h : State.Kept r s) : State.Kept r (s.evalAgeing) := by simp +contextual (maxDischargeDepth := 99) [State.evalAgeing, h]

@[simp] theorem State.applyScale_kept (h : State.Kept r s) : State.Kept r (s.applyScale) := by unfold State.applyScale; split <;> simp +contextual (maxDischargeDepth := 99) [h]

end Sys2Proof.Machine
end

