-- ==== Sys2Proof/Laws/KeptFlow.lean ====
section
/-! SUPPORT. `State.Kept` for the operations of Flow.lean. -/

namespace Sys2Proof.Machine

variable {r s : State}

@[simp] theorem State.setRing_kept (h : State.Kept r s) {n : Nat} {l : List Int} : State.Kept r (s.setRing n l) := by simp +contextual (maxDischargeDepth := 99) [State.setRing, h]

@[simp] theorem State.flagFailed_kept (h : State.Kept r s) {n : Nat} : State.Kept r (s.flagFailed n) := by unfold State.flagFailed; split <;> simp +contextual (maxDischargeDepth := 99) [h]

@[simp] theorem State.failChord_kept (h : State.Kept r s) {n cause : Nat} : State.Kept r (s.failChord n cause) := by
  simp only [State.failChord]; repeat' split
  all_goals simp +contextual (maxDischargeDepth := 99) [h]

@[simp] theorem State.unfailChord_kept (h : State.Kept r s) {n : Nat} : State.Kept r (s.unfailChord n) := by unfold State.unfailChord; split <;> simp +contextual (maxDischargeDepth := 99) [h]

@[simp] theorem State.applyUnfail_kept (h : State.Kept r s) : State.Kept r (s.applyUnfail) := by simp +contextual (maxDischargeDepth := 99) [State.applyUnfail, h]

@[simp] theorem State.checkCoefs_kept (h : State.Kept r s) : State.Kept r (s.checkCoefs) := by
  simp +contextual (maxDischargeDepth := 99) [State.checkCoefs, kept_ite_iff, h]

@[simp] theorem State.chordFlow_kept (h : State.Kept r s) {c : ChordCfg} {outcome : Nat} {tu td dt : Int} : State.Kept r (s.chordFlow c outcome tu td dt).2 := by
  unfold State.chordFlow; repeat' split
  all_goals simp +contextual (maxDischargeDepth := 99) [h]

@[simp] theorem State.touchMeter_kept (h : State.Kept r s) : State.Kept r (s.touchMeter) := by simp +contextual [State.touchMeter, h]

@[simp] theorem State.reynolds_kept (h : State.Kept r s) {vm nu : Int} : State.Kept r (s.reynolds vm nu).2 := by unfold State.reynolds; split <;> simp +contextual (maxDischargeDepth := 99) [h]

@[simp] theorem State.flowStatus_kept (h : State.Kept r s) {st : Nat} {cut noTemp h2 : Bool} : State.Kept r (s.flowStatus st cut noTemp h2) := by simp +contextual [State.flowStatus, h]

@[simp] theorem State.setLive_kept (h : State.Kept r s) {l : FlwLive} : State.Kept r (s.setLive l) := by simp +contextual [State.setLive, h]

@[simp] theorem State.h2Step_kept (h : State.Kept r s) {t : Option Int} {p : Option Nat} : State.Kept r (s.h2Step t p).2 := by
  unfold State.h2Step; repeat' split
  all_goals simp +contextual (maxDischargeDepth := 99) [h]

@[simp] theorem State.addRatio_kept (h : State.Kept r s) {n : Nat} : State.Kept r (s.addRatio n) := by
  simp only [State.addRatio]; repeat' split
  all_goals simp +contextual (maxDischargeDepth := 99) [h]

@[simp] theorem State.chordMachine_kept (h : State.Kept r s) {n : Nat} {healthy accepted : Bool} : State.Kept r (s.chordMachine n healthy accepted) := by
  simp only [State.chordMachine]; repeat' split
  all_goals simp +contextual (maxDischargeDepth := 99) [h]

@[simp] theorem State.afterValid_kept (h : State.Kept r s) : State.Kept r (s.afterValid) := by simp +contextual (maxDischargeDepth := 99) [State.afterValid, h]

@[simp] theorem State.validFlow_kept (h : State.Kept r s) {vm : Int} {p : Option Nat} : State.Kept r (s.validFlow vm p) := by unfold State.validFlow; split <;> simp +contextual (maxDischargeDepth := 99) [h]

@[simp] theorem State.meterFlow_kept (h : State.Kept r s) {p : Option Nat} : State.Kept r (s.meterFlow p) := by
  simp only [State.meterFlow]; repeat' split
  all_goals simp +contextual (maxDischargeDepth := 99) [h]

@[simp] theorem State.flwSnapshot_kept (h : State.Kept r s) : State.Kept r (s.flwSnapshot) := by simp +contextual [State.flwSnapshot, h]

@[simp] theorem State.touchStartup_kept (h : State.Kept r s) : State.Kept r (s.touchStartup) := by unfold State.touchStartup; split <;> simp +contextual (maxDischargeDepth := 99) [h]

@[simp] theorem State.evalQstart_kept (h : State.Kept r s) : State.Kept r (s.evalQstart) := by unfold State.evalQstart; split <;> simp +contextual (maxDischargeDepth := 99) [h]

@[simp] theorem State.flwApply_kept (h : State.Kept r s) : State.Kept r (s.flwApply) := by simp +contextual (maxDischargeDepth := 99) [State.flwApply, h]

end Sys2Proof.Machine
end

