-- ==== Sys2Proof/Laws/KeptEcho.lean ====
section
/-! SUPPORT. `State.Kept` for the operations of Echo.lean. -/

namespace Sys2Proof.Machine

variable {r s : State}

@[simp] theorem State.setEchc_kept (h : State.Kept r s) {n : Nat} {c : EchChord} : State.Kept r (s.setEchc n c) := by simp +contextual [State.setEchc, h]

@[simp] theorem State.unseed_kept (h : State.Kept r s) {n : Nat} : State.Kept r (s.unseed n) := by simp +contextual [State.unseed, h]

@[simp] theorem State.showAvg_kept (h : State.Kept r s) {n : Nat} : State.Kept r (s.showAvg n) := by simp +contextual [State.showAvg, h]

@[simp] theorem State.clearAvg_kept (h : State.Kept r s) {n : Nat} : State.Kept r (s.clearAvg n) := by simp +contextual [State.clearAvg, h]

@[simp] theorem State.readTemplate_kept (h : State.Kept r s) {c : ChordCfg} {isB : Bool} : State.Kept r (s.readTemplate c isB).2 := by
  simp only [State.readTemplate]; repeat' split
  all_goals simp +contextual (maxDischargeDepth := 99) [h]

@[simp] theorem State.direction_kept (h : State.Kept r s) {c : ChordCfg} {k : Nat} {isB : Bool} : State.Kept r (s.direction c k isB).2 := by
  unfold State.direction
  extract_lets skip nst peak amp a b w st
  have ha : State.Kept r a.2.2 := State.readBytes_kept h
  have hb : State.Kept r b.2.2 := State.readBytes_kept ha
  have hw : State.Kept r w.2 := State.readTemplate_kept hb
  split
  · exact h
  · split
    · exact State.consumed_kept hw
    · exact hw

@[simp] theorem State.seedSum_kept (h : State.Kept r s) {l : Nat} {t : Int} : State.Kept r (s.seedSum l t).2 := by
  simp only [State.seedSum]; repeat' split
  all_goals simp +contextual (maxDischargeDepth := 99) [h]

@[simp] theorem State.expected_kept (h : State.Kept r s) {c : ChordCfg} {k : Nat} : State.Kept r (s.expected c k).2.2 := by
  simp only [State.expected]; repeat' split
  all_goals simp +contextual (maxDischargeDepth := 99) [h]

@[simp] theorem State.predict_kept (h : State.Kept r s) {tPrev sExp sPrev : Int} : State.Kept r (s.predict tPrev sExp sPrev).2 := by unfold State.predict; split <;> simp +contextual (maxDischargeDepth := 99) [h]

@[simp] theorem State.window_kept (h : State.Kept r s) {d : Dir} {tPrev sExp sPrev period : Int} : State.Kept r (s.window d tPrev sExp sPrev period).2 := by
  simp only [State.window]; repeat' split
  all_goals simp +contextual (maxDischargeDepth := 99) [h]

@[simp] theorem State.ampWatch_kept (h : State.Kept r s) {n : Nat} {up dn : Dir} : State.Kept r (s.ampWatch n up dn).2 := by simp +contextual (maxDischargeDepth := 99) [State.ampWatch, h]

@[simp] theorem State.slipSrc_kept (h : State.Kept r s) {f : Fld} {n : Nat} : State.Kept r (s.slipSrc f n) := by unfold State.slipSrc; split <;> simp +contextual (maxDischargeDepth := 99) [h]

@[simp] theorem State.countReject_kept (h : State.Kept r s) {n outcome : Nat} {jump : Bool} : State.Kept r (s.countReject n outcome jump) := by
  simp only [State.countReject]; repeat' split
  all_goals simp +contextual (maxDischargeDepth := 99) [h]

@[simp] theorem State.acceptPair_kept (h : State.Kept r s) {n : Nat} {up dn : Dir} {t : Option Int} : State.Kept r (s.acceptPair n up dn t) := by simp +contextual (maxDischargeDepth := 99) [State.acceptPair, h]

@[simp] theorem State.pairStep_kept (h : State.Kept r s) {c : ChordCfg} {k : Nat} {up dn : Dir} : State.Kept r (s.pairStep c k up dn).2 := by
  simp only [State.pairStep]; repeat' split
  all_goals simp +contextual (maxDischargeDepth := 99) [h]

@[simp] theorem State.putRecord_kept (h : State.Kept r s) {n pos rot : Nat} {b : List Byte} : State.Kept r (s.putRecord n pos rot b) := by simp +contextual [State.putRecord, h]

@[simp] theorem State.noteRec_kept (h : State.Kept r s) {r' : EchRec} : State.Kept r (s.noteRec r') := by simp +contextual [State.noteRec, h]

@[simp] theorem State.processSlot_kept (h : State.Kept r s) {c : ChordCfg} {k : Nat} : State.Kept r (s.processSlot c k).2 := by simp +contextual (maxDischargeDepth := 99) [State.processSlot, h]

@[simp] theorem State.skipRecord_kept (h : State.Kept r s) {n rot tag : Nat} : State.Kept r (s.skipRecord n rot tag).2 := by simp +contextual [State.skipRecord, h]

@[simp] theorem State.emptyStep_kept (h : State.Kept r s) {c : RotClass} : State.Kept r (s.emptyStep c).2 := by
  simp only [State.emptyStep]; repeat' split
  all_goals simp +contextual (maxDischargeDepth := 99) [h]

@[simp] theorem State.emptyReset_kept (h : State.Kept r s) : State.Kept r (s.emptyReset) := by simp +contextual [State.emptyReset, h]

@[simp] theorem State.echApply_kept (h : State.Kept r s) {i : Image} : State.Kept r (s.echApply i) := by simp +contextual (maxDischargeDepth := 99) [State.echApply, h]

end Sys2Proof.Machine
end

