-- ==== Sys2Proof/Laws/KeptTmu.lean ====
section
/-! SUPPORT. `State.Kept` for the operations of Tmu.lean. -/

namespace Sys2Proof.Machine

variable {r s : State}

@[simp] theorem State.setTmu_kept (h : State.Kept r s) {f : Tmu → Tmu} : State.Kept r (s.setTmu f) := by simp +contextual [State.setTmu, h]

@[simp] theorem State.armDischarge_kept (h : State.Kept r s) : State.Kept r (s.armDischarge) := by unfold State.armDischarge; split <;> simp +contextual (maxDischargeDepth := 99) [h]

@[simp] theorem State.startConv_kept (h : State.Kept r s) {why : ConvWhy} {mask n : Nat} : State.Kept r (s.startConv why mask n) := by simp +contextual (maxDischargeDepth := 99) [State.startConv, h]

@[simp] theorem State.endCycle_kept (h : State.Kept r s) {d : Option Int} : State.Kept r (s.endCycle d) := by unfold State.endCycle; split <;> simp +contextual (maxDischargeDepth := 99) [h]

@[simp] theorem State.dischargeEdge_kept (h : State.Kept r s) {stamp : Nat} {rising : Bool} : State.Kept r (s.dischargeEdge stamp rising) := by unfold State.dischargeEdge; split <;> simp +contextual (maxDischargeDepth := 99) [h]

@[simp] theorem State.dischargeTimeout_kept (h : State.Kept r s) : State.Kept r (s.dischargeTimeout) := by unfold State.dischargeTimeout; split <;> simp +contextual (maxDischargeDepth := 99) [h]

@[simp] theorem State.abandonConv_kept (h : State.Kept r s) : State.Kept r (s.abandonConv) := by
  simp only [State.abandonConv]; repeat' split
  all_goals simp +contextual (maxDischargeDepth := 99) [h]

@[simp] theorem State.touchElem_kept (h : State.Kept r s) {i : Nat} : State.Kept r (s.touchElem i) := by unfold State.touchElem; split <;> simp +contextual (maxDischargeDepth := 99) [h]

@[simp] theorem State.setElem_kept (h : State.Kept r s) {i st : Nat} : State.Kept r (s.setElem i st) := by simp +contextual (maxDischargeDepth := 99) [State.setElem, h]

@[simp] theorem State.setOhm_kept (h : State.Kept r s) {t : Nat} {r' : Option Rat} : State.Kept r (s.setOhm t r') := by unfold State.setOhm; split <;> simp +contextual (maxDischargeDepth := 99) [h]

@[simp] theorem State.thermoResults_kept (h : State.Kept r s) {c : Conv} {hold : Bool} {y0 : List (Nat × Nat)} : State.Kept r (s.thermoResults c hold y0).2 := by
  induction y0 generalizing s with
  | nil => exact h
  | cons p t ih =>
    obtain ⟨i, j⟩ := p
    unfold State.thermoResults; split
    · exact ih h
    · dsimp only; split
      · apply ih; split <;> simp +contextual (maxDischargeDepth := 99) [h]
      · apply ih; simp +contextual (maxDischargeDepth := 99) [h]

@[simp] theorem State.deltaResult_kept (h : State.Kept r s) {temps : List (Nat × Rat)} : State.Kept r (s.deltaResult temps) := by
  unfold State.deltaResult; repeat' split
  all_goals simp +contextual (maxDischargeDepth := 99) [h]

@[simp] theorem State.pressResult_kept (h : State.Kept r s) {c : Conv} {j : Nat} {hold : Bool} {temps : List (Nat × Rat)} : State.Kept r (s.pressResult c j hold temps) := by
  simp only [State.pressResult]; repeat' split
  all_goals simp +contextual (maxDischargeDepth := 99) [h]

@[simp] theorem State.finishConv_kept (h : State.Kept r s) {c : Conv} : State.Kept r (s.finishConv c) := by
  simp only [State.finishConv]; repeat' split
  all_goals simp +contextual (maxDischargeDepth := 99) [h]

@[simp] theorem State.tmuSnapshot_kept (h : State.Kept r s) : State.Kept r (s.tmuSnapshot) := by simp +contextual [State.tmuSnapshot, h]

@[simp] theorem State.checkTmuCoefs_kept (h : State.Kept r s) : State.Kept r (s.checkTmuCoefs) := by
  simp +contextual (maxDischargeDepth := 99) [State.checkTmuCoefs, kept_ite_iff, h]

@[simp] theorem State.tmuApply_kept (h : State.Kept r s) : State.Kept r (s.tmuApply) := by simp +contextual [State.tmuApply, h]

end Sys2Proof.Machine
end

