-- ==== Sys2Proof/Laws/KeptLedger.lean ====
section
/-! SUPPORT. `State.Kept` for the operations of Ledger.lean. -/

namespace Sys2Proof.Machine

variable {r s : State}

@[simp] theorem State.setLdg_kept (h : State.Kept r s) {f : Ldg → Ldg} : State.Kept r (s.setLdg f) := by simp +contextual [State.setLdg, h]

@[simp] theorem State.setPulse_kept (h : State.Kept r s) {p : Nat} {v : Pulse} : State.Kept r (s.setPulse p v) := by simp +contextual [State.setPulse, h]

@[simp] theorem State.feedPulse_kept (h : State.Kept r s) {p n : Nat} : State.Kept r (s.feedPulse p n) := by
  simp only [State.feedPulse]; repeat' split
  all_goals simp +contextual (maxDischargeDepth := 99) [h]

@[simp] theorem State.addUnits_kept (h : State.Kept r s) {a n : Nat} : State.Kept r (s.addUnits a n) := by
  simp +contextual (maxDischargeDepth := 99) [State.addUnits, kept_ite_iff, h]

@[simp] theorem State.addExact_kept (h : State.Kept r s) {a : Nat} {x : Rat} : State.Kept r (s.addExact a x) := by simp +contextual [State.addExact, h]

@[simp] theorem State.accSnapshot_kept (h : State.Kept r s) {a : Nat} : State.Kept r (s.accSnapshot a) := by simp +contextual [State.accSnapshot, h]

@[simp] theorem State.setTariff_kept (h : State.Kept r s) : State.Kept r (s.setTariff) := by simp +contextual [State.setTariff, h]

@[simp] theorem State.poisonStep_kept (h : State.Kept r s) : State.Kept r (s.poisonStep) := by simp +contextual [State.poisonStep, h]

@[simp] theorem State.addEnergy_kept (h : State.Kept r s) {a : Nat} {x : Rat} {binned : Bool} : State.Kept r (s.addEnergy a x binned) := by
  simp only [State.addEnergy]; repeat' split
  all_goals simp +contextual (maxDischargeDepth := 99) [h]

@[simp] theorem State.energyStep_kept (h : State.Kept r s) {vf : Rat} : State.Kept r (s.energyStep vf) := by
  simp only [State.energyStep]; repeat' split
  all_goals simp +contextual (maxDischargeDepth := 99) [h]

@[simp] theorem State.integrate_kept (h : State.Kept r s) {iv : Interval} {d : Nat} : State.Kept r (s.integrate iv d) := by unfold State.integrate; split <;> simp +contextual (maxDischargeDepth := 99) [h]

@[simp] theorem State.energyCauses_kept (h : State.Kept r s) : State.Kept r (s.energyCauses) := by
  simp only [State.energyCauses]; repeat' split
  all_goals simp +contextual (maxDischargeDepth := 99) [h]

@[simp] theorem State.addOptime_kept (h : State.Kept r s) {ns : Nat} : State.Kept r (s.addOptime ns) := by simp +contextual [State.addOptime, h]

@[simp] theorem State.addErrtime_kept (h : State.Kept r s) {ns : Nat} : State.Kept r (s.addErrtime ns) := by simp +contextual [State.addErrtime, h]

@[simp] theorem State.hardwareStep_kept (h : State.Kept r s) {d rotEnd : Nat} : State.Kept r (s.hardwareStep d rotEnd) := by
  simp only [State.hardwareStep]; repeat' split
  all_goals simp +contextual (maxDischargeDepth := 99) [h]

@[simp] theorem State.bookHost_kept (h : State.Kept r s) {i inc : Nat} : State.Kept r (s.bookHost i inc) := by
  simp only [State.bookHost]; repeat' split
  all_goals simp +contextual (maxDischargeDepth := 99) [h]

@[simp] theorem State.hostStep_kept (h : State.Kept r s) {d rotEnd : Nat} : State.Kept r (s.hostStep d rotEnd) := by
  simp only [State.hostStep]; repeat' split
  all_goals simp +contextual (maxDischargeDepth := 99) [h]

@[simp] theorem State.ledgerZero_kept (h : State.Kept r s) : State.Kept r (s.ledgerZero) := by simp +contextual [State.ledgerZero, h]

@[simp] theorem State.afterStep_kept (h : State.Kept r s) {rotEnd : Nat} {shotRot : Bool} : State.Kept r (s.afterStep rotEnd shotRot) := by simp +contextual [State.afterStep, h]

@[simp] theorem State.noStep_kept (h : State.Kept r s) {rotEnd : Nat} : State.Kept r (s.noStep rotEnd) := by simp +contextual [State.noStep, h]

@[simp] theorem State.ledgerS3_kept (h : State.Kept r s) {d rotEnd : Nat} {shotRot : Bool} : State.Kept r (s.ledgerS3 d rotEnd shotRot).2 := by
  unfold State.ledgerS3
  split
  · exact State.afterStep_kept (kept_mk (by simp [h]))
  · extract_lets s1 s2 s3 s4
    have h3 : State.Kept r s3 := by simp +contextual (maxDischargeDepth := 99) [s3, s2, s1, kept_ite_iff, h]
    exact State.afterStep_kept (by simp only [s4]; split <;> simp [h3])

@[simp] theorem State.sampleHostSet_kept (h : State.Kept r s) : State.Kept r (s.sampleHostSet) := by unfold State.sampleHostSet; split <;> simp +contextual (maxDischargeDepth := 99) [h]

@[simp] theorem State.clearPrevShot_kept (h : State.Kept r s) : State.Kept r (s.clearPrevShot) := by simp +contextual [State.clearPrevShot, h]

@[simp] theorem State.partialStep_kept (h : State.Kept r s) {t : Nat} : State.Kept r (s.partialStep t) := by
  simp only [State.partialStep]; repeat' split
  all_goals simp +contextual (maxDischargeDepth := 99) [h]

@[simp] theorem State.setPulsePeriod_kept (h : State.Kept r s) {n p : Nat} : State.Kept r (s.setPulsePeriod n p) := by
  simp only [State.setPulsePeriod]; repeat' split
  all_goals simp +contextual (maxDischargeDepth := 99) [h]

@[simp] theorem State.pulseStart_kept (h : State.Kept r s) {p : Nat} : State.Kept r (s.pulseStart p) := by
  simp only [State.pulseStart]; repeat' split
  all_goals simp +contextual (maxDischargeDepth := 99) [h]

@[simp] theorem State.pulseEnd_kept (h : State.Kept r s) {p : Nat} : State.Kept r (s.pulseEnd p) := by simp +contextual [State.pulseEnd, h]

end Sys2Proof.Machine
end

