-- ==== Sys2Proof/Laws/KeptLedgerNvm.lean ====
section
/-! SUPPORT. `State.Kept` for the operations of LedgerNvm.lean. -/

namespace Sys2Proof.Machine

variable {r s : State}

@[simp] theorem State.startCommit_kept (h : State.Kept r s) {cause : Nat} {op : Option Nat} : State.Kept r (s.startCommit cause op) := by simp +contextual [State.startCommit, h]

@[simp] theorem State.wantErase_kept (h : State.Kept r s) : State.Kept r (s.wantErase) := by unfold State.wantErase; split <;> simp +contextual (maxDischargeDepth := 99) [h]

@[simp] theorem State.eraseLedgerPage_kept (h : State.Kept r s) : State.Kept r (s.eraseLedgerPage) := by unfold State.eraseLedgerPage; split <;> simp +contextual (maxDischargeDepth := 99) [h]

@[simp] theorem State.scrambleWord_kept (h : State.Kept r s) {a : Nat} : State.Kept r (s.scrambleWord a) := by simp +contextual [State.scrambleWord, h]

@[simp] theorem State.scrambleWords_kept (h : State.Kept r s) {a y0 : Nat} : State.Kept r (s.scrambleWords a y0) := by
  induction y0 generalizing s a with
  | zero => exact h
  | succ n ih =>
    have h1 := State.scrambleWord_kept h (a := a)
    unfold State.scrambleWords
    exact ih h1

@[simp] theorem State.tearErase_kept (h : State.Kept r s) : State.Kept r (s.tearErase) := by unfold State.tearErase; split <;> simp +contextual (maxDischargeDepth := 99) [h]

@[simp] theorem State.programRecord_kept (h : State.Kept r s) {a : Nat} {b : List Byte} {bad : Option Nat} : State.Kept r (s.programRecord a b bad) := by
  simp +contextual (maxDischargeDepth := 99) [State.programRecord, kept_ite_iff, h]

@[simp] theorem State.programNext_kept (h : State.Kept r s) {bad : Option Nat} {us : Nat} : State.Kept r (s.programNext bad us).2 := by
  simp only [State.programNext]; repeat' split
  all_goals simp +contextual (maxDischargeDepth := 99) [h]

@[simp] theorem State.ledgerFacet_kept (h : State.Kept r s) : State.Kept r (s.ledgerFacet) := by simp +contextual [State.ledgerFacet, h]

@[simp] theorem State.commitIfDue_kept (h : State.Kept r s) {op : Option Nat} : State.Kept r (s.commitIfDue op) := by
  unfold State.commitIfDue; repeat' split
  all_goals simp +contextual (maxDischargeDepth := 99) [h]

@[simp] theorem State.touchRing_kept (h : State.Kept r s) : State.Kept r (s.touchRing) := by simp +contextual [State.touchRing, h]

@[simp] theorem State.loadCommit_kept (h : State.Kept r s) {c : List RingRec} : State.Kept r (s.loadCommit c) := by simp +contextual [State.loadCommit, h]

@[simp] theorem State.findRing_kept (h : State.Kept r s) : State.Kept r (s.findRing) := by simp +contextual [State.findRing, h]

@[simp] theorem State.restoreLedger_kept (h : State.Kept r s) {cold : Bool} : State.Kept r (s.restoreLedger cold).2 := by
  unfold State.restoreLedger
  extract_lets l top s1 hmax s2
  have h1 : State.Kept r s1 := by simp [s1, h]
  have h2 : State.Kept r s2 := by simp only [s2]; split <;> simp +contextual (maxDischargeDepth := 99) [h1]
  clear_value s1 s2
  split
  · dsimp only; split <;> simp +contextual (maxDischargeDepth := 99) [h1]
  · split <;> simp +contextual (maxDischargeDepth := 99) [h2]

end Sys2Proof.Machine
end

