-- ==== Sys2Proof/Laws/KeptOpTable.lean ====
section
/-! SUPPORT. `State.Kept` for the operations of OpTable.lean. -/

namespace Sys2Proof.Machine

variable {r s : State}

@[simp] theorem State.setOp_kept (h : State.Kept r s) {i : Nat} {e : OpEntry} : State.Kept r (s.setOp i e) := by simp +contextual [State.setOp, h]

@[simp] theorem State.enterOp_kept (h : State.Kept r s) {i tag type flags deadline budget : Nat} {params : List Byte} : State.Kept r (s.enterOp i tag type flags deadline budget params) := by simp +contextual [State.enterOp, h]

@[simp] theorem State.complete_kept (h : State.Kept r s) {i status upper lower result : Nat} : State.Kept r (s.complete i status upper lower result) := by
  simp only [State.complete]; repeat' split
  all_goals simp +contextual (maxDischargeDepth := 99) [h]

@[simp] theorem State.completeAs_kept (h : State.Kept r s) {i status : Nat} : State.Kept r (s.completeAs i status) := by simp +contextual [State.completeAs, h]

@[simp] theorem State.beginOp_kept (h : State.Kept r s) {i : Nat} : State.Kept r (s.beginOp i) := by simp +contextual [State.beginOp, h]

@[simp] theorem State.discardOps_kept (h : State.Kept r s) : State.Kept r (s.discardOps) := by simp +contextual [State.discardOps, h]

@[simp] theorem State.clearOps_kept (h : State.Kept r s) : State.Kept r (s.clearOps) := by simp +contextual [State.clearOps, h]

@[simp] theorem State.enterWin_kept (h : State.Kept r s) {w : WinEntry} : State.Kept r (s.enterWin w) := by simp +contextual [State.enterWin, h]

end Sys2Proof.Machine
end

