-- ==== Sys2Proof/Laws/KeptRadio.lean ====
section
/-! SUPPORT. `State.Kept` for the operations of Radio.lean. -/

namespace Sys2Proof.Machine

variable {r s : State}

@[simp] theorem State.govBook_kept (h : State.Kept r s) {i t : Nat} : State.Kept r (s.govBook i t) := by simp +contextual [State.govBook, h]

@[simp] theorem State.govMinute_kept (h : State.Kept r s) : State.Kept r (s.govMinute) := by simp +contextual [State.govMinute, h]

theorem govEnter_kept {c : RadioCfg} {chan air : Nat} {fog booked : Bool} {t : State} (h : State.Kept r s)
    (e : s.govEnter c chan air fog booked = some t) : State.Kept r t := by
  unfold State.govEnter at e
  split at e
  · cases e; exact h
  · obtain ⟨i, -, rfl⟩ := Option.map_eq_some_iff.mp e
    simp [h]

@[simp] theorem State.startTx_kept (h : State.Kept r s) {why : TxWhy} {psdu : List Byte} {air chan : Nat} {req : Int} {fog lbt booked : Bool} : State.Kept r (s.startTx why psdu air chan req fog lbt booked).2 := by
  unfold State.startTx
  split
  · exact h
  · split
    · simp [h]
    · split
      · dsimp only; split <;> simp [h]
      · next e => have ht := govEnter_kept h e; simp +contextual (maxDischargeDepth := 99) [ht]

@[simp] theorem State.cutTx_kept (h : State.Kept r s) : State.Kept r (s.cutTx) := by simp +contextual [State.cutTx, h]

@[simp] theorem State.listenEnd_kept (h : State.Kept r s) {j : TxJob} {rssi : Byte} : State.Kept r (s.listenEnd j rssi).2 := by
  simp only [State.listenEnd]; repeat' split
  all_goals simp +contextual (maxDischargeDepth := 99) [h]

@[simp] theorem State.putRx_kept (h : State.Kept r s) {q y0 : Nat} {y1 : List Byte} : State.Kept r (s.putRx q y0 y1) := by
  induction y1 generalizing s y0 with
  | nil => exact h
  | cons b t ih => exact ih (by simp [h])

@[simp] theorem State.deliverRx_kept (h : State.Kept r s) {st : RxStart} {octets : List Byte} {d : Nat} : State.Kept r (s.deliverRx st octets d).2 := by unfold State.deliverRx; split <;> simp +contextual (maxDischargeDepth := 99) [h]

@[simp] theorem State.releaseRx_kept (h : State.Kept r s) {m : Nat} : State.Kept r (s.releaseRx m) := by simp +contextual [State.releaseRx, h]

end Sys2Proof.Machine
end

