-- ==== Sys2Proof/Laws/KeptMesh.lean ====
section
/-! SUPPORT. `State.Kept` for the operations of Mesh.lean. -/

namespace Sys2Proof.Machine

variable {r s : State}

@[simp] theorem State.setMst_kept (h : State.Kept r s) {v : Nat} : State.Kept r (s.setMst v) := by simp +contextual [State.setMst, h]

@[simp] theorem State.setMsh_kept (h : State.Kept r s) {f : Msh → Msh} : State.Kept r (s.setMsh f) := by simp +contextual [State.setMsh, h]

@[simp] theorem State.meshEvt_kept (h : State.Kept r s) {f : Fld} : State.Kept r (s.meshEvt f) := by unfold State.meshEvt; split <;> simp +contextual (maxDischargeDepth := 99) [h]

@[simp] theorem State.setEvt_kept (h : State.Kept r s) {e : Nat} : State.Kept r (s.setEvt e) := by simp +contextual [State.setEvt, h]

@[simp] theorem State.takeFcnt_kept (h : State.Kept r s) : State.Kept r (s.takeFcnt).2 := by
  simp only [State.takeFcnt]; repeat' split
  all_goals simp +contextual (maxDischargeDepth := 99) [h]

@[simp] theorem State.bootFcnt_kept (h : State.Kept r s) : State.Kept r (s.bootFcnt) := by unfold State.bootFcnt; split <;> simp +contextual (maxDischargeDepth := 99) [h]

@[simp] theorem State.showAssoc_kept (h : State.Kept r s) : State.Kept r (s.showAssoc) := by simp +contextual [State.showAssoc, h]

@[simp] theorem State.setAssoc_kept (h : State.Kept r s) {i : Nat} {e : AssocEntry} : State.Kept r (s.setAssoc i e) := by simp +contextual [State.setAssoc, h]

@[simp] theorem State.freeAssoc_kept (h : State.Kept r s) {i : Nat} : State.Kept r (s.freeAssoc i) := by simp +contextual [State.freeAssoc, h]

@[simp] theorem State.keeperEvent_kept (h : State.Kept r s) {kind short : Nat} : State.Kept r (s.keeperEvent kind short) := by unfold State.keeperEvent; split <;> simp +contextual (maxDischargeDepth := 99) [h]

@[simp] theorem State.takeKevt_kept (h : State.Kept r s) : State.Kept r (s.takeKevt).2 := by unfold State.takeKevt; split <;> simp +contextual (maxDischargeDepth := 99) [h]

@[simp] theorem State.noteSeen_kept (h : State.Kept r s) {src fcnt type : Nat} : State.Kept r (s.noteSeen src fcnt type) := by unfold State.noteSeen; split <;> simp +contextual (maxDischargeDepth := 99) [h]

@[simp] theorem State.replayDrop_kept (h : State.Kept r s) : State.Kept r (s.replayDrop) := by simp +contextual [State.replayDrop, h]

@[simp] theorem State.setQueue_kept (h : State.Kept r s) {c : Nat} {l : List Own} : State.Kept r (s.setQueue c l) := by simp +contextual [State.setQueue, h]

@[simp] theorem State.queueOwn_kept (h : State.Kept r s) {o : Own} : State.Kept r (s.queueOwn o) := by unfold State.queueOwn; split <;> simp +contextual (maxDischargeDepth := 99) [h]

@[simp] theorem State.setHead_kept (h : State.Kept r s) {c : Nat} {o : Own} : State.Kept r (s.setHead c o) := by unfold State.setHead; split <;> simp +contextual (maxDischargeDepth := 99) [h]

@[simp] theorem State.dropHead_kept (h : State.Kept r s) {c : Nat} : State.Kept r (s.dropHead c) := by simp +contextual [State.dropHead, h]

end Sys2Proof.Machine
end

