-- ==== Sys2Proof/Laws/KeptMeshTx.lean ====
section
/-! SUPPORT. `State.Kept` for the operations of MeshTx.lean. -/

namespace Sys2Proof.Machine

variable {r s : State}

@[simp] theorem State.dropAssociation_kept (h : State.Kept r s) : State.Kept r (s.dropAssociation) := by
  unfold State.dropAssociation; repeat' split
  all_goals simp +contextual (maxDischargeDepth := 99) [h]

@[simp] theorem State.loseOwn_kept (h : State.Kept r s) {c : Nat} {o : Own} {status upper lower : Nat} : State.Kept r (s.loseOwn c o status upper lower) := by unfold State.loseOwn; split <;> simp +contextual (maxDischargeDepth := 99) [h]

@[simp] theorem State.exhaustOwn_kept (h : State.Kept r s) {c : Nat} {o : Own} : State.Kept r (s.exhaustOwn c o) := by
  simp only [State.exhaustOwn]; repeat' split
  all_goals simp +contextual (maxDischargeDepth := 99) [h]

@[simp] theorem State.ownDone_kept (h : State.Kept r s) {c : Nat} {o : Own} {flood acked : Bool} : State.Kept r (s.ownDone c o flood acked) := by
  unfold State.ownDone; repeat' split
  all_goals simp +contextual (maxDischargeDepth := 99) [h]

@[simp] theorem State.attemptFailed_kept (h : State.Kept r s) {c : Nat} {flood : Bool} {lower : Nat} : State.Kept r (s.attemptFailed c flood lower) := by
  simp only [State.attemptFailed]; repeat' split
  all_goals simp +contextual (maxDischargeDepth := 99) [h]

@[simp] theorem State.prepareOwn_kept (h : State.Kept r s) {o : Own} : State.Kept r (s.prepareOwn o).2.2 := by
  simp only [State.prepareOwn]; repeat' split
  all_goals simp +contextual (maxDischargeDepth := 99) [h]

@[simp] theorem State.beginOwn_kept (h : State.Kept r s) {o : Own} : State.Kept r (s.beginOwn o) := by unfold State.beginOwn; split <;> simp +contextual (maxDischargeDepth := 99) [h]

@[simp] theorem State.startOwn_kept (h : State.Kept r s) {c : Nat} {flood : Bool} : State.Kept r (s.startOwn c flood) := by
  simp only [State.startOwn]; repeat' split
  all_goals simp +contextual (maxDischargeDepth := 99) [h]

@[simp] theorem State.tryClass_kept (h : State.Kept r s) {c : Nat} : State.Kept r (s.tryClass c) := by
  unfold State.tryClass; repeat' split
  all_goals simp +contextual (maxDischargeDepth := 99) [h]

@[simp] theorem State.leaveFirst_kept (h : State.Kept r s) : State.Kept r (s.leaveFirst) := by
  simp only [State.leaveFirst]; repeat' split
  all_goals simp +contextual (maxDischargeDepth := 99) [h]

@[simp] theorem State.ownNext_kept (h : State.Kept r s) : State.Kept r (s.ownNext) := by
  simp only [State.ownNext]; repeat' split
  all_goals simp +contextual (maxDischargeDepth := 99) [h]

@[simp] theorem State.startHostTx_kept (h : State.Kept r s) {i : Nat} : State.Kept r (s.startHostTx i) := by
  simp only [State.startHostTx]; repeat' split
  all_goals simp +contextual (maxDischargeDepth := 99) [h]

@[simp] theorem State.startScan_kept (h : State.Kept r s) {i : Nat} : State.Kept r (s.startScan i) := by simp +contextual [State.startScan, h]

@[simp] theorem State.radioNext_kept (h : State.Kept r s) : State.Kept r (s.radioNext) := by
  simp only [State.radioNext]; repeat' split
  all_goals simp +contextual (maxDischargeDepth := 99) [h]

@[simp] theorem State.sendJoin_kept (h : State.Kept r s) {flood : Bool} : State.Kept r (s.sendJoin flood) := by
  simp only [State.sendJoin]; repeat' split
  all_goals simp +contextual (maxDischargeDepth := 99) [h]

@[simp] theorem State.joinFailed_kept (h : State.Kept r s) : State.Kept r (s.joinFailed) := by
  simp only [State.joinFailed]; repeat' split
  all_goals simp +contextual (maxDischargeDepth := 99) [h]

@[simp] theorem State.downFailed_kept (h : State.Kept r s) {i lower : Nat} : State.Kept r (s.downFailed i lower) := by
  simp only [State.downFailed]; repeat' split
  all_goals simp +contextual (maxDischargeDepth := 99) [h]

@[simp] theorem State.onBusy_kept (h : State.Kept r s) {w : TxWhy} : State.Kept r (s.onBusy w) := by
  simp only [State.onBusy]; repeat' split
  all_goals simp +contextual (maxDischargeDepth := 99) [h]

@[simp] theorem State.onSent_kept (h : State.Kept r s) {j : TxJob} : State.Kept r (s.onSent j) := by
  simp only [State.onSent]; repeat' split
  all_goals simp +contextual (maxDischargeDepth := 99) [h]

@[simp] theorem State.answerTimeout_kept (h : State.Kept r s) : State.Kept r (s.answerTimeout) := by
  unfold State.answerTimeout; repeat' split
  all_goals simp +contextual (maxDischargeDepth := 99) [h]

@[simp] theorem State.waitEnd_kept (h : State.Kept r s) : State.Kept r (s.waitEnd) := by
  simp only [State.waitEnd]; repeat' split
  all_goals simp +contextual (maxDischargeDepth := 99) [h]

end Sys2Proof.Machine
end

