-- ==== Sys2Proof/Laws/KeptMeshRx.lean ====
section
/-! SUPPORT. `State.Kept` for the operations of MeshRx.lean. -/

namespace Sys2Proof.Machine

variable {r s : State}

@[simp] theorem State.sfdEnd_kept (h : State.Kept r s) {t : Nat} : State.Kept r (s.sfdEnd t) := by
  simp only [State.sfdEnd]; repeat' split
  all_goals simp +contextual (maxDischargeDepth := 99) [h]

@[simp] theorem State.deliverBody_kept (h : State.Kept r s) {st : RxStart} {f : RxFrame} {p : RxParts} {long : Nat} {body : List Byte} : State.Kept r (s.deliverBody st f p long body).2 := by simp +contextual [State.deliverBody, h]

@[simp] theorem State.align_kept (h : State.Kept r s) {f : Flash} {st : RxStart} {rssi : Byte} : State.Kept r (s.align f st rssi) := by simp +contextual (maxDischargeDepth := 99) [State.align, h]

@[simp] theorem State.flashMissed_kept (h : State.Kept r s) : State.Kept r (s.flashMissed) := by
  simp only [State.flashMissed]; repeat' split
  all_goals simp +contextual (maxDischargeDepth := 99) [h]

@[simp] theorem State.buoyFlash_kept (h : State.Kept r s) {p : RxParts} {st : RxStart} {rssi : Byte} : State.Kept r (s.buoyFlash p st rssi).2 := by
  simp only [State.buoyFlash]; repeat' split
  all_goals simp +contextual (maxDischargeDepth := 99) [h]

@[simp] theorem State.maybeRelay_kept (h : State.Kept r s) {p : RxParts} {psdu : List Byte} : State.Kept r (s.maybeRelay p psdu) := by
  simp only [State.maybeRelay]; repeat' split
  all_goals simp +contextual (maxDischargeDepth := 99) [h]

@[simp] theorem State.cancelRelay_kept (h : State.Kept r s) {orig fcnt : Nat} : State.Kept r (s.cancelRelay orig fcnt) := by
  simp only [State.cancelRelay]; repeat' split
  all_goals simp +contextual (maxDischargeDepth := 99) [h]

@[simp] theorem State.setAnswer_kept (h : State.Kept r s) {a : Answer} : State.Kept r (s.setAnswer a) := by simp +contextual [State.setAnswer, h]

@[simp] theorem State.buoyAck_kept (h : State.Kept r s) {p : RxParts} : State.Kept r (s.buoyAck p) := by simp +contextual [State.buoyAck, h]

@[simp] theorem State.noteKeeper_kept (h : State.Kept r s) {p : RxParts} : State.Kept r (s.noteKeeper p) := by simp +contextual [State.noteKeeper, h]

@[simp] theorem State.buoyData_kept (h : State.Kept r s) {p : RxParts} {st : RxStart} {f : RxFrame} {acc : Accept} : State.Kept r (s.buoyData p st f acc) := by
  simp only [State.buoyData]; repeat' split
  all_goals simp +contextual (maxDischargeDepth := 99) [h]

@[simp] theorem State.takeAck_kept (h : State.Kept r s) {p : RxParts} {acked : Nat} {flood : Bool} : State.Kept r (s.takeAck p acked flood) := by
  unfold State.takeAck; repeat' split
  all_goals simp +contextual (maxDischargeDepth := 99) [h]

@[simp] theorem State.buoyAcked_kept (h : State.Kept r s) {p : RxParts} {acc : Accept} : State.Kept r (s.buoyAcked p acc) := by
  simp only [State.buoyAcked]; repeat' split
  all_goals simp +contextual (maxDischargeDepth := 99) [h]

@[simp] theorem State.joinAnswer_kept (h : State.Kept r s) {p : RxParts} {acc : Accept} : State.Kept r (s.joinAnswer p acc) := by
  unfold State.joinAnswer; repeat' split
  all_goals simp +contextual (maxDischargeDepth := 99) [h]

@[simp] theorem State.toldToLeave_kept (h : State.Kept r s) {p : RxParts} {acc : Accept} : State.Kept r (s.toldToLeave p acc) := by unfold State.toldToLeave; split <;> simp +contextual (maxDischargeDepth := 99) [h]

@[simp] theorem State.buoyFrame_kept (h : State.Kept r s) {p : RxParts} {psdu : List Byte} {st : RxStart} {f : RxFrame} : State.Kept r (s.buoyFrame p psdu st f) := by
  simp only [State.buoyFrame]; repeat' split
  all_goals simp +contextual (maxDischargeDepth := 99) [h]

@[simp] theorem State.endDown_kept (h : State.Kept r s) {o : Option Own} : State.Kept r (s.endDown o) := by
  unfold State.endDown; repeat' split
  all_goals simp +contextual (maxDischargeDepth := 99) [h]

@[simp] theorem State.keeperAck_kept (h : State.Kept r s) {p : RxParts} {i : Nat} {e : AssocEntry} {pend : Bool} : State.Kept r (s.keeperAck p i e pend) := by unfold State.keeperAck; split <;> simp +contextual (maxDischargeDepth := 99) [h]

@[simp] theorem State.keeperJoin_kept (h : State.Kept r s) {p : RxParts} {f : RxFrame} : State.Kept r (s.keeperJoin p f) := by
  simp only [State.keeperJoin]; repeat' split
  all_goals simp +contextual (maxDischargeDepth := 99) [h]

@[simp] theorem State.keeperData_kept (h : State.Kept r s) {p : RxParts} {st : RxStart} {f : RxFrame} : State.Kept r (s.keeperData p st f) := by
  simp only [State.keeperData]; repeat' split
  all_goals simp +contextual (maxDischargeDepth := 99) [h]

@[simp] theorem State.downDone_kept (h : State.Kept r s) {i acked : Nat} {e : AssocEntry} : State.Kept r (s.downDone i acked e) := by
  unfold State.downDone; repeat' split
  all_goals simp +contextual (maxDischargeDepth := 99) [h]

@[simp] theorem State.keeperAcked_kept (h : State.Kept r s) {p : RxParts} {f : RxFrame} : State.Kept r (s.keeperAcked p f) := by
  simp only [State.keeperAcked]; repeat' split
  all_goals simp +contextual (maxDischargeDepth := 99) [h]

@[simp] theorem State.keeperFrame_kept (h : State.Kept r s) {p : RxParts} {st : RxStart} {f : RxFrame} : State.Kept r (s.keeperFrame p st f) := by
  unfold State.keeperFrame; repeat' split
  all_goals simp +contextual (maxDischargeDepth := 99) [h]

@[simp] theorem State.scanDone_kept (h : State.Kept r s) : State.Kept r (s.scanDone) := by
  unfold State.scanDone; repeat' split
  all_goals simp +contextual (maxDischargeDepth := 99) [h]

@[simp] theorem State.countScan_kept (h : State.Kept r s) {got other : Nat} : State.Kept r (s.countScan got other) := by unfold State.countScan; split <;> simp +contextual (maxDischargeDepth := 99) [h]

@[simp] theorem State.scanFrame_kept (h : State.Kept r s) {f : RxFrame} {ok : Bool} {st : RxStart} : State.Kept r (s.scanFrame f ok st) := by
  simp only [State.scanFrame]; repeat' split
  all_goals simp +contextual (maxDischargeDepth := 99) [h]

@[simp] theorem State.scanFlash_kept (h : State.Kept r s) {p : RxParts} {f : RxFrame} : State.Kept r (s.scanFlash p f) := by simp +contextual (maxDischargeDepth := 99) [State.scanFlash, h]

@[simp] theorem State.windowEnd_kept (h : State.Kept r s) : State.Kept r (s.windowEnd) := by unfold State.windowEnd; split <;> simp +contextual (maxDischargeDepth := 99) [h]

@[simp] theorem State.badFrame_kept (h : State.Kept r s) : State.Kept r (s.badFrame) := by
  unfold State.badFrame; repeat' split
  all_goals simp +contextual (maxDischargeDepth := 99) [h]

@[simp] theorem State.meshFrame_kept (h : State.Kept r s) {p : RxParts} {psdu : List Byte} {st : RxStart} {f : RxFrame} : State.Kept r (s.meshFrame p psdu st f) := by
  simp only [State.meshFrame]; repeat' split
  all_goals simp +contextual (maxDischargeDepth := 99) [h]

@[simp] theorem State.frameReceived_kept (h : State.Kept r s) {f : RxFrame} : State.Kept r (s.frameReceived f) := by
  simp only [State.frameReceived]; repeat' split
  all_goals simp +contextual (maxDischargeDepth := 99) [h]

@[simp] theorem State.dwellEnd_kept (h : State.Kept r s) : State.Kept r (s.dwellEnd) := by unfold State.dwellEnd; split <;> simp +contextual (maxDischargeDepth := 99) [h]

@[simp] theorem State.sendAnswer_kept (h : State.Kept r s) : State.Kept r (s.sendAnswer) := by
  simp only [State.sendAnswer]; repeat' split
  all_goals simp +contextual (maxDischargeDepth := 99) [h]

@[simp] theorem State.sendDownlink_kept (h : State.Kept r s) : State.Kept r (s.sendDownlink) := by
  simp only [State.sendDownlink]; repeat' split
  all_goals simp +contextual (maxDischargeDepth := 99) [h]

@[simp] theorem State.sendFlash_kept (h : State.Kept r s) : State.Kept r (s.sendFlash) := by
  unfold State.sendFlash
  have ht : State.Kept r s.takeFcnt.2 := by simp [h]
  generalize s.takeFcnt = q at ht
  obtain ⟨o, u⟩ := q
  split
  · exact h
  · cases s.msh.cellKey <;> cases o <;> dsimp only
    · simp +contextual (maxDischargeDepth := 99) [ht]
    · simp +contextual (maxDischargeDepth := 99) [ht]
    · simp +contextual (maxDischargeDepth := 99) [ht]
    · split <;> simp +contextual (maxDischargeDepth := 99) [ht]

@[simp] theorem State.openFlashWindow_kept (h : State.Kept r s) : State.Kept r (s.openFlashWindow) := by
  unfold State.openFlashWindow; repeat' split
  all_goals simp +contextual (maxDischargeDepth := 99) [h]

@[simp] theorem State.unshutWindow_kept (h : State.Kept r s) : State.Kept r (s.unshutWindow) := by unfold State.unshutWindow; split <;> simp +contextual (maxDischargeDepth := 99) [h]

@[simp] theorem State.abandonWindow_kept (h : State.Kept r s) : State.Kept r (s.abandonWindow) := by unfold State.abandonWindow; split <;> simp +contextual (maxDischargeDepth := 99) [h]

@[simp] theorem State.closeFlashWindow_kept (h : State.Kept r s) : State.Kept r (s.closeFlashWindow) := by
  unfold State.closeFlashWindow; repeat' split
  all_goals simp +contextual (maxDischargeDepth := 99) [h]

@[simp] theorem State.startRelay_kept (h : State.Kept r s) : State.Kept r (s.startRelay) := by
  simp only [State.startRelay]; repeat' split
  all_goals simp +contextual (maxDischargeDepth := 99) [h]

@[simp] theorem State.startFlood_kept (h : State.Kept r s) {c : Nat} : State.Kept r (s.startFlood c) := by
  simp only [State.startFlood]; repeat' split
  all_goals simp +contextual (maxDischargeDepth := 99) [h]

@[simp] theorem State.floodNext_kept (h : State.Kept r s) : State.Kept r (s.floodNext) := by
  simp only [State.floodNext]; repeat' split
  all_goals simp +contextual (maxDischargeDepth := 99) [h]

@[simp] theorem State.sendRelay_kept (h : State.Kept r s) : State.Kept r (s.sendRelay) := by
  simp only [State.sendRelay]; repeat' split
  all_goals simp +contextual (maxDischargeDepth := 99) [h]

@[simp] theorem State.originate_kept (h : State.Kept r s) : State.Kept r (s.originate) := by
  unfold State.originate; repeat' split
  all_goals simp +contextual (maxDischargeDepth := 99) [h]

@[simp] theorem State.joinDue_kept (h : State.Kept r s) : State.Kept r (s.joinDue) := by
  simp only [State.joinDue]; repeat' split
  all_goals simp +contextual (maxDischargeDepth := 99) [h]

@[simp] theorem State.queueFog_kept (h : State.Kept r s) {e : FogEv} {g : Int} : State.Kept r (s.queueFog e g) := by simp +contextual [State.queueFog, h]

@[simp] theorem State.sendFog_kept (h : State.Kept r s) : State.Kept r (s.sendFog) := by
  simp only [State.sendFog]; repeat' split
  all_goals simp +contextual (maxDischargeDepth := 99) [h]

@[simp] theorem State.fogMinute_kept (h : State.Kept r s) : State.Kept r (s.fogMinute) := by
  unfold State.fogMinute
  split
  · split
    · exact h
    · dsimp only
      split
      · next e => have ht := govEnter_kept h e; simp [ht]
      · simp [h]
  · exact h

@[simp] theorem State.reportS6_kept (h : State.Kept r s) {len : Nat} : State.Kept r (s.reportS6 len) := by
  simp only [State.reportS6]; repeat' split
  all_goals simp +contextual (maxDischargeDepth := 99) [h]

@[simp] theorem State.buoyInterval_kept (h : State.Kept r s) {e : Nat} : State.Kept r (s.buoyInterval e) := by
  simp only [State.buoyInterval]; repeat' split
  all_goals simp +contextual (maxDischargeDepth := 99) [h]

@[simp] theorem State.superviseEntry_kept (h : State.Kept r s) {p : Nat × AssocEntry} : State.Kept r (s.superviseEntry p) := by
  simp only [State.superviseEntry]; repeat' split
  all_goals simp +contextual (maxDischargeDepth := 99) [h]

@[simp] theorem State.meshS6_kept (h : State.Kept r s) {len : Nat} : State.Kept r (s.meshS6 len) := by
  simp only [State.meshS6]; repeat' split
  all_goals simp +contextual (maxDischargeDepth := 99) [h]

@[simp] theorem State.drawCellKey_kept (h : State.Kept r s) : State.Kept r (s.drawCellKey) := by unfold State.drawCellKey; split <;> simp +contextual (maxDischargeDepth := 99) [h]

@[simp] theorem State.startRole_kept (h : State.Kept r s) : State.Kept r (s.startRole) := by
  simp only [State.startRole]; repeat' split
  all_goals simp +contextual (maxDischargeDepth := 99) [h]

@[simp] theorem State.clearMesh_kept (h : State.Kept r s) : State.Kept r (s.clearMesh) := by simp +contextual [State.clearMesh, h]

@[simp] theorem State.stopRole_kept (h : State.Kept r s) {role : Nat} : State.Kept r (s.stopRole role) := by simp +contextual (maxDischargeDepth := 99) [State.stopRole, h]

@[simp] theorem State.meshApply_kept (h : State.Kept r s) {old : Option Image} {new : Image} : State.Kept r (s.meshApply old new) := by
  simp only [State.meshApply]; repeat' split
  all_goals simp +contextual (maxDischargeDepth := 99) [h]

@[simp] theorem State.meshFault_kept (h : State.Kept r s) : State.Kept r (s.meshFault) := by simp +contextual (maxDischargeDepth := 99) [State.meshFault, h]

@[simp] theorem State.radioFacetEnd_kept (h : State.Kept r s) {kind : Nat} : State.Kept r (s.radioFacetEnd kind) := by
  simp only [State.radioFacetEnd]; repeat' split
  all_goals simp +contextual (maxDischargeDepth := 99) [h]

end Sys2Proof.Machine
end

