-- ==== Sys2Proof/Laws/KeptSchedule.lean ====
section
/-! SUPPORT. `State.Kept` for the operations of Schedule.lean. -/

namespace Sys2Proof.Machine

variable {r s : State}

@[simp] theorem State.resetRwp_kept (h : State.Kept r s) : State.Kept r (s.resetRwp) := by simp +contextual [State.resetRwp, h]

@[simp] theorem State.writeTunes_kept (h : State.Kept r s) {l : List (Nat × Nat)} : State.Kept r (s.writeTunes l) := by simp +contextual (maxDischargeDepth := 99) [State.writeTunes, h]

end Sys2Proof.Machine
end

