-- ==== Sys2Proof/Laws/KeptValidate.lean ====
section
/-! SUPPORT. `State.Kept` for the operations of Validate.lean. -/

namespace Sys2Proof.Machine

variable {r s : State}

@[simp] theorem State.withImage_kept (h : State.Kept r s) {img : Image} : State.Kept r (s.withImage img) := by simp +contextual (maxDischargeDepth := 99) [State.withImage, h]

@[simp] theorem State.touchStruct_kept (h : State.Kept r s) : State.Kept r (s.touchStruct) := by unfold State.touchStruct; split <;> simp +contextual (maxDischargeDepth := 99) [h]

@[simp] theorem State.writeMarked_kept (h : State.Kept r s) {a : Nat} {l : List (Byte × Bool)} {y0 : Nat} : State.Kept r (s.writeMarked a l y0) := by
  induction y0 generalizing s a l with
  | zero => exact h
  | succ n ih =>
    unfold State.writeMarked
    split
    · exact h
    · extract_lets now bs bad t
      exact ih (by simp only [t]; (repeat' split) <;> simp [h])

@[simp] theorem State.stage_kept (h : State.Kept r s) {a n : Nat} {struct : Bool} : State.Kept r (s.stage a n struct) := by unfold State.stage; split <;> simp +contextual (maxDischargeDepth := 99) [h]

@[simp] theorem State.stageStruct_kept (h : State.Kept r s) : State.Kept r (s.stageStruct) := by unfold State.stageStruct; split <;> simp +contextual (maxDischargeDepth := 99) [h]

@[simp] theorem State.checkStaged_kept (h : State.Kept r s) : State.Kept r (s.checkStaged).2 := by
  simp only [State.checkStaged]; repeat' split
  all_goals simp +contextual (maxDischargeDepth := 99) [h]

end Sys2Proof.Machine
end

