-- ==== Sys2Proof/Laws/KeptDeviceFault.lean ====
section
/-! SUPPORT. `State.Kept` for the operations of DeviceFault.lean. -/

namespace Sys2Proof.Machine

variable {r s : State}

@[simp] theorem State.setRot_kept (h : State.Kept r s) {f : Rot → Rot} : State.Kept r (s.setRot f) := by simp +contextual [State.setRot, h]

@[simp] theorem State.setPwr_kept (h : State.Kept r s) {f : Pwr → Pwr} : State.Kept r (s.setPwr f) := by simp +contextual [State.setPwr, h]

@[simp] theorem State.raiseFog_kept (h : State.Kept r s) {code : Nat} {data : List Byte} : State.Kept r (s.raiseFog code data) := by
  simp only [State.raiseFog]; repeat' split
  all_goals simp +contextual (maxDischargeDepth := 99) [h]

@[simp] theorem State.zeroMem_kept (h : State.Kept r s) {b : Nat} : State.Kept r (s.zeroMem b) := by unfold State.zeroMem; split <;> simp +contextual (maxDischargeDepth := 99) [h]

@[simp] theorem State.captureLost_kept (h : State.Kept r s) : State.Kept r (s.captureLost) := by simp +contextual [State.captureLost, h]

@[simp] theorem State.keeperLost_kept (h : State.Kept r s) {b : Nat} : State.Kept r (s.keeperLost b) := by simp +contextual [State.keeperLost, h]

@[simp] theorem State.checkMem_kept (h : State.Kept r s) {b : Nat} {keep : Bool} : State.Kept r (s.checkMem b keep).2 := by
  unfold State.checkMem; repeat' split
  all_goals simp +contextual (maxDischargeDepth := 99) [h]

@[simp] theorem State.checkRetained_kept (h : State.Kept r s) : State.Kept r (s.checkRetained).2 := by simp +contextual [State.checkRetained, h]

@[simp] theorem State.advanceEpoch_kept (h : State.Kept r s) {cause : Nat} : State.Kept r (s.advanceEpoch cause) := by simp +contextual (maxDischargeDepth := 99) [State.advanceEpoch, h]

@[simp] theorem State.stopMeasuring_kept (h : State.Kept r s) : State.Kept r (s.stopMeasuring) := by simp +contextual (maxDischargeDepth := 99) [State.stopMeasuring, h]

@[simp] theorem State.tearNvm_kept (h : State.Kept r s) : State.Kept r (s.tearNvm) := by unfold State.tearNvm; split <;> simp +contextual (maxDischargeDepth := 99) [h]

@[simp] theorem State.dropLinkOps_kept (h : State.Kept r s) : State.Kept r (s.dropLinkOps) := by simp +contextual [State.dropLinkOps, h]

@[simp] theorem State.commitRunsOn_kept (h : State.Kept r s) : State.Kept r (s.commitRunsOn) := by simp +contextual [State.commitRunsOn, h]

@[simp] theorem State.discardWork_kept (h : State.Kept r s) : State.Kept r (s.discardWork) := by simp +contextual (maxDischargeDepth := 99) [State.discardWork, h]

@[simp] theorem State.disarmLoad_kept (h : State.Kept r s) : State.Kept r (s.disarmLoad) := by
  simp only [State.disarmLoad]; repeat' split
  all_goals simp +contextual (maxDischargeDepth := 99) [h]

@[simp] theorem State.lensFault_kept (h : State.Kept r s) : State.Kept r (s.lensFault) := by unfold State.lensFault; split <;> simp +contextual (maxDischargeDepth := 99) [h]

@[simp] theorem State.sleepCut_kept (h : State.Kept r s) : State.Kept r (s.sleepCut) := by unfold State.sleepCut; split <;> simp +contextual (maxDischargeDepth := 99) [h]

@[simp] theorem State.faultWith_kept (h : State.Kept r s) {cause : Nat} {own : State → State} (hown : ∀ t, State.Kept r t → State.Kept r (own t)) : State.Kept r (s.faultWith cause own) := by simp +contextual (maxDischargeDepth := 99) [State.faultWith, h, hown]

@[simp] theorem State.plainFault_kept (h : State.Kept r s) {cause : Nat} : State.Kept r (s.plainFault cause) := by simp +contextual [State.plainFault, h]

@[simp] theorem State.bankFault_kept (h : State.Kept r s) : State.Kept r (s.bankFault) := by simp +contextual [State.bankFault, h]

@[simp] theorem State.afterBrownout_kept (h : State.Kept r s) : State.Kept r (s.afterBrownout) := by
  simp only [State.afterBrownout]; repeat' split
  all_goals simp +contextual (maxDischargeDepth := 99) [h]

@[simp] theorem State.bankLost_kept (h : State.Kept r s) : State.Kept r (s.bankLost) := by simp +contextual [State.bankLost, h]

@[simp] theorem State.wakeAccess_kept (h : State.Kept r s) {r' : Nat} : State.Kept r (s.wakeAccess r') := by
  simp only [State.wakeAccess]; repeat' split
  all_goals simp +contextual (maxDischargeDepth := 99) [h]

@[simp] theorem State.hostTouch_kept (h : State.Kept r s) {a : Nat} : State.Kept r (s.hostTouch a) := by
  simp only [State.hostTouch]; repeat' split
  all_goals simp +contextual (maxDischargeDepth := 99) [h]

@[simp] theorem State.resetDomains_kept (h : State.Kept r s) : State.Kept r (s.resetDomains) := by simp +contextual (maxDischargeDepth := 99) [State.resetDomains, h]

@[simp] theorem State.faultAll_kept (h : State.Kept r s) {cs : List Nat} {own : State → State} (hown : ∀ t, State.Kept r t → State.Kept r (own t)) : State.Kept r (s.faultAll cs own) := by
  unfold State.faultAll; repeat' split
  all_goals simp +contextual (maxDischargeDepth := 99) [h, hown]

@[simp] theorem State.deviceFault_kept (h : State.Kept r s) {cause also : Nat} : State.Kept r (s.deviceFault cause also) := by
  simp only [State.deviceFault]; repeat' split
  all_goals simp +contextual (maxDischargeDepth := 99) [h]

@[simp] theorem State.startBoot_kept (h : State.Kept r s) : State.Kept r (s.startBoot) := by simp +contextual [State.startBoot, h]

@[simp] theorem State.recover_kept (h : State.Kept r s) : State.Kept r (s.recover) := by
  simp only [State.recover]; repeat' split
  all_goals simp +contextual (maxDischargeDepth := 99) [h]

@[simp] theorem State.restoreAll_kept (h : State.Kept r s) {cold : Bool} : State.Kept r (s.restoreAll cold) := by
  simp only [State.restoreAll]; repeat' split
  all_goals simp +contextual (maxDischargeDepth := 99) [h]

@[simp] theorem State.correctStore_kept (h : State.Kept r s) {sym : Nat} : State.Kept r (s.correctStore sym) := by simp +contextual [State.correctStore, h]

@[simp] theorem State.storeLost_kept (h : State.Kept r s) : State.Kept r (s.storeLost) := by simp +contextual (maxDischargeDepth := 99) [State.storeLost, h]

@[simp] theorem State.checkedS3_kept (h : State.Kept r s) {d rotEnd : Nat} {shotRot : Bool} : State.Kept r (s.checkedS3 d rotEnd shotRot).2 := by unfold State.checkedS3; split <;> simp +contextual (maxDischargeDepth := 99) [h]

@[simp] theorem State.bootLedger_kept (h : State.Kept r s) {aon : Bool} : State.Kept r (s.bootLedger aon) := by
  unfold State.bootLedger; repeat' split
  all_goals simp +contextual (maxDischargeDepth := 99) [h]

end Sys2Proof.Machine
end

