-- ==== Sys2Proof/Laws/KeptPower.lean ====
section
/-! SUPPORT. `State.Kept` for the operations of Power.lean. -/

namespace Sys2Proof.Machine

variable {r s : State}

@[simp] theorem State.dropWake_kept (h : State.Kept r s) {k : Nat} : State.Kept r (s.dropWake k) := by simp +contextual [State.dropWake, h]

@[simp] theorem State.wakeStage_kept (h : State.Kept r s) {k us : Nat} : State.Kept r (s.wakeStage k us) := by
  simp only [State.wakeStage]; repeat' split
  all_goals simp +contextual (maxDischargeDepth := 99) [h]

@[simp] theorem State.endLink_kept (h : State.Kept r s) : State.Kept r (s.endLink) := by simp +contextual (maxDischargeDepth := 99) [State.endLink, h]

@[simp] theorem State.endEntry_kept (h : State.Kept r s) : State.Kept r (s.endEntry) := by
  simp only [State.endEntry]; repeat' split
  all_goals simp +contextual (maxDischargeDepth := 99) [h]

@[simp] theorem State.slinkDone_kept (h : State.Kept r s) {t : Slink} {n : Nat} : State.Kept r (s.slinkDone t n) := by
  unfold State.slinkDone; repeat' split
  all_goals simp +contextual (maxDischargeDepth := 99) [h]

@[simp] theorem State.supplyEvt_kept (h : State.Kept r s) {f : Fld} : State.Kept r (s.supplyEvt f) := by unfold State.supplyEvt; split <;> simp +contextual (maxDischargeDepth := 99) [h]

@[simp] theorem State.slinkFail_kept (h : State.Kept r s) {t : Slink} {upper lower also : Nat} : State.Kept r (s.slinkFail t upper lower also) := by
  unfold State.slinkFail; repeat' split
  all_goals simp +contextual (maxDischargeDepth := 99) [h]

@[simp] theorem State.slinkAttempt_kept (h : State.Kept r s) {ack : Option (Byte × Byte)} {also : Nat} : State.Kept r (s.slinkAttempt ack also) := by
  simp only [State.slinkAttempt]; repeat' split
  all_goals simp +contextual (maxDischargeDepth := 99) [h]

@[simp] theorem State.transitionTimeout_kept (h : State.Kept r s) {also : Nat} : State.Kept r (s.transitionTimeout also) := by
  unfold State.transitionTimeout; repeat' split
  all_goals simp +contextual (maxDischargeDepth := 99) [h]

@[simp] theorem State.vdrvSettle_kept (h : State.Kept r s) : State.Kept r (s.vdrvSettle) := by unfold State.vdrvSettle; split <;> simp +contextual (maxDischargeDepth := 99) [h]

theorem execVdrvSettle_kept {z : State} (h : State.Kept r s)  (e : execVdrvSettle s = .next z) : State.Kept r z := by
  simp only [execVdrvSettle, State.run, Host.Outcome.next.injEq] at e; subst e
  split <;> simp +contextual (maxDischargeDepth := 99) [h]

@[simp] theorem State.requestVdrv_kept (h : State.Kept r s) : State.Kept r (s.requestVdrv) := by simp +contextual [State.requestVdrv, h]

@[simp] theorem State.startSlink_kept (h : State.Kept r s) {i : Nat} : State.Kept r (s.startSlink i) := by
  simp only [State.startSlink]; repeat' split
  all_goals simp +contextual (maxDischargeDepth := 99) [h]

@[simp] theorem State.holdDoms_kept (h : State.Kept r s) {v : Nat} : State.Kept r (s.holdDoms v) := by simp +contextual [State.holdDoms, h]

@[simp] theorem State.sleepTake_kept (h : State.Kept r s) {off : Bool} {r' : SleepRun} {k : Nat} : State.Kept r (s.sleepTake off r' k).2 := by
  unfold State.sleepTake; repeat' split
  all_goals simp +contextual (maxDischargeDepth := 99) [h]

@[simp] theorem State.wakeWhole_kept (h : State.Kept r s) {k : Nat} : State.Kept r (s.wakeWhole k) := by
  simp only [State.wakeWhole]; repeat' split
  all_goals simp +contextual (maxDischargeDepth := 99) [h]

@[simp] theorem State.wakeBack_kept (h : State.Kept r s) {k : Nat} : State.Kept r (s.wakeBack k) := by unfold State.wakeBack; split <;> simp +contextual (maxDischargeDepth := 99) [h]

@[simp] theorem State.sleepRestore_kept (h : State.Kept r s) {taken : List Nat} {holds : Nat} : State.Kept r (s.sleepRestore taken holds).2 := by simp +contextual (maxDischargeDepth := 99) [State.sleepRestore, h]

@[simp] theorem State.sleepEnd_kept (h : State.Kept r s) {status dom reason cost : Nat} : State.Kept r (s.sleepEnd status dom reason cost) := by simp +contextual [State.sleepEnd, h]

@[simp] theorem State.sleepOff_kept (h : State.Kept r s) {off : Bool} {l : List Nat} : State.Kept r (s.sleepOff off l).2 := by
  unfold State.sleepOff
  split
  · simp +contextual (maxDischargeDepth := 99) [kept_ite_iff, h]
  · simp [kept_ite_iff, h]

@[simp] theorem State.sleepStop_kept (h : State.Kept r s) {taken : List Nat} {holds cost : Nat} : State.Kept r (s.sleepStop taken holds cost) := by simp +contextual [State.sleepStop, h]

@[simp] theorem State.sleepRun_kept (h : State.Kept r s) {stop : Option Nat} : State.Kept r (s.sleepRun stop) := by
  simp only [State.sleepRun]; repeat' split
  all_goals simp +contextual (maxDischargeDepth := 99) [h]

@[simp] theorem State.sleepPreempted_kept (h : State.Kept r s) : State.Kept r (s.sleepPreempted) := by unfold State.sleepPreempted; split <;> simp +contextual (maxDischargeDepth := 99) [h]

@[simp] theorem State.sleepWrite_kept (h : State.Kept r s) {v : Nat} : State.Kept r (s.sleepWrite v) := by
  simp only [State.sleepWrite]; repeat' split
  all_goals simp +contextual (maxDischargeDepth := 99) [h]

@[simp] theorem State.sleepStart_kept (h : State.Kept r s) {stop : Option Nat} : State.Kept r (s.sleepStart stop) := by
  simp only [State.sleepStart]; repeat' split
  all_goals simp +contextual (maxDischargeDepth := 99) [h]

theorem execSleepSetStart_kept {z : State} (h : State.Kept r s) {stop : Option Nat} (e : execSleepSetStart stop s = .next z) : State.Kept r z := by
  simp only [execSleepSetStart, State.run, Host.Outcome.next.injEq] at e; subst e
  split <;> simp +contextual (maxDischargeDepth := 99) [h]

@[simp] theorem State.powerFailLedger_kept (h : State.Kept r s) {t : Nat} : State.Kept r (s.powerFailLedger t) := by unfold State.powerFailLedger; split <;> simp +contextual (maxDischargeDepth := 99) [h]

@[simp] theorem State.powerFail_kept (h : State.Kept r s) {t : Nat} : State.Kept r (s.powerFail t) := by unfold State.powerFail; split <;> simp +contextual (maxDischargeDepth := 99) [h]

theorem execPowerFailWarning_kept {z : State} (h : State.Kept r s) {t : Nat} (e : execPowerFailWarning t s = .next z) : State.Kept r z := by
  simp only [execPowerFailWarning, State.run, Host.Outcome.next.injEq] at e; subst e
  split <;> simp +contextual (maxDischargeDepth := 99) [h]

@[simp] theorem State.supplyBack_kept (h : State.Kept r s) : State.Kept r (s.supplyBack) := by unfold State.supplyBack; split <;> simp +contextual (maxDischargeDepth := 99) [h]

theorem execSupplyRecovered_kept {z : State} (h : State.Kept r s)  (e : execSupplyRecovered s = .next z) : State.Kept r z := by
  simp only [execSupplyRecovered, State.run, Host.Outcome.next.injEq] at e; subst e
  split <;> simp +contextual (maxDischargeDepth := 99) [h]

theorem execRetentionMonitorTrip_kept {z : State} (h : State.Kept r s) {b : Fin 17} (e : execRetentionMonitorTrip b s = .next z) : State.Kept r z := by
  simp only [execRetentionMonitorTrip, State.run, Host.Outcome.next.injEq] at e; subst e
  repeat' split
  all_goals simp +contextual (maxDischargeDepth := 99) [h]

@[simp] theorem State.vbatLoaded_kept (h : State.Kept r s) {mv : Nat} : State.Kept r (s.vbatLoaded mv) := by
  simp only [State.vbatLoaded]; repeat' split
  all_goals simp +contextual (maxDischargeDepth := 99) [h]

end Sys2Proof.Machine
end

