-- ==== Sys2Proof/Laws/KeptRtc.lean ====
section
/-! SUPPORT. `State.Kept` for the operations of Rtc.lean. -/

namespace Sys2Proof.Machine

variable {r s : State}

@[simp] theorem State.setTime_kept (h : State.Kept r s) {t : Cal.Time} : State.Kept r (s.setTime t) := by simp +contextual [State.setTime, h]

@[simp] theorem State.fireAlarm_kept (h : State.Kept r s) {a : Nat} {skipped : Bool} : State.Kept r (s.fireAlarm a skipped) := by
  simp only [State.fireAlarm]; repeat' split
  all_goals simp +contextual (maxDischargeDepth := 99) [h]

@[simp] theorem State.alarmsAt_kept (h : State.Kept r s) {t : Cal.Time} : State.Kept r (s.alarmsAt t) := by
  simp +contextual (maxDischargeDepth := 99) [State.alarmsAt, h]; repeat' split
  all_goals simp +contextual (maxDischargeDepth := 99) [h]

@[simp] theorem State.alarmsAtCommit_kept (h : State.Kept r s) {old new : Cal.Time} : State.Kept r (s.alarmsAtCommit old new) := by
  simp +contextual (maxDischargeDepth := 99) [State.alarmsAtCommit, h]; repeat' split
  all_goals simp +contextual (maxDischargeDepth := 99) [h]

@[simp] theorem State.setCorr_kept (h : State.Kept r s) {c : Int} : State.Kept r (s.setCorr c) := by simp +contextual [State.setCorr, h]

@[simp] theorem State.takeCorr_kept (h : State.Kept r s) : State.Kept r (s.takeCorr) := by unfold State.takeCorr; split <;> simp +contextual (maxDischargeDepth := 99) [h]

@[simp] theorem State.rtcTick_kept (h : State.Kept r s) : State.Kept r (s.rtcTick) := by
  simp only [State.rtcTick]; repeat' split
  all_goals simp +contextual (maxDischargeDepth := 99) [h]

@[simp] theorem State.unfreeze_kept (h : State.Kept r s) : State.Kept r (s.unfreeze) := by simp +contextual [State.unfreeze, h]

@[simp] theorem State.timeRead_kept (h : State.Kept r s) {f : Nat} : State.Kept r (s.timeRead f).2 := by
  unfold State.timeRead; repeat' split
  all_goals simp +contextual (maxDischargeDepth := 99) [h]

@[simp] theorem State.freezeTimeout_kept (h : State.Kept r s) : State.Kept r (s.freezeTimeout) := by unfold State.freezeTimeout; split <;> simp +contextual (maxDischargeDepth := 99) [h]

@[simp] theorem State.rtcPend_kept (h : State.Kept r s) {f v : Nat} : State.Kept r (s.rtcPend f v) := by simp +contextual [State.rtcPend, h]

@[simp] theorem State.rtcDiscard_kept (h : State.Kept r s) : State.Kept r (s.rtcDiscard) := by simp +contextual [State.rtcDiscard, h]

@[simp] theorem State.rtcCommit_kept (h : State.Kept r s) : State.Kept r (s.rtcCommit) := by
  simp only [State.rtcCommit]; repeat' split
  all_goals simp +contextual (maxDischargeDepth := 99) [h]

@[simp] theorem State.recompute_kept (h : State.Kept r s) {temp : BitVec 16} : State.Kept r (s.recompute temp) := by simp +contextual (maxDischargeDepth := 99) [State.recompute, h]

@[simp] theorem State.trimWrite_kept (h : State.Kept r s) {v : Nat} : State.Kept r (s.trimWrite v) := by simp +contextual [State.trimWrite, h]

@[simp] theorem State.bkpLoss_kept (h : State.Kept r s) : State.Kept r (s.bkpLoss) := by simp +contextual [State.bkpLoss, h]

theorem execFreezeTimeout_kept {z : State} (h : State.Kept r s)  (e : execFreezeTimeout s = .next z) : State.Kept r z := by
  simp only [execFreezeTimeout, State.run, Host.Outcome.next.injEq] at e; subst e
  repeat' split
  all_goals simp +contextual (maxDischargeDepth := 99) [h]

theorem execBkpPowerLoss_kept {z : State} (h : State.Kept r s)  (e : execBkpPowerLoss s = .next z) : State.Kept r z := by
  simp only [execBkpPowerLoss, State.run, Host.Outcome.next.injEq] at e; subst e
  repeat' split
  all_goals simp +contextual (maxDischargeDepth := 99) [h]

theorem execRateRecompute_kept {z : State} (h : State.Kept r s) {temp : BitVec 16} (e : execRateRecompute temp s = .next z) : State.Kept r z := by
  simp only [execRateRecompute, State.run, Host.Outcome.next.injEq] at e; subst e
  split <;> simp +contextual (maxDischargeDepth := 99) [h]

theorem execHourAdvance_kept {z : State} (h : State.Kept r s) {temp : BitVec 16} (e : execHourAdvance temp s = .next z) : State.Kept r z := by
  simp only [execHourAdvance, State.run, Host.Outcome.next.injEq] at e; subst e
  split <;> simp +contextual (maxDischargeDepth := 99) [h]

end Sys2Proof.Machine
end

