-- ==== Sys2Proof/Laws/KeptApply.lean ====
section
/-! SUPPORT. `State.Kept` for the operations of Apply.lean. -/

namespace Sys2Proof.Machine

variable {r s : State}

@[simp] theorem State.startLoad_kept (h : State.Kept r s) {i : Nat} : State.Kept r (s.startLoad i) := by
  simp only [State.startLoad]; repeat' split
  all_goals simp +contextual (maxDischargeDepth := 99) [h]

@[simp] theorem State.radioOff_kept (h : State.Kept r s) : State.Kept r (s.radioOff) := by unfold State.radioOff; split <;> simp +contextual (maxDischargeDepth := 99) [h]

@[simp] theorem State.clearImageRegs_kept (h : State.Kept r s) : State.Kept r (s.clearImageRegs) :=
  State.fsetAll_kept (State.setRegs_kept (State.setRegs_kept h))

@[simp] theorem State.dropImage_kept (h : State.Kept r s) : State.Kept r (s.dropImage) := by
  unfold State.dropImage; split
  · exact h
  · rename_i old _
    extract_lets s1 s2 s3
    have h1 : State.Kept r s1 := by simp +contextual (maxDischargeDepth := 99) [s1, h]
    have h2 : State.Kept r s2 := State.clearImageRegs_kept (kept_mk h1)
    have h3 : State.Kept r s3 := by
      unfold s3; split <;> simp [h2]
    clear_value s3
    simp +contextual (maxDischargeDepth := 99) [h3]

@[simp] theorem State.validationDone_kept (h : State.Kept r s) : State.Kept r (s.validationDone) := by
  simp only [State.validationDone]; repeat' split
  all_goals simp +contextual (maxDischargeDepth := 99) [h]

@[simp] theorem State.cancelCommits_kept (h : State.Kept r s) : State.Kept r (s.cancelCommits) := by simp +contextual [State.cancelCommits, h]

@[simp] theorem State.applySchedule_kept (h : State.Kept r s) {img : Image} : State.Kept r (s.applySchedule img) := by simp +contextual [State.applySchedule, h]

@[simp] theorem State.applyChords_kept (h : State.Kept r s) {img : Image} : State.Kept r (s.applyChords img) := by
  unfold State.applyChords
  apply kept_foldl h; intro t n ht
  apply State.presetGain_kept
  split <;> simp [ht]

@[simp] theorem State.clearCensus_kept (h : State.Kept r s) : State.Kept r (s.clearCensus) := by simp +contextual (maxDischargeDepth := 99) [State.clearCensus, h]

@[simp] theorem State.applyRest_kept (h : State.Kept r s) {img : Image} : State.Kept r (s.applyRest img) := by simp +contextual (maxDischargeDepth := 99) [State.applyRest, h]

@[simp] theorem State.reloadFaults_kept (h : State.Kept r s) {cs : List Nat} : State.Kept r (s.reloadFaults cs) := by
  unfold State.reloadFaults; repeat' split
  all_goals simp +contextual (maxDischargeDepth := 99) [h]

@[simp] theorem State.applyImage_kept (h : State.Kept r s) {temp : BitVec 16} {cs : List Nat} : State.Kept r (s.applyImage temp cs) := by
  unfold State.applyImage
  extract_lets s1 s2 s3 img old s4 s5 s6 s7 s8 s9 s10 s11 s12 s13 bands u s14
  have h1 : State.Kept r s1 := by simp +contextual (maxDischargeDepth := 99) [s1, h]
  have h3 : State.Kept r s3 := by simp +contextual (maxDischargeDepth := 99) [s3, s2, h1]
  have h6 : State.Kept r s6 := by
    have h4 : State.Kept r s4 := kept_mk h3
    simp +contextual (maxDischargeDepth := 99) [s6, s5, h4]
  have h9 : State.Kept r s9 := by simp +contextual (maxDischargeDepth := 99) [s9, s8, s7, h6]
  have h13 : State.Kept r s13 := by simp +contextual (maxDischargeDepth := 99) [s13, s12, s11, s10, h9]
  clear_value s13
  exact State.reloadFaults_kept (State.applyRest_kept (kept_mk h13))

@[simp] theorem State.censusChords_kept (h : State.Kept r s) : State.Kept r (s.censusChords) := by
  simp +contextual (maxDischargeDepth := 99) [State.censusChords, kept_ite_iff, h]

@[simp] theorem State.restartCensus_kept (h : State.Kept r s) : State.Kept r (s.restartCensus) := by
  simp +contextual (maxDischargeDepth := 99) [State.restartCensus, kept_ite_iff, h]

@[simp] theorem State.apply1Work_kept (h : State.Kept r s) {rises : List (Option Nat)} : State.Kept r (s.apply1Work rises) := by
  simp only [State.apply1Work]; repeat' split
  all_goals simp +contextual (maxDischargeDepth := 99) [h]

theorem execApply1Work_kept {z : State} (h : State.Kept r s) {rises : List (Option Nat)} (e : execApply1Work rises s = .next z) : State.Kept r z := by
  simp only [execApply1Work, State.run, Host.Outcome.next.injEq] at e; subst e
  split <;> simp +contextual (maxDischargeDepth := 99) [h]

@[simp] theorem State.apply2Work_kept (h : State.Kept r s) : State.Kept r (s.apply2Work) := by
  simp only [State.apply2Work]; repeat' split
  all_goals simp +contextual (maxDischargeDepth := 99) [h]

theorem execApply2Work_kept {z : State} (h : State.Kept r s)  (e : execApply2Work s = .next z) : State.Kept r z := by
  simp only [execApply2Work, State.run, Host.Outcome.next.injEq] at e; subst e
  split <;> simp +contextual (maxDischargeDepth := 99) [h]

@[simp] theorem State.endApply_kept (h : State.Kept r s) : State.Kept r (s.endApply) := by
  unfold State.endApply; repeat' split
  all_goals simp +contextual (maxDischargeDepth := 99) [h]

end Sys2Proof.Machine
end

