-- ==== Sys2Proof/Laws/KeptMemOps.lean ====
section
/-! SUPPORT. `State.Kept` for the operations of MemOps.lean. -/

namespace Sys2Proof.Machine

variable {r s : State}

@[simp] theorem State.setMemu_kept (h : State.Kept r s) {f : Memu → Memu} : State.Kept r (s.setMemu f) := by simp +contextual [State.setMemu, h]

@[simp] theorem State.startScrub_kept (h : State.Kept r s) {i : Nat} : State.Kept r (s.startScrub i) := by simp +contextual (maxDischargeDepth := 99) [State.startScrub, h]

@[simp] theorem State.countUp_kept (h : State.Kept r s) {a : Nat} : State.Kept r (s.countUp a) := by simp +contextual [State.countUp, h]

@[simp] theorem State.scrubRest_kept (h : State.Kept r s) : State.Kept r (s.scrubRest) := by unfold State.scrubRest; split <;> simp +contextual (maxDischargeDepth := 99) [h]

@[simp] theorem State.scrubOpen_kept (h : State.Kept r s) {a : Nat} : State.Kept r (s.scrubOpen a) := by
  simp only [State.scrubOpen]; repeat' split
  all_goals simp +contextual (maxDischargeDepth := 99) [h]

@[simp] theorem State.scrubAt_kept (h : State.Kept r s) {a : Nat} : State.Kept r (s.scrubAt a) := by
  simp only [State.scrubAt]; repeat' split
  all_goals simp +contextual (maxDischargeDepth := 99) [h]

@[simp] theorem State.endScrub_kept (h : State.Kept r s) {i status upper : Nat} : State.Kept r (s.endScrub i status upper) := by simp +contextual (maxDischargeDepth := 99) [State.endScrub, h]

@[simp] theorem State.scrubWord_kept (h : State.Kept r s) : State.Kept r (s.scrubWord) := by
  simp only [State.scrubWord]; repeat' split
  all_goals simp +contextual (maxDischargeDepth := 99) [h]

@[simp] theorem State.logSnapshot_kept (h : State.Kept r s) : State.Kept r (s.logSnapshot) := by simp +contextual [State.logSnapshot, h]

@[simp] theorem State.logClear_kept (h : State.Kept r s) : State.Kept r (s.logClear) := by simp +contextual [State.logClear, h]

@[simp] theorem State.retireRow_kept (h : State.Kept r s) {b r' : Nat} : State.Kept r (s.retireRow b r') := by
  unfold State.retireRow; repeat' split
  all_goals simp +contextual (maxDischargeDepth := 99) [h]

@[simp] theorem State.readRow_kept (h : State.Kept r s) {a y0 : Nat} : State.Kept r (s.readRow a y0).2 := by
  induction y0 generalizing s a with
  | zero => simp [State.readRow, h]
  | succ _ ih => simp +contextual (maxDischargeDepth := 99) [State.readRow, h, ih]

@[simp] theorem State.storeRow_kept (h : State.Kept r s) {a : Nat} {y0 : List WordRead} : State.Kept r (s.storeRow a y0) := by
  induction y0 generalizing s a with
  | nil => simp [State.storeRow, h]
  | cons _ _ ih =>
    unfold State.storeRow; repeat' split
    all_goals simp +contextual (maxDischargeDepth := 99) [h, ih]

@[simp] theorem State.rowCopyDone_kept (h : State.Kept r s) : State.Kept r (s.rowCopyDone) := by unfold State.rowCopyDone; split <;> simp +contextual (maxDischargeDepth := 99) [h]

@[simp] theorem State.retirePage_kept (h : State.Kept r s) {q : Nat} : State.Kept r (s.retirePage q) := by
  simp only [State.retirePage]; repeat' split
  all_goals simp +contextual (maxDischargeDepth := 99) [h]

@[simp] theorem State.startNvm_kept (h : State.Kept r s) {i : Nat} : State.Kept r (s.startNvm i) := by simp +contextual [State.startNvm, h]

@[simp] theorem State.programFrom_kept (h : State.Kept r s) {src dst : Nat} {bad : Bool} : State.Kept r (s.programFrom src dst bad).2.2 := by unfold State.programFrom; split <;> simp +contextual (maxDischargeDepth := 99) [h]

@[simp] theorem State.programPage_kept (h : State.Kept r s) {src dst w : Nat} {bad : Option Nat} {y0 : Nat} : State.Kept r (s.programPage src dst w bad y0).2.2 := by
  induction y0 generalizing s src dst w bad with
  | zero => simp [State.programPage, h]
  | succ _ ih => simp +contextual (maxDischargeDepth := 99) [State.programPage, h, ih]

@[simp] theorem State.nvmAttempt_kept (h : State.Kept r s) {bad : Option Nat} : State.Kept r (s.nvmAttempt bad) := by
  simp only [State.nvmAttempt]; repeat' split
  all_goals simp +contextual (maxDischargeDepth := 99) [h]

@[simp] theorem State.flipArm_kept (h : State.Kept r s) {region : Nat} : State.Kept r (s.flipArm region) := by simp +contextual [State.flipArm, h]

@[simp] theorem State.flipDisarm_kept (h : State.Kept r s) : State.Kept r (s.flipDisarm) := by simp +contextual (maxDischargeDepth := 99) [State.flipDisarm, h]

@[simp] theorem State.policyWrite_kept (h : State.Kept r s) {v : Nat} : State.Kept r (s.policyWrite v) := by simp +contextual [State.policyWrite, h]

end Sys2Proof.Machine
end

