-- ==== Sys2Proof/Laws/KeptLens.lean ====
section
/-! SUPPORT. `State.Kept` for the operations of Lens.lean. -/

namespace Sys2Proof.Machine

variable {r s : State}

@[simp] theorem State.showNow_kept (h : State.Kept r s) : State.Kept r (s.showNow) := by simp +contextual [State.showNow, h]

@[simp] theorem State.setLft_kept (h : State.Kept r s) {n : Nat} : State.Kept r (s.setLft n) := by simp +contextual [State.setLft, h]

@[simp] theorem State.startBg_kept (h : State.Kept r s) {i : Nat} : State.Kept r (s.startBg i) := by
  simp only [State.startBg]; repeat' split
  all_goals simp +contextual (maxDischargeDepth := 99) [h]

@[simp] theorem State.bgNext_kept (h : State.Kept r s) {y0 : Nat} : State.Kept r (s.bgNext y0) := by
  induction y0 generalizing s with
  | zero => simp [State.bgNext, h]
  | succ _ ih =>
    unfold State.bgNext; repeat' split
    all_goals simp +contextual (maxDischargeDepth := 99) [h, ih]

@[simp] theorem State.background_kept (h : State.Kept r s) : State.Kept r (s.background) := by
  unfold State.background; repeat' split
  all_goals simp +contextual (maxDischargeDepth := 99) [h]

@[simp] theorem State.writeNext_kept (h : State.Kept r s) : State.Kept r (s.writeNext) := by
  unfold State.writeNext; repeat' split
  all_goals simp +contextual (maxDischargeDepth := 99) [h]

@[simp] theorem State.nvmNext_kept (h : State.Kept r s) : State.Kept r (s.nvmNext) := by
  simp only [State.nvmNext]; repeat' split
  all_goals simp +contextual (maxDischargeDepth := 99) [h]

@[simp] theorem State.lensRole_kept (h : State.Kept r s) : State.Kept r (s.lensRole) := by
  simp only [State.lensRole]; repeat' split
  all_goals simp +contextual (maxDischargeDepth := 99) [h]

@[simp] theorem State.latchTemps_kept (h : State.Kept r s) {cs : List ChordCfg} : State.Kept r (s.latchTemps cs) := by simp +contextual (maxDischargeDepth := 99) [State.latchTemps, h]

@[simp] theorem State.startWork_kept (h : State.Kept r s) : State.Kept r (s.startWork) := by unfold State.startWork; split <;> simp +contextual (maxDischargeDepth := 99) [h]

@[simp] theorem State.serveEntry_kept (h : State.Kept r s) : State.Kept r (s.serveEntry) := by unfold State.serveEntry; split <;> simp +contextual (maxDischargeDepth := 99) [h]

theorem execSupplyLinkAttempt_kept {z : State} (h : State.Kept r s) {x : LinkEnd} (e : execSupplyLinkAttempt x s = .next z) : State.Kept r z := by
  simp only [execSupplyLinkAttempt, State.run, Host.Outcome.next.injEq] at e; subst e
  split <;> simp +contextual (maxDischargeDepth := 99) [h]

theorem execDomainTransitionTimeout_kept {z : State} (h : State.Kept r s)  (e : execDomainTransitionTimeout s = .next z) : State.Kept r z := by
  simp only [execDomainTransitionTimeout, State.run, Host.Outcome.next.injEq] at e; subst e
  split <;> simp +contextual (maxDischargeDepth := 99) [h]

theorem execStiValidationDone_kept {z : State} (h : State.Kept r s)  (e : execStiValidationDone s = .next z) : State.Kept r z := by
  simp only [execStiValidationDone, State.run, Host.Outcome.next.injEq] at e; subst e
  split <;> simp +contextual (maxDischargeDepth := 99) [h]

@[simp] theorem State.enterEntry_kept (h : State.Kept r s) {n : Nat} : State.Kept r (s.enterEntry n) := by
  simp only [State.enterEntry]; repeat' split
  all_goals simp +contextual (maxDischargeDepth := 99) [h]

@[simp] theorem State.freeSteps_kept (h : State.Kept r s) {m : Nat} : State.Kept r (s.freeSteps m) := by
  unfold State.freeSteps
  exact kept_foldl h fun t k ht => by split <;> simp [ht]

@[simp] theorem State.abandonEntry_kept (h : State.Kept r s) {n : Nat} : State.Kept r (s.abandonEntry n) := by
  simp only [State.abandonEntry]; repeat' split
  all_goals simp +contextual (maxDischargeDepth := 99) [h]

@[simp] theorem State.tryEntry_kept (h : State.Kept r s) {n t : Nat} : State.Kept r (s.tryEntry n t) := by unfold State.tryEntry; split <;> simp +contextual (maxDischargeDepth := 99) [h]

@[simp] theorem State.facetStart_kept (h : State.Kept r s) {f : Nat} : State.Kept r (s.facetStart f) := by
  simp only [State.facetStart]; repeat' split
  all_goals simp +contextual (maxDischargeDepth := 99) [h]

theorem execFacetStart_kept {z : State} (h : State.Kept r s) {f : Fin 64} (e : execFacetStart f s = .next z) : State.Kept r z := by
  simp only [execFacetStart, State.run, Host.Outcome.next.injEq] at e; subst e
  split <;> simp +contextual (maxDischargeDepth := 99) [h]

@[simp] theorem State.endExpired_kept (h : State.Kept r s) : State.Kept r (s.endExpired) := by
  simp only [State.endExpired]; repeat' split
  all_goals simp +contextual (maxDischargeDepth := 99) [h]

@[simp] theorem State.restAt_kept (h : State.Kept r s) {l : List Nat} {at_ : Nat} : State.Kept r (s.restAt l at_) := by simp +contextual [State.restAt, h]

@[simp] theorem State.scrubPauses_kept (h : State.Kept r s) : State.Kept r (s.scrubPauses) := by simp +contextual [State.scrubPauses, h]

@[simp] theorem State.facetEnd_kept (h : State.Kept r s) {vbat : Nat} : State.Kept r (s.facetEnd vbat) := by
  simp only [State.facetEnd]; repeat' split
  all_goals simp +contextual (maxDischargeDepth := 99) [h]

theorem execFacetEnd_kept {z : State} (h : State.Kept r s) {vbat : BitVec 16} (e : execFacetEnd vbat s = .next z) : State.Kept r z := by
  simp only [execFacetEnd, State.run, Host.Outcome.next.injEq] at e; subst e
  split <;> simp +contextual (maxDischargeDepth := 99) [h]

theorem execMarkLead_kept {z : State} (h : State.Kept r s)  (e : execMarkLead s = .next z) : State.Kept r z := by
  simp only [execMarkLead, State.run, Host.Outcome.next.injEq] at e; subst e
  split <;> simp +contextual (maxDischargeDepth := 99) [h]

@[simp] theorem State.lfTick_kept (h : State.Kept r s) : State.Kept r (s.lfTick) := by unfold State.lfTick; split <;> simp +contextual (maxDischargeDepth := 99) [h]

theorem execLfTick_kept {z : State} (h : State.Kept r s)  (e : execLfTick s = .next z) : State.Kept r z := by
  simp only [execLfTick, State.run, Host.Outcome.next.injEq] at e; subst e
  repeat' split
  all_goals simp +contextual (maxDischargeDepth := 99) [h]

@[simp] theorem State.driveSync_kept (h : State.Kept r s) {l : List Bool} : State.Kept r (s.driveSync l) := by simp +contextual [State.driveSync, h]

@[simp] theorem State.syncMode_kept (h : State.Kept r s) {old : Nat} : State.Kept r (s.syncMode old) := by simp +contextual [State.syncMode, h]

@[simp] theorem State.noteShot_kept (h : State.Kept r s) {t : Nat} : State.Kept r (s.noteShot t) := by simp +contextual (maxDischargeDepth := 99) [State.noteShot, h]

@[simp] theorem State.cancelShot_kept (h : State.Kept r s) {i : Nat} : State.Kept r (s.cancelShot i) := by simp +contextual [State.cancelShot, h]

@[simp] theorem State.decideHeld_kept (h : State.Kept r s) {t : Nat} : State.Kept r (s.decideHeld t) := by
  simp +contextual (maxDischargeDepth := 99) [State.decideHeld, kept_ite_iff, h]

@[simp] theorem State.decideShot_kept (h : State.Kept r s) {i t : Nat} : State.Kept r (s.decideShot i t).2 := by
  simp only [State.decideShot]; repeat' split
  all_goals simp +contextual (maxDischargeDepth := 99) [h]

@[simp] theorem State.hostShotFire_kept (h : State.Kept r s) {t : Nat} : State.Kept r (s.hostShotFire t) := by
  unfold State.hostShotFire; repeat' split
  all_goals simp +contextual (maxDischargeDepth := 99) [h]

theorem execHostShotFire_kept {z : State} (h : State.Kept r s) {t : Nat} (e : execHostShotFire t s = .next z) : State.Kept r z := by
  simp only [execHostShotFire, State.run, Host.Outcome.next.injEq] at e; subst e
  split <;> simp +contextual (maxDischargeDepth := 99) [h]

@[simp] theorem State.trigEdge_kept (h : State.Kept r s) {t : Nat} : State.Kept r (s.trigEdge t) := by
  simp only [State.trigEdge]; repeat' split
  all_goals simp +contextual (maxDischargeDepth := 99) [h]

theorem execTrigEdge_kept {z : State} (h : State.Kept r s) {t : Nat} (e : execTrigEdge t s = .next z) : State.Kept r z := by
  simp only [execTrigEdge, State.run, Host.Outcome.next.injEq] at e; subst e
  split <;> simp +contextual (maxDischargeDepth := 99) [h]

@[simp] theorem State.hwShotFire_kept (h : State.Kept r s) {t : Nat} : State.Kept r (s.hwShotFire t) := by unfold State.hwShotFire; split <;> simp +contextual (maxDischargeDepth := 99) [h]

theorem execHwShotFire_kept {z : State} (h : State.Kept r s) {t : Nat} (e : execHwShotFire t s = .next z) : State.Kept r z := by
  simp only [execHwShotFire, State.run, Host.Outcome.next.injEq] at e; subst e
  split <;> simp +contextual (maxDischargeDepth := 99) [h]

@[simp] theorem State.hostCaptured_kept (h : State.Kept r s) {i slots : Nat} : State.Kept r (s.hostCaptured i slots) := by
  unfold State.hostCaptured; repeat' split
  all_goals simp +contextual (maxDischargeDepth := 99) [h]

@[simp] theorem State.captureComplete_kept (h : State.Kept r s) {x : List (List (BitVec 12) × List (BitVec 12))} : State.Kept r (s.captureComplete x) := by
  unfold State.captureComplete; repeat' split
  all_goals simp +contextual (maxDischargeDepth := 99) [h]

theorem execCaptureComplete_kept {z : State} (h : State.Kept r s) {x : List (List (BitVec 12) × List (BitVec 12))} (e : execCaptureComplete x s = .next z) : State.Kept r z := by
  simp only [execCaptureComplete, State.run, Host.Outcome.next.injEq] at e; subst e
  split <;> simp +contextual (maxDischargeDepth := 99) [h]

@[simp] theorem State.shotRecord_kept (h : State.Kept r s) {k pos : Nat} : State.Kept r (s.shotRecord k pos) := by
  simp only [State.shotRecord]; repeat' split
  all_goals simp +contextual (maxDischargeDepth := 99) [h]

@[simp] theorem State.flowIfDone_kept (h : State.Kept r s) : State.Kept r (s.flowIfDone) := by unfold State.flowIfDone; split <;> simp +contextual (maxDischargeDepth := 99) [h]

@[simp] theorem State.echoStep_kept (h : State.Kept r s) {k t : Nat} : State.Kept r (s.echoStep k t) := by
  unfold State.echoStep; repeat' split
  all_goals simp +contextual (maxDischargeDepth := 99) [h]

theorem execEchoStep_kept {z : State} (h : State.Kept r s) {k : Fin 16} {t : Nat} (e : execEchoStep k t s = .next z) : State.Kept r z := by
  simp only [execEchoStep, State.run, Host.Outcome.next.injEq] at e; subst e
  split <;> simp +contextual (maxDischargeDepth := 99) [h]

@[simp] theorem State.conversionStart_kept (h : State.Kept r s) {t : Nat} : State.Kept r (s.conversionStart t) := by
  simp only [State.conversionStart]; repeat' split
  all_goals simp +contextual (maxDischargeDepth := 99) [h]

theorem execConversionStart_kept {z : State} (h : State.Kept r s) {t : Nat} (e : execConversionStart t s = .next z) : State.Kept r z := by
  simp only [execConversionStart, State.run, Host.Outcome.next.injEq] at e; subst e
  split <;> simp +contextual (maxDischargeDepth := 99) [h]

@[simp] theorem State.dropConv_kept (h : State.Kept r s) {upper : Nat} : State.Kept r (s.dropConv upper) := by
  unfold State.dropConv; repeat' split
  all_goals simp +contextual (maxDischargeDepth := 99) [h]

@[simp] theorem State.afterDischarge_kept (h : State.Kept r s) : State.Kept r (s.afterDischarge) := by
  unfold State.afterDischarge; repeat' split
  all_goals simp +contextual (maxDischargeDepth := 99) [h]

@[simp] theorem State.gpioEdge_kept (h : State.Kept r s) {n : Nat} {rising : Bool} : State.Kept r (s.gpioEdge n rising) := by unfold State.gpioEdge; split <;> simp +contextual (maxDischargeDepth := 99) [h]

@[simp] theorem State.syncEdge_kept (h : State.Kept r s) {stamp : Nat} {rising : Bool} : State.Kept r (s.syncEdge stamp rising) := by
  unfold State.syncEdge; repeat' split
  all_goals simp +contextual (maxDischargeDepth := 99) [h]

theorem execEventEdge_kept {z : State} (h : State.Kept r s) {e : Fin 6} {stamp : Word} {rising : Bool} (e : execEventEdge e stamp rising s = .next z) : State.Kept r z := by
  simp only [execEventEdge, State.run, Host.Outcome.next.injEq] at e; subst e
  repeat' split
  all_goals simp +contextual (maxDischargeDepth := 99) [h]

theorem execDischargeTimeout_kept {z : State} (h : State.Kept r s)  (e : execDischargeTimeout s = .next z) : State.Kept r z := by
  simp only [execDischargeTimeout, State.run, Host.Outcome.next.injEq] at e; subst e
  split <;> simp +contextual (maxDischargeDepth := 99) [h]

@[simp] theorem State.conversionComplete_kept (h : State.Kept r s) : State.Kept r (s.conversionComplete) := by
  unfold State.conversionComplete; repeat' split
  all_goals simp +contextual (maxDischargeDepth := 99) [h]

theorem execConversionComplete_kept {z : State} (h : State.Kept r s)  (e : execConversionComplete s = .next z) : State.Kept r z := by
  simp only [execConversionComplete, State.run, Host.Outcome.next.injEq] at e; subst e
  split <;> simp +contextual (maxDischargeDepth := 99) [h]

@[simp] theorem State.lockLoss_kept (h : State.Kept r s) : State.Kept r (s.lockLoss) := by unfold State.lockLoss; split <;> simp +contextual (maxDischargeDepth := 99) [h]

theorem execLockLoss_kept {z : State} (h : State.Kept r s)  (e : execLockLoss s = .next z) : State.Kept r z := by
  simp only [execLockLoss, State.run, Host.Outcome.next.injEq] at e; subst e
  split <;> simp +contextual (maxDischargeDepth := 99) [h]

theorem execRelock_kept {z : State} (h : State.Kept r s)  (e : execRelock s = .next z) : State.Kept r z := by
  simp only [execRelock, State.run, Host.Outcome.next.injEq] at e; subst e
  split <;> simp +contextual (maxDischargeDepth := 99) [h]

theorem execEventOrigin_kept {z : State} (h : State.Kept r s) {e : Fin 6} (e : execEventOrigin e s = .next z) : State.Kept r z := by
  simp only [execEventOrigin, State.run, Host.Outcome.next.injEq] at e; subst e
  split <;> simp +contextual (maxDischargeDepth := 99) [h]

theorem execCoarseOverflow_kept {z : State} (h : State.Kept r s) {e : Fin 6} (e : execCoarseOverflow e s = .next z) : State.Kept r z := by
  simp only [execCoarseOverflow, State.run, Host.Outcome.next.injEq] at e; subst e
  split <;> simp +contextual (maxDischargeDepth := 99) [h]

theorem execZeroCrossing_kept {z : State} (h : State.Kept r s) {port : Fin 16} {stamp : Word} {x : Crossing} (e : execZeroCrossing port stamp x s = .next z) : State.Kept r z := by
  simp only [execZeroCrossing, State.run, Host.Outcome.next.injEq] at e; subst e
  split <;> simp +contextual (maxDischargeDepth := 99) [h]

theorem execScrubWord_kept {z : State} (h : State.Kept r s)  (e : execScrubWord s = .next z) : State.Kept r z := by
  simp only [execScrubWord, State.run, Host.Outcome.next.injEq] at e; subst e
  repeat' split
  all_goals simp +contextual (maxDischargeDepth := 99) [h]

theorem execNvmPageAttempt_kept {z : State} (h : State.Kept r s) {bad : Option (Fin 128)} (e : execNvmPageAttempt bad s = .next z) : State.Kept r z := by
  simp only [execNvmPageAttempt, State.run, Host.Outcome.next.injEq] at e; subst e
  repeat' split
  all_goals simp +contextual (maxDischargeDepth := 99) [h]

theorem execRowCopyDone_kept {z : State} (h : State.Kept r s)  (e : execRowCopyDone s = .next z) : State.Kept r z := by
  simp only [execRowCopyDone, State.run, Host.Outcome.next.injEq] at e; subst e
  split <;> simp +contextual (maxDischargeDepth := 99) [h]

theorem execPeriodicCommit_kept {z : State} (h : State.Kept r s)  (e : execPeriodicCommit s = .next z) : State.Kept r z := by
  simp only [execPeriodicCommit, State.run, Host.Outcome.next.injEq] at e; subst e
  split <;> simp +contextual (maxDischargeDepth := 99) [h]

@[simp] theorem State.recordProgram_kept (h : State.Kept r s) {bad : Option Nat} {us : Nat} : State.Kept r (s.recordProgram bad us) := by
  simp only [State.recordProgram]; repeat' split
  all_goals simp +contextual (maxDischargeDepth := 99) [h]

theorem execLedgerRecordProgram_kept {z : State} (h : State.Kept r s) {bad : Option (Fin 4)} {us : Nat} (e : execLedgerRecordProgram bad us s = .next z) : State.Kept r z := by
  simp only [execLedgerRecordProgram, State.run, Host.Outcome.next.injEq] at e; subst e
  split <;> simp +contextual (maxDischargeDepth := 99) [h]

theorem execLedgerPageErase_kept {z : State} (h : State.Kept r s)  (e : execLedgerPageErase s = .next z) : State.Kept r z := by
  simp only [execLedgerPageErase, State.run, Host.Outcome.next.injEq] at e; subst e
  repeat' split
  all_goals simp +contextual (maxDischargeDepth := 99) [h]

theorem execPulseStart_kept {z : State} (h : State.Kept r s) {p : Fin 2} (e : execPulseStart p s = .next z) : State.Kept r z := by
  simp only [execPulseStart, State.run, Host.Outcome.next.injEq] at e; subst e
  split <;> simp +contextual (maxDischargeDepth := 99) [h]

theorem execPulseEnd_kept {z : State} (h : State.Kept r s) {p : Fin 2} (e : execPulseEnd p s = .next z) : State.Kept r z := by
  simp only [execPulseEnd, State.run, Host.Outcome.next.injEq] at e; subst e
  split <;> simp +contextual (maxDischargeDepth := 99) [h]

end Sys2Proof.Machine
end

