-- ==== Sys2Proof/Laws/KeptFog.lean ====
section
/-! SUPPORT. `State.Kept` for the operations of Fog.lean. -/

namespace Sys2Proof.Machine

variable {r s : State}

@[simp] theorem State.restLater_kept (h : State.Kept r s) {l : List Nat} : State.Kept r (s.restLater l) := by simp +contextual [State.restLater, h]

@[simp] theorem State.endFog_kept (h : State.Kept r s) {t : Nat} : State.Kept r (s.endFog t) := by
  simp only [State.endFog]; repeat' split
  all_goals simp +contextual (maxDischargeDepth := 99) [h]

@[simp] theorem State.settleFog_kept (h : State.Kept r s) {t : Nat} : State.Kept r (s.settleFog t) := by unfold State.settleFog; split <;> simp +contextual (maxDischargeDepth := 99) [h]

@[simp] theorem State.fogEvent_kept (h : State.Kept r s) {t : Nat} : State.Kept r (s.fogEvent t) := by
  simp only [State.fogEvent]; repeat' split
  all_goals simp +contextual (maxDischargeDepth := 99) [h]

theorem execFogEvent_kept {z : State} (h : State.Kept r s) {t : Nat} (e : execFogEvent t s = .next z) : State.Kept r z := by
  simp only [execFogEvent, State.run, Host.Outcome.next.injEq] at e; subst e
  split <;> simp +contextual (maxDischargeDepth := 99) [h]

@[simp] theorem State.countAbandoned_kept (h : State.Kept r s) : State.Kept r (s.countAbandoned) := by simp +contextual [State.countAbandoned, h]

@[simp] theorem State.releaseEntry_kept (h : State.Kept r s) : State.Kept r (s.releaseEntry) := by simp +contextual [State.releaseEntry, h]

@[simp] theorem State.abandonEcho_kept (h : State.Kept r s) {k : Nat} : State.Kept r (s.abandonEcho k) := by
  unfold State.abandonEcho; repeat' split
  all_goals simp +contextual (maxDischargeDepth := 99) [h]

@[simp] theorem State.deferEntry_kept (h : State.Kept r s) : State.Kept r (s.deferEntry) := by
  unfold State.deferEntry; repeat' split
  all_goals simp +contextual (maxDischargeDepth := 99) [h]

@[simp] theorem State.cutAttempt_kept (h : State.Kept r s) {w : TxWhy} : State.Kept r (s.cutAttempt w) := by unfold State.cutAttempt; split <;> simp +contextual (maxDischargeDepth := 99) [h]

@[simp] theorem State.abortTx_kept (h : State.Kept r s) : State.Kept r (s.abortTx) := by
  unfold State.abortTx; repeat' split
  all_goals simp +contextual (maxDischargeDepth := 99) [h]

@[simp] theorem State.abortRx_kept (h : State.Kept r s) : State.Kept r (s.abortRx) := by
  unfold State.abortRx
  extract_lets lbt answer s1 s2 u3 s3 s4 u5 s5
  have h1 : State.Kept r s1 := by simp [s1, h]
  have h2 : State.Kept r s2 := by simp only [s2]; clear_value lbt; split <;> simp [h1]
  have h3 : State.Kept r s3 := kept_mk h2
  have h4 : State.Kept r s4 := by simp only [s4]; split <;> simp [h3]
  have h5 : State.Kept r s5 := by simp only [s5]; split <;> simp +contextual (maxDischargeDepth := 99) [h4]
  clear_value s4 s5
  split
  · exact h
  · (repeat' split) <;> simp [h5]

@[simp] theorem State.abortPoint_kept (h : State.Kept r s) {w : AbortWork} : State.Kept r (s.abortPoint w) := by
  unfold State.abortPoint; repeat' split
  all_goals simp +contextual (maxDischargeDepth := 99) [h]

theorem execAbortPoint_kept {z : State} (h : State.Kept r s) {w : AbortWork} (e : execAbortPoint w s = .next z) : State.Kept r z := by
  simp only [execAbortPoint, State.run, Host.Outcome.next.injEq] at e; subst e
  split <;> simp +contextual (maxDischargeDepth := 99) [h]

@[simp] theorem State.fogGo_kept (h : State.Kept r s) {t : Nat} : State.Kept r (s.fogGo t) := by unfold State.fogGo; split <;> simp +contextual (maxDischargeDepth := 99) [h]

@[simp] theorem State.fogFrameSend_kept (h : State.Kept r s) {t : Nat} : State.Kept r (s.fogFrameSend t) := by unfold State.fogFrameSend; split <;> simp +contextual (maxDischargeDepth := 99) [h]

theorem execWakeStage_kept {z : State} (h : State.Kept r s) {k : Fin 27} {us : Nat} (e : execWakeStage k us s = .next z) : State.Kept r z := by
  simp only [execWakeStage, State.run, Host.Outcome.next.injEq] at e; subst e
  split <;> simp +contextual (maxDischargeDepth := 99) [h]

theorem execFogFrameSend_kept {z : State} (h : State.Kept r s) {t : Nat} (e : execFogFrameSend t s = .next z) : State.Kept r z := by
  simp only [execFogFrameSend, State.run, Host.Outcome.next.injEq] at e; subst e
  split <;> simp +contextual (maxDischargeDepth := 99) [h]

@[simp] theorem State.thenNext_kept (h : State.Kept r s) : State.Kept r (s.thenNext) := by simp +contextual [State.thenNext, h]

@[simp] theorem State.fogLatency_kept (h : State.Kept r s) {t : Nat} : State.Kept r (s.fogLatency t) := by
  unfold State.fogLatency; repeat' split
  all_goals simp +contextual (maxDischargeDepth := 99) [h]

@[simp] theorem State.transmissionEnd_kept (h : State.Kept r s) {t : Nat} : State.Kept r (s.transmissionEnd t) := by
  simp only [State.transmissionEnd]; repeat' split
  all_goals simp +contextual (maxDischargeDepth := 99) [h]

theorem execTransmissionEnd_kept {z : State} (h : State.Kept r s) {t : Nat} (e : execTransmissionEnd t s = .next z) : State.Kept r z := by
  simp only [execTransmissionEnd, State.run, Host.Outcome.next.injEq] at e; subst e
  split <;> simp +contextual (maxDischargeDepth := 99) [h]

@[simp] theorem State.lbtEnd_kept (h : State.Kept r s) {rssi : Byte} {t : Nat} : State.Kept r (s.lbtEnd rssi t) := by
  simp only [State.lbtEnd]; repeat' split
  all_goals simp +contextual (maxDischargeDepth := 99) [h]

theorem execLbtListenEnd_kept {z : State} (h : State.Kept r s) {rssi : Byte} {t : Nat} (e : execLbtListenEnd rssi t s = .next z) : State.Kept r z := by
  simp only [execLbtListenEnd, State.run, Host.Outcome.next.injEq] at e; subst e
  split <;> simp +contextual (maxDischargeDepth := 99) [h]

theorem execFrameReceived_kept {z : State} (h : State.Kept r s) {f : RxFrame} (e : execFrameReceived f s = .next z) : State.Kept r z := by
  simp only [execFrameReceived, State.run, Host.Outcome.next.injEq] at e; subst e
  split <;> simp +contextual (maxDischargeDepth := 99) [h]

theorem execSfdEnd_kept {z : State} (h : State.Kept r s) {t : Nat} (e : execSfdEnd t s = .next z) : State.Kept r z := by
  simp only [execSfdEnd, State.run, Host.Outcome.next.injEq] at e; subst e
  split <;> simp +contextual (maxDischargeDepth := 99) [h]

theorem execAnswerWindowEnd_kept {z : State} (h : State.Kept r s)  (e : execAnswerWindowEnd s = .next z) : State.Kept r z := by
  simp only [execAnswerWindowEnd, State.run, Host.Outcome.next.injEq] at e; subst e
  split <;> simp +contextual (maxDischargeDepth := 99) [h]

theorem execAckSend_kept {z : State} (h : State.Kept r s)  (e : execAckSend s = .next z) : State.Kept r z := by
  simp only [execAckSend, State.run, Host.Outcome.next.injEq] at e; subst e
  split <;> simp +contextual (maxDischargeDepth := 99) [h]

theorem execDownlinkSend_kept {z : State} (h : State.Kept r s)  (e : execDownlinkSend s = .next z) : State.Kept r z := by
  simp only [execDownlinkSend, State.run, Host.Outcome.next.injEq] at e; subst e
  split <;> simp +contextual (maxDischargeDepth := 99) [h]

theorem execRetryWaitEnd_kept {z : State} (h : State.Kept r s)  (e : execRetryWaitEnd s = .next z) : State.Kept r z := by
  simp only [execRetryWaitEnd, State.run, Host.Outcome.next.injEq] at e; subst e
  split <;> simp +contextual (maxDischargeDepth := 99) [h]

theorem execFlashSend_kept {z : State} (h : State.Kept r s)  (e : execFlashSend s = .next z) : State.Kept r z := by
  simp only [execFlashSend, State.run, Host.Outcome.next.injEq] at e; subst e
  split <;> simp +contextual (maxDischargeDepth := 99) [h]

theorem execFlashWindowOpen_kept {z : State} (h : State.Kept r s)  (e : execFlashWindowOpen s = .next z) : State.Kept r z := by
  simp only [execFlashWindowOpen, State.run, Host.Outcome.next.injEq] at e; subst e
  split <;> simp +contextual (maxDischargeDepth := 99) [h]

theorem execFlashWindowClose_kept {z : State} (h : State.Kept r s)  (e : execFlashWindowClose s = .next z) : State.Kept r z := by
  simp only [execFlashWindowClose, State.run, Host.Outcome.next.injEq] at e; subst e
  split <;> simp +contextual (maxDischargeDepth := 99) [h]

theorem execFloodRelay_kept {z : State} (h : State.Kept r s)  (e : execFloodRelay s = .next z) : State.Kept r z := by
  simp only [execFloodRelay, State.run, Host.Outcome.next.injEq] at e; subst e
  split <;> simp +contextual (maxDischargeDepth := 99) [h]

theorem execFloodOriginate_kept {z : State} (h : State.Kept r s)  (e : execFloodOriginate s = .next z) : State.Kept r z := by
  simp only [execFloodOriginate, State.run, Host.Outcome.next.injEq] at e; subst e
  split <;> simp +contextual (maxDischargeDepth := 99) [h]

theorem execJoinReq_kept {z : State} (h : State.Kept r s)  (e : execJoinReq s = .next z) : State.Kept r z := by
  simp only [execJoinReq, State.run, Host.Outcome.next.injEq] at e; subst e
  split <;> simp +contextual (maxDischargeDepth := 99) [h]

theorem execScanDwellEnd_kept {z : State} (h : State.Kept r s)  (e : execScanDwellEnd s = .next z) : State.Kept r z := by
  simp only [execScanDwellEnd, State.run, Host.Outcome.next.injEq] at e; subst e
  split <;> simp +contextual (maxDischargeDepth := 99) [h]

@[simp] theorem State.governorMinute_kept (h : State.Kept r s) : State.Kept r (s.governorMinute) := by
  simp only [State.governorMinute]; repeat' split
  all_goals simp +contextual (maxDischargeDepth := 99) [h]

theorem execGovernorMinute_kept {z : State} (h : State.Kept r s)  (e : execGovernorMinute s = .next z) : State.Kept r z := by
  simp only [execGovernorMinute, State.run, Host.Outcome.next.injEq] at e; subst e
  split <;> simp +contextual (maxDischargeDepth := 99) [h]

@[simp] theorem State.unqueue_kept (h : State.Kept r s) {i : Nat} : State.Kept r (s.unqueue i) := by simp +contextual [State.unqueue, h]

@[simp] theorem State.stopTx_kept (h : State.Kept r s) {i : Nat} : State.Kept r (s.stopTx i) := by simp +contextual [State.stopTx, h]

@[simp] theorem State.expireTx_kept (h : State.Kept r s) {i : Nat} : State.Kept r (s.expireTx i) := by
  simp only [State.expireTx]; repeat' split
  all_goals simp +contextual (maxDischargeDepth := 99) [h]

@[simp] theorem State.deadline_kept (h : State.Kept r s) {i : Nat} : State.Kept r (s.deadline i) := by
  simp only [State.deadline]; repeat' split
  all_goals simp +contextual (maxDischargeDepth := 99) [h]

theorem execOperationDeadline_kept {z : State} (h : State.Kept r s) {i : Fin 16} (e : execOperationDeadline i s = .next z) : State.Kept r z := by
  simp only [execOperationDeadline, State.run, Host.Outcome.next.injEq] at e; subst e
  split <;> simp +contextual (maxDischargeDepth := 99) [h]

end Sys2Proof.Machine
end

