-- ==== Sys2Proof/Laws/KeptMark.lean ====
section
/-! SUPPORT. `State.Kept` for the operations of Mark.lean. -/

namespace Sys2Proof.Machine

variable {r s : State}

@[simp] theorem State.dropAbsent_kept (h : State.Kept r s) : State.Kept r (s.dropAbsent) := by unfold State.dropAbsent; split <;> simp +contextual (maxDischargeDepth := 99) [h]

@[simp] theorem State.dropLate_kept (h : State.Kept r s) : State.Kept r (s.dropLate) := by simp +contextual (maxDischargeDepth := 99) [State.dropLate, h]

@[simp] theorem State.missingRecords_kept (h : State.Kept r s) : State.Kept r (s.missingRecords) := by simp +contextual (maxDischargeDepth := 99) [State.missingRecords, h]

@[simp] theorem State.lostRecords_kept (h : State.Kept r s) : State.Kept r (s.lostRecords) := by simp +contextual (maxDischargeDepth := 99) [State.lostRecords, h]

@[simp] theorem State.closeMeasuring_kept (h : State.Kept r s) : State.Kept r (s.closeMeasuring).2 := by
  simp only [State.closeMeasuring]; repeat' split
  all_goals simp +contextual (maxDischargeDepth := 99) [h]

@[simp] theorem State.afterCommit_kept (h : State.Kept r s) {old : State} {b : CommitBlock} : State.Kept r (s.afterCommit old b) := by
  simp only [State.afterCommit]; repeat' split
  all_goals simp +contextual (maxDischargeDepth := 99) [h]

@[simp] theorem State.applyBlock_kept (h : State.Kept r s) {b : CommitBlock} : State.Kept r (s.applyBlock b) := by simp +contextual (maxDischargeDepth := 99) [State.applyBlock, h]

@[simp] theorem State.beginRotation_kept (h : State.Kept r s) : State.Kept r (s.beginRotation) := by simp +contextual (maxDischargeDepth := 99) [State.beginRotation, h]

@[simp] theorem State.advanceLens_kept (h : State.Kept r s) : State.Kept r (s.advanceLens) := by
  unfold State.advanceLens; repeat' split
  all_goals simp +contextual (maxDischargeDepth := 99) [h]

@[simp] theorem State.markS6_kept (h : State.Kept r s) {adv empty epoch : Bool} : State.Kept r (s.markS6 adv empty epoch) := by
  unfold State.markS6
  extract_lets len s1 s2 s3 s4 f s5 s6 s7 u s8
  have h2 : State.Kept r s2 := by simp [s1, s2, h]
  have h3 : State.Kept r s3 := by simp only [s3]; split <;> simp [h2]
  have h4 : State.Kept r s4 := by simp only [s4]; split <;> simp [h3]
  have h5 : State.Kept r s5 := by simp only [s5]; split <;> simp [h4]
  have h6 : State.Kept r s6 := by simp only [s6]; split <;> simp [h5]
  have h7 : State.Kept r s7 := by simp [s7, h6]
  have h8 : State.Kept r s8 := by simp only [s8]; split <;> simp [h7]
  simp [h8]

@[simp] theorem State.mark_kept (h : State.Kept r s) {temp : BitVec 16} {fault : Option MarkFault} : State.Kept r (s.mark temp fault) := by
  unfold State.mark
  extract_lets before skips epoch lens ran c sampled s1 d s2 q s3 s4 done s5 load same s6 s7
  have hb : ∀ (t : State) (k : Nat), State.Kept r t → State.Kept r (before t k) := by
    intro t k ht; simp only [before]; (repeat' split) <;> simp [ht]
  have hc : State.Kept r c.2 := by simp +contextual (maxDischargeDepth := 99) [c, h]
  have h1 : State.Kept r s1 := hb _ _ (by simp [hc])
  have h2 : State.Kept r s2 := hb _ _ (by simp [h1])
  have hq : State.Kept r q.2 := State.checkedS3_kept h2
  have h3 : State.Kept r s3 := by simp only [s3]; (repeat' split) <;> simp [h2, hq]
  have h4 : State.Kept r s4 := hb _ _ h3
  have h5 : State.Kept r s5 := hb _ _ (by apply State.applyScale_kept; split <;> simp +contextual (maxDischargeDepth := 99) [h4])
  have h6 : State.Kept r s6 := by simp only [s6]; (repeat' split) <;> simp +contextual (maxDischargeDepth := 99) [h5]
  exact State.markS6_kept (hb _ _ h6)

theorem execMark_kept {z : State} (h : State.Kept r s) {temp : BitVec 16} {fault : Option MarkFault} (e : execMark temp fault s = .next z) : State.Kept r z := by
  simp only [execMark, State.run, Host.Outcome.next.injEq] at e; subst e
  split <;> simp +contextual (maxDischargeDepth := 99) [h]

theorem execSyncPulseEnd_kept {z : State} (h : State.Kept r s)  (e : execSyncPulseEnd s = .next z) : State.Kept r z := by
  simp only [execSyncPulseEnd, State.run, Host.Outcome.next.injEq] at e; subst e
  repeat' split
  all_goals simp +contextual (maxDischargeDepth := 99) [h]

end Sys2Proof.Machine
end

