-- ==== Sys2Proof/Laws/KeptUpdate.lean ====
section
/-! SUPPORT. `State.Kept` for the operations of Update.lean. -/

namespace Sys2Proof.Machine

variable {r s : State}

@[simp] theorem State.setUpd_kept (h : State.Kept r s) {f : Upd → Upd} : State.Kept r (s.setUpd f) := by simp +contextual [State.setUpd, h]

@[simp] theorem State.updEvt_kept (h : State.Kept r s) {f : Fld} : State.Kept r (s.updEvt f) := by unfold State.updEvt; split <;> simp +contextual (maxDischargeDepth := 99) [h]

@[simp] theorem State.storeKey_kept (h : State.Kept r s) {slot : Nat} {k : List Nat} : State.Kept r (s.storeKey slot k) := by simp +contextual (maxDischargeDepth := 99) [State.storeKey, h]

@[simp] theorem State.keyOutcome_kept (h : State.Kept r s) : State.Kept r (s.keyOutcome).2 := by
  simp only [State.keyOutcome]; repeat' split
  all_goals simp +contextual (maxDischargeDepth := 99) [h]

@[simp] theorem State.keyWrite_kept (h : State.Kept r s) : State.Kept r (s.keyWrite) := by simp +contextual (maxDischargeDepth := 99) [State.keyWrite, h]

@[simp] theorem State.trngRead_kept (h : State.Kept r s) : State.Kept r (s.trngRead).2 := by unfold State.trngRead; split <;> simp +contextual (maxDischargeDepth := 99) [h]

@[simp] theorem State.drawKek_kept (h : State.Kept r s) : State.Kept r (s.drawKek) := by unfold State.drawKek; split <;> simp +contextual (maxDischargeDepth := 99) [h]

theorem execTrngHealthFail_kept {z : State} (h : State.Kept r s)  (e : execTrngHealthFail s = .next z) : State.Kept r z := by
  simp only [execTrngHealthFail, State.run, Host.Outcome.next.injEq] at e; subst e
  split <;> simp +contextual (maxDischargeDepth := 99) [h]

@[simp] theorem State.trngRetest_kept (h : State.Kept r s) {pass : Bool} : State.Kept r (s.trngRetest pass) := by
  simp only [State.trngRetest]; repeat' split
  all_goals simp +contextual (maxDischargeDepth := 99) [h]

theorem execTrngRetest_kept {z : State} (h : State.Kept r s) {pass : Bool} (e : execTrngRetest pass s = .next z) : State.Kept r z := by
  simp only [execTrngRetest, State.run, Host.Outcome.next.injEq] at e; subst e
  split <;> simp +contextual (maxDischargeDepth := 99) [h]

@[simp] theorem State.touchExport_kept (h : State.Kept r s) {v : Nat} : State.Kept r (s.touchExport v) := by simp +contextual [State.touchExport, h]

@[simp] theorem State.lifeRefused_kept (h : State.Kept r s) {v : Nat} : State.Kept r (s.lifeRefused v) := by unfold State.lifeRefused; split <;> simp +contextual (maxDischargeDepth := 99) [h]

@[simp] theorem State.lifeRequest_kept (h : State.Kept r s) {v : Nat} : State.Kept r (s.lifeRequest v) := by simp +contextual [State.lifeRequest, h]

@[simp] theorem State.updBegin_kept (h : State.Kept r s) : State.Kept r (s.updBegin) := by simp +contextual (maxDischargeDepth := 99) [State.updBegin, h]

@[simp] theorem State.eraseDone_kept (h : State.Kept r s) : State.Kept r (s.eraseDone) := by unfold State.eraseDone; split <;> simp +contextual (maxDischargeDepth := 99) [h]

theorem execEraseDone_kept {z : State} (h : State.Kept r s)  (e : execEraseDone s = .next z) : State.Kept r z := by
  simp only [execEraseDone, State.run, Host.Outcome.next.injEq] at e; subst e
  split <;> simp +contextual (maxDischargeDepth := 99) [h]

@[simp] theorem State.blockArrives_kept (h : State.Kept r s) {b : Nat} {d : List Byte} : State.Kept r (s.blockArrives b d).2 := by
  simp only [State.blockArrives]; repeat' split
  all_goals simp +contextual (maxDischargeDepth := 99) [h]

@[simp] theorem State.writeBlock_kept (h : State.Kept r s) {a : Nat} {d : List Byte} : State.Kept r (s.writeBlock a d) := by simp +contextual [State.writeBlock, h]

@[simp] theorem State.programBlock_kept (h : State.Kept r s) {a : Nat} {d : List Byte} {y0 : Nat} {y1 : List Nat} : State.Kept r (s.programBlock a d y0 y1).2 := by
  induction y0 generalizing s y1 with
  | zero => exact h
  | succ n ih =>
    unfold State.programBlock
    dsimp only
    split
    · simp [h]
    · exact ih (State.logEvent_kept (kept_foldl (State.writeBlock_kept h) fun t k ht => State.scrambleWord_kept ht))

@[simp] theorem State.blockProgram_kept (h : State.Kept r s) {bad : List Nat} : State.Kept r (s.blockProgram bad) := by
  simp only [State.blockProgram]; repeat' split
  all_goals simp +contextual (maxDischargeDepth := 99) [h]

theorem execBlockProgram_kept {z : State} (h : State.Kept r s) {bad : List (Fin 16)} (e : execBlockProgram bad s = .next z) : State.Kept r z := by
  simp only [execBlockProgram, State.run, Host.Outcome.next.injEq] at e; subst e
  split <;> simp +contextual (maxDischargeDepth := 99) [h]

@[simp] theorem State.copyBytes_kept (h : State.Kept r s) {src dst n : Nat} : State.Kept r (s.copyBytes src dst n) := by unfold State.copyBytes; split <;> simp +contextual (maxDischargeDepth := 99) [h]

@[simp] theorem State.copyComponents_kept (h : State.Kept r s) {m : List Byte} {base : Nat} : State.Kept r (s.copyComponents m base) := by simp +contextual [State.copyComponents, h]

@[simp] theorem State.touchComps_kept (h : State.Kept r s) {m : List Byte} {base n : Nat} : State.Kept r (s.touchComps m base n) := by simp +contextual [State.touchComps, h]

@[simp] theorem State.touchActiveSet_kept (h : State.Kept r s) {m : List Byte} {e : Option VerErr} : State.Kept r (s.touchActiveSet m e) := by
  simp only [State.touchActiveSet]; repeat' split
  all_goals simp +contextual (maxDischargeDepth := 99) [h]

@[simp] theorem State.verifySet_kept (h : State.Kept r s) : State.Kept r (s.verifySet).2 := by
  simp only [State.verifySet]; repeat' split
  all_goals simp +contextual (maxDischargeDepth := 99) [h]

@[simp] theorem State.verificationDone_kept (h : State.Kept r s) : State.Kept r (s.verificationDone) := by
  simp only [State.verificationDone]; repeat' split
  all_goals simp +contextual (maxDischargeDepth := 99) [h]

theorem execVerificationDone_kept {z : State} (h : State.Kept r s)  (e : execVerificationDone s = .next z) : State.Kept r z := by
  simp only [execVerificationDone, State.run, Host.Outcome.next.injEq] at e; subst e
  split <;> simp +contextual (maxDischargeDepth := 99) [h]

@[simp] theorem State.updVerify_kept (h : State.Kept r s) : State.Kept r (s.updVerify) := by simp +contextual [State.updVerify, h]

@[simp] theorem State.updAbort_kept (h : State.Kept r s) : State.Kept r (s.updAbort) := by simp +contextual (maxDischargeDepth := 99) [State.updAbort, h]

@[simp] theorem State.updCtl_kept (h : State.Kept r s) {v : Nat} : State.Kept r (s.updCtl v) := by
  unfold State.updCtl; repeat' split
  all_goals simp +contextual (maxDischargeDepth := 99) [h]

@[simp] theorem State.updConfirm_kept (h : State.Kept r s) : State.Kept r (s.updConfirm) := by simp +contextual (maxDischargeDepth := 99) [State.updConfirm, h]

end Sys2Proof.Machine
end

