-- ==== Sys2Proof/Laws/KeptReset.lean ====
section
/-! SUPPORT. `State.Kept` for the operations of Reset.lean. -/

namespace Sys2Proof.Machine

variable {r s : State}

@[simp] theorem State.wipeMem_kept (h : State.Kept r s) {kept : Nat → Bool} : State.Kept r (s.wipeMem kept) := by
  simp +contextual (maxDischargeDepth := 99) [State.wipeMem, kept_ite_iff, h]

@[simp] theorem State.resetBase_kept (h : State.Kept r s) {aon wipe : Bool} : State.Kept r (s.resetBase aon wipe) := by
  simp only [State.resetBase]; repeat' split
  all_goals simp +contextual (maxDischargeDepth := 99) [h]

@[simp] theorem State.wipeReturn_kept (h : State.Kept r s) : State.Kept r (s.wipeReturn) := by simp +contextual (maxDischargeDepth := 99) [State.wipeReturn, h]

@[simp] theorem State.applyLife_kept (h : State.Kept r s) : State.Kept r (s.applyLife).2.2 := by
  simp only [State.applyLife]; repeat' split
  all_goals simp +contextual (maxDischargeDepth := 99) [h]

@[simp] theorem State.checkBoot_kept (h : State.Kept r s) : State.Kept r (s.checkBoot) := by
  simp only [State.checkBoot]; repeat' split
  all_goals simp +contextual (maxDischargeDepth := 99) [h]

@[simp] theorem State.reportSet_kept (h : State.Kept r s) : State.Kept r (s.reportSet) := by unfold State.reportSet; split <;> simp +contextual (maxDischargeDepth := 99) [h]

@[simp] theorem State.bootChecks_kept (h : State.Kept r s) {temp : BitVec 16} : State.Kept r (s.bootChecks temp) := by simp +contextual (maxDischargeDepth := 99) [State.bootChecks, h]

@[simp] theorem State.updReset_kept (h : State.Kept r s) {old : State} {kind : ResetKind} : State.Kept r (s.updReset old kind) := by
  simp only [State.updReset]; repeat' split
  all_goals simp +contextual (maxDischargeDepth := 99) [h]

@[simp] theorem State.resetOnce_kept (h : State.Kept r s) {kind : ResetKind} {temp : BitVec 16} : State.Kept r (s.resetOnce kind temp) := by
  unfold State.resetOnce
  extract_lets aon lf lost t1 t2 t3 t4 t5 t6 t7 t8
  have h0 : State.Kept r lf.2.2 := by simp only [lf]; split <;> simp [h]
  have h1 : State.Kept r t1 := State.resetBase_kept h0
  have h2 : State.Kept r t2 := by simp only [t2]; split <;> simp [h1]
  have h3 : State.Kept r t3 := by simp only [t3]; split <;> simp [h2]
  have h4 : State.Kept r t4 := by simp only [t4]; split <;> simp [h3]
  have h6 : State.Kept r t6 := by simp +contextual (maxDischargeDepth := 99) [t6, t5, h4]
  have h7 : State.Kept r t7 := by simp only [t7]; split <;> simp +contextual (maxDischargeDepth := 99) [h6]
  have h8 : State.Kept r t8 := by simp only [t8]; (repeat' split) <;> simp [h7]
  split <;> simp [h8]

@[simp] theorem State.trialFails_kept (h : State.Kept r s) {i : Nat} {temp : BitVec 16} : State.Kept r (s.trialFails i temp) := by simp +contextual [State.trialFails, h]

@[simp] theorem State.resetDevice_kept (h : State.Kept r s) {kind : ResetKind} {temp : BitVec 16} : State.Kept r (s.resetDevice kind temp) := by
  simp only [State.resetDevice]; repeat' split
  all_goals simp +contextual (maxDischargeDepth := 99) [h]

theorem execRstnReset_kept {z : State} (h : State.Kept r s) {temp : BitVec 16} (e : execRstnReset temp s = .next z) : State.Kept r z := by
  simp only [execRstnReset, State.run, Host.Outcome.next.injEq] at e; subst e
  split <;> simp +contextual (maxDischargeDepth := 99) [h]

theorem execPowerOn_kept {z : State} (h : State.Kept r s) {temp : BitVec 16} (e : execPowerOn temp s = .next z) : State.Kept r z := by
  simp only [execPowerOn, State.run, Host.Outcome.next.injEq] at e; subst e
  repeat' split
  all_goals simp +contextual (maxDischargeDepth := 99) [h]

theorem execSwapReset_kept {z : State} (h : State.Kept r s) {temp : BitVec 16} (e : execSwapReset temp s = .next z) : State.Kept r z := by
  simp only [execSwapReset, State.run, Host.Outcome.next.injEq] at e; subst e
  repeat' split
  all_goals simp +contextual (maxDischargeDepth := 99) [h]

theorem execAonPowerLoss_kept {z : State} (h : State.Kept r s)  (e : execAonPowerLoss s = .next z) : State.Kept r z := by
  simp only [execAonPowerLoss, State.run, Host.Outcome.next.injEq] at e; subst e
  split <;> simp +contextual (maxDischargeDepth := 99) [h]

@[simp] theorem State.selfTest_kept (h : State.Kept r s) {i : Nat} {pass : Bool} {temp : BitVec 16} : State.Kept r (s.selfTest i pass temp) := by
  simp only [State.selfTest]; repeat' split
  all_goals simp +contextual (maxDischargeDepth := 99) [h]

theorem execSelfTest_kept {z : State} (h : State.Kept r s) {test : Fin 6} {pass : Bool} {temp : BitVec 16} (e : execSelfTest test pass temp s = .next z) : State.Kept r z := by
  simp only [execSelfTest, State.run, Host.Outcome.next.injEq] at e; subst e
  split <;> simp +contextual (maxDischargeDepth := 99) [h]

theorem execTrialWindowExpiry_kept {z : State} (h : State.Kept r s) {temp : BitVec 16} (e : execTrialWindowExpiry temp s = .next z) : State.Kept r z := by
  simp only [execTrialWindowExpiry, State.run, Host.Outcome.next.injEq] at e; subst e
  repeat' split
  all_goals simp +contextual (maxDischargeDepth := 99) [h]

@[simp] theorem State.faultCycle_kept (h : State.Kept r s) {cause : Nat} {also : BitVec 5} : State.Kept r (s.faultCycle cause also) := by
  unfold State.faultCycle; split <;> simp [h]

theorem execWdog_kept {z : State} (h : State.Kept r s) {also : BitVec 5} (e : execWdog also s = .next z) : State.Kept r z := by
  simp only [execWdog, State.run, Host.Outcome.next.injEq] at e; subst e
  split <;> simp +contextual (maxDischargeDepth := 99) [h]

theorem execPoisonExec_kept {z : State} (h : State.Kept r s) {also : BitVec 5} (e : execPoisonExec also s = .next z) : State.Kept r z := by
  simp only [execPoisonExec, State.run, Host.Outcome.next.injEq] at e; subst e
  split <;> simp +contextual (maxDischargeDepth := 99) [h]

theorem execClkLoss_kept {z : State} (h : State.Kept r s) {also : BitVec 5} (e : execClkLoss also s = .next z) : State.Kept r z := by
  simp only [execClkLoss, State.run, Host.Outcome.next.injEq] at e; subst e
  split <;> simp +contextual (maxDischargeDepth := 99) [h]

theorem execBrownout_kept {z : State} (h : State.Kept r s) {also : BitVec 5} (e : execBrownout also s = .next z) : State.Kept r z := by
  simp only [execBrownout, State.run, Host.Outcome.next.injEq] at e; subst e
  split <;> simp +contextual (maxDischargeDepth := 99) [h]

theorem execRecoveryComplete_kept {z : State} (h : State.Kept r s)  (e : execRecoveryComplete s = .next z) : State.Kept r z := by
  simp only [execRecoveryComplete, State.run, Host.Outcome.next.injEq] at e; subst e
  split <;> simp +contextual (maxDischargeDepth := 99) [h]

end Sys2Proof.Machine
end

