-- ==== Sys2Proof/Laws/KeptMeshHost.lean ====
section
/-! SUPPORT. `State.Kept` for the operations of MeshHost.lean. -/

namespace Sys2Proof.Machine

variable {r s : State}

@[simp] theorem State.meshJoin_kept (h : State.Kept r s) : State.Kept r (s.meshJoin) := by
  simp only [State.meshJoin]; repeat' split
  all_goals simp +contextual (maxDischargeDepth := 99) [h]

@[simp] theorem State.meshLeave_kept (h : State.Kept r s) : State.Kept r (s.meshLeave) := by
  simp only [State.meshLeave]; repeat' split
  all_goals simp +contextual (maxDischargeDepth := 99) [h]

@[simp] theorem State.meshReport_kept (h : State.Kept r s) : State.Kept r (s.meshReport) := by unfold State.meshReport; split <;> simp +contextual (maxDischargeDepth := 99) [h]

@[simp] theorem State.meshCtl_kept (h : State.Kept r s) {v : Nat} : State.Kept r (s.meshCtl v) := by
  unfold State.meshCtl; repeat' split
  all_goals simp +contextual (maxDischargeDepth := 99) [h]

@[simp] theorem State.fogAlarm_kept (h : State.Kept r s) : State.Kept r (s.fogAlarm) := by simp +contextual [State.fogAlarm, h]

@[simp] theorem State.provRes_kept (h : State.Kept r s) {r' : Nat} : State.Kept r (s.provRes r') := by simp +contextual [State.provRes, h]

@[simp] theorem State.provWrite_kept (h : State.Kept r s) : State.Kept r (s.provWrite) := by
  simp only [State.provWrite]; repeat' split
  all_goals simp +contextual (maxDischargeDepth := 99) [h]

@[simp] theorem State.provDelete_kept (h : State.Kept r s) : State.Kept r (s.provDelete) := by
  simp only [State.provDelete]; repeat' split
  all_goals simp +contextual (maxDischargeDepth := 99) [h]

@[simp] theorem State.provLoad_kept (h : State.Kept r s) : State.Kept r (s.provLoad) := by unfold State.provLoad; split <;> simp +contextual (maxDischargeDepth := 99) [h]

@[simp] theorem State.provCtl_kept (h : State.Kept r s) {v : Nat} : State.Kept r (s.provCtl v) := by
  unfold State.provCtl; repeat' split
  all_goals simp +contextual (maxDischargeDepth := 99) [h]

end Sys2Proof.Machine
end

