-- ==== Sys2Proof/Laws/KeptRegIO.lean ====
section
/-! SUPPORT. `State.Kept` for the operations of RegIO.lean. -/

namespace Sys2Proof.Machine

variable {r s : State}

@[simp] theorem State.readPlain_kept (h : State.Kept r s) {a : Nat} : State.Kept r (s.readPlain a).2 := by
  unfold State.readPlain; repeat' split
  all_goals simp +contextual (maxDischargeDepth := 99) [h]

@[simp] theorem State.readSys_kept (h : State.Kept r s) {a : Nat} : State.Kept r (s.readSys a).2 := by
  unfold State.readSys; repeat' split
  all_goals simp +contextual (maxDischargeDepth := 99) [h]

@[simp] theorem State.readHif_kept (h : State.Kept r s) {a : Nat} : State.Kept r (s.readHif a).2 := by
  unfold State.readHif; repeat' split
  all_goals simp +contextual (maxDischargeDepth := 99) [h]

@[simp] theorem State.readTiu_kept (h : State.Kept r s) {a : Nat} : State.Kept r (s.readTiu a).2 := by
  unfold State.readTiu; repeat' split
  all_goals simp +contextual (maxDischargeDepth := 99) [h]

@[simp] theorem State.readEch_kept (h : State.Kept r s) {a : Nat} : State.Kept r (s.readEch a).2 := by unfold State.readEch; split <;> simp +contextual (maxDischargeDepth := 99) [h]

@[simp] theorem State.readFlw_kept (h : State.Kept r s) {a : Nat} : State.Kept r (s.readFlw a).2 := by
  unfold State.readFlw; repeat' split
  all_goals simp +contextual (maxDischargeDepth := 99) [h]

@[simp] theorem State.readTmu_kept (h : State.Kept r s) {a : Nat} : State.Kept r (s.readTmu a).2 := by
  unfold State.readTmu; repeat' split
  all_goals simp +contextual (maxDischargeDepth := 99) [h]

@[simp] theorem State.readLdg_kept (h : State.Kept r s) {a : Nat} : State.Kept r (s.readLdg a).2 := by
  unfold State.readLdg; repeat' split
  all_goals simp +contextual (maxDischargeDepth := 99) [h]

@[simp] theorem State.readRad_kept (h : State.Kept r s) {a : Nat} : State.Kept r (s.readRad a).2 := by
  unfold State.readRad; repeat' split
  all_goals simp +contextual (maxDischargeDepth := 99) [h]

@[simp] theorem State.readMsh_kept (h : State.Kept r s) {a : Nat} : State.Kept r (s.readMsh a).2 := by unfold State.readMsh; split <;> simp +contextual (maxDischargeDepth := 99) [h]

@[simp] theorem State.readMem_kept (h : State.Kept r s) {a : Nat} : State.Kept r (s.readMem a).2 := by unfold State.readMem; split <;> simp +contextual (maxDischargeDepth := 99) [h]

@[simp] theorem State.readRtc_kept (h : State.Kept r s) {a : Nat} : State.Kept r (s.readRtc a).2 := by
  unfold State.readRtc; repeat' split
  all_goals simp +contextual (maxDischargeDepth := 99) [h]

@[simp] theorem State.readPwr_kept (h : State.Kept r s) {a : Nat} : State.Kept r (s.readPwr a).2 := by simp +contextual [State.readPwr, h]

@[simp] theorem State.readUpd_kept (h : State.Kept r s) {a : Nat} : State.Kept r (s.readUpd a).2 := by
  unfold State.readUpd; repeat' split
  all_goals simp +contextual (maxDischargeDepth := 99) [h]

@[simp] theorem State.readReg_kept (h : State.Kept r s) {a : Nat} : State.Kept r (s.readReg a).2 := by
  unfold State.readReg; repeat' split
  all_goals simp +contextual (maxDischargeDepth := 99) [h]

@[simp] theorem State.writePlain_kept (h : State.Kept r s) {a v : Nat} : State.Kept r (s.writePlain a v) := by
  unfold State.writePlain; repeat' split
  all_goals simp +contextual (maxDischargeDepth := 99) [h]

@[simp] theorem State.discardCommit_kept (h : State.Kept r s) {region : Nat} : State.Kept r (s.discardCommit region) := by simp +contextual (maxDischargeDepth := 99) [State.discardCommit, h]

@[simp] theorem State.writeCommit_kept (h : State.Kept r s) {region v : Nat} : State.Kept r (s.writeCommit region v) := by
  unfold State.writeCommit; repeat' split
  all_goals simp +contextual (maxDischargeDepth := 99) [h]

@[simp] theorem State.writeHif_kept (h : State.Kept r s) {a v : Nat} : State.Kept r (s.writeHif a v) := by
  simp only [State.writeHif]; repeat' split
  all_goals simp +contextual (maxDischargeDepth := 99) [h]

@[simp] theorem State.writeAfe_kept (h : State.Kept r s) {a v : Nat} : State.Kept r (s.writeAfe a v) := by unfold State.writeAfe; split <;> simp +contextual (maxDischargeDepth := 99) [h]

@[simp] theorem State.writeEvArm_kept (h : State.Kept r s) {e v : Nat} : State.Kept r (s.writeEvArm e v) := by
  unfold State.writeEvArm; repeat' split
  all_goals simp +contextual (maxDischargeDepth := 99) [h]

@[simp] theorem State.writeStat_kept (h : State.Kept r s) {c v : Nat} : State.Kept r (s.writeStat c v) := by
  simp only [State.writeStat]; repeat' split
  all_goals simp +contextual (maxDischargeDepth := 99) [h]

@[simp] theorem State.writeTiu_kept (h : State.Kept r s) {a v : Nat} : State.Kept r (s.writeTiu a v) := by
  unfold State.writeTiu; repeat' split
  all_goals simp +contextual (maxDischargeDepth := 99) [h]

@[simp] theorem State.echCtl_kept (h : State.Kept r s) {v : Nat} : State.Kept r (s.echCtl v) := by simp +contextual (maxDischargeDepth := 99) [State.echCtl, h]

@[simp] theorem State.hostEmpty_kept (h : State.Kept r s) : State.Kept r (s.hostEmpty) := by simp +contextual (maxDischargeDepth := 99) [State.hostEmpty, h]

@[simp] theorem State.hostRefill_kept (h : State.Kept r s) : State.Kept r (s.hostRefill) := by simp +contextual [State.hostRefill, h]

@[simp] theorem State.writeEch_kept (h : State.Kept r s) {a v : Nat} : State.Kept r (s.writeEch a v) := by
  unfold State.writeEch; repeat' split
  all_goals simp +contextual (maxDischargeDepth := 99) [h]

@[simp] theorem State.flwCtl_kept (h : State.Kept r s) {v : Nat} : State.Kept r (s.flwCtl v) := by simp +contextual (maxDischargeDepth := 99) [State.flwCtl, h]

@[simp] theorem State.writeFlw_kept (h : State.Kept r s) {a v : Nat} : State.Kept r (s.writeFlw a v) := by unfold State.writeFlw; split <;> simp +contextual (maxDischargeDepth := 99) [h]

@[simp] theorem State.writeLdg_kept (h : State.Kept r s) {a v : Nat} : State.Kept r (s.writeLdg a v) := by
  unfold State.writeLdg; repeat' split
  all_goals simp +contextual (maxDischargeDepth := 99) [h]

@[simp] theorem State.writeRad_kept (h : State.Kept r s) {a v : Nat} : State.Kept r (s.writeRad a v) := by unfold State.writeRad; split <;> simp +contextual (maxDischargeDepth := 99) [h]

@[simp] theorem State.writeMsh_kept (h : State.Kept r s) {a v : Nat} : State.Kept r (s.writeMsh a v) := by
  unfold State.writeMsh; repeat' split
  all_goals simp +contextual (maxDischargeDepth := 99) [h]

@[simp] theorem State.writeFlip_kept (h : State.Kept r s) {v : Nat} : State.Kept r (s.writeFlip v) := by
  unfold State.writeFlip; repeat' split
  all_goals simp +contextual (maxDischargeDepth := 99) [h]

@[simp] theorem State.writeRetire_kept (h : State.Kept r s) {v : Nat} : State.Kept r (s.writeRetire v) := by
  unfold State.writeRetire; repeat' split
  all_goals simp +contextual (maxDischargeDepth := 99) [h]

@[simp] theorem State.writeMem_kept (h : State.Kept r s) {a v : Nat} : State.Kept r (s.writeMem a v) := by
  unfold State.writeMem; repeat' split
  all_goals simp +contextual (maxDischargeDepth := 99) [h]

@[simp] theorem State.writePwr_kept (h : State.Kept r s) {a v : Nat} : State.Kept r (s.writePwr a v) := by
  unfold State.writePwr; repeat' split
  all_goals simp +contextual (maxDischargeDepth := 99) [h]

@[simp] theorem State.writeRtcCommit_kept (h : State.Kept r s) {v : Nat} : State.Kept r (s.writeRtcCommit v) := by
  unfold State.writeRtcCommit; repeat' split
  all_goals simp +contextual (maxDischargeDepth := 99) [h]

@[simp] theorem State.writeRtc_kept (h : State.Kept r s) {a v : Nat} : State.Kept r (s.writeRtc a v) := by
  unfold State.writeRtc; repeat' split
  all_goals simp +contextual (maxDischargeDepth := 99) [h]

@[simp] theorem State.writeUpd_kept (h : State.Kept r s) {a v : Nat} : State.Kept r (s.writeUpd a v) := by
  unfold State.writeUpd; repeat' split
  all_goals simp +contextual (maxDischargeDepth := 99) [h]

@[simp] theorem State.writeReg_kept (h : State.Kept r s) {a v : Nat} : State.Kept r (s.writeReg a v) := by
  unfold State.writeReg; repeat' split
  all_goals simp +contextual (maxDischargeDepth := 99) [h]

end Sys2Proof.Machine
end

