-- ==== Sys2Proof/Laws/KeptHostMem.lean ====
section
/-! SUPPORT. `State.Kept` for the operations of HostMem.lean. -/

namespace Sys2Proof.Machine

variable {r s : State}

@[simp] theorem State.touchBanks_kept (h : State.Kept r s) {a n : Nat} : State.Kept r (s.touchBanks a n) := by
  simp +contextual (maxDischargeDepth := 99) [State.touchBanks, kept_ite_iff, h]

@[simp] theorem State.readWords_kept (h : State.Kept r s) {y0 : List Nat} : State.Kept r (s.readWords y0).2 := by
  induction y0 generalizing s with
  | nil => simp [State.readWords, h]
  | cons _ _ ih => simp +contextual (maxDischargeDepth := 99) [State.readWords, h, ih]

@[simp] theorem State.hideKeeper_kept (h : State.Kept r s) {a : Nat} {l : List (Byte × Bool)} : State.Kept r (s.hideKeeper a l).2 := by
  simp only [State.hideKeeper]; repeat' split
  all_goals simp +contextual (maxDischargeDepth := 99) [h]

@[simp] theorem State.readFrame_kept (h : State.Kept r s) {a n : Nat} : State.Kept r (s.readFrame a n).2 := by
  simp only [State.readFrame]; repeat' split
  all_goals simp +contextual (maxDischargeDepth := 99) [h]

@[simp] theorem State.rtcFrame_kept (h : State.Kept r s) {l : List (Nat × Nat)} : State.Kept r (s.rtcFrame l) := by
  unfold State.rtcFrame
  apply kept_foldl h; intro t p ht
  split <;> simp [ht]

@[simp] theorem State.afterLocked_kept (h : State.Kept r s) {l : List (Nat × Nat)} : State.Kept r (s.afterLocked l) := by
  simp +contextual (maxDischargeDepth := 99) [State.afterLocked, kept_ite_iff, h]

@[simp] theorem State.writeMemory_kept (h : State.Kept r s) {a : Nat} {d : List Byte} : State.Kept r (s.writeMemory a d) := by simp +contextual [State.writeMemory, h]

@[simp] theorem State.writeFrame_kept (h : State.Kept r s) {a : Nat} {d : List Byte} : State.Kept r (s.writeFrame a d).2 := by
  simp only [State.writeFrame]; repeat' split
  all_goals simp +contextual (maxDischargeDepth := 99) [h]

end Sys2Proof.Machine
end

