-- ==== Sys2Proof/Laws/KeptOpSubmit.lean ====
section
/-! SUPPORT. `State.Kept` for the operations of OpSubmit.lean. -/

namespace Sys2Proof.Machine

variable {r s : State}

@[simp] theorem State.queueHostTx_kept (h : State.Kept r s) {i : Nat} : State.Kept r (s.queueHostTx i) := by
  simp only [State.queueHostTx]; repeat' split
  all_goals simp +contextual (maxDischargeDepth := 99) [h]

@[simp] theorem State.opAccepted_kept (h : State.Kept r s) {i type : Nat} : State.Kept r (s.opAccepted i type) := by
  unfold State.opAccepted; repeat' split
  all_goals simp +contextual (maxDischargeDepth := 99) [h]

end Sys2Proof.Machine
end

