-- ==== Sys2Proof/Laws/KeptHif.lean ====
section
/-! SUPPORT. `State.Kept` for the operations of Hif.lean. -/

namespace Sys2Proof.Machine

variable {r s : State}

@[simp] theorem State.respond_kept (h : State.Kept r s) {r' : Resp} : State.Kept r (s.respond r') := by simp +contextual [State.respond, h]

@[simp] theorem State.answer_kept (h : State.Kept r s) {status : Nat} : State.Kept r (s.answer status) := by simp +contextual [State.answer, h]

@[simp] theorem State.cacheFrame_kept (h : State.Kept r s) {f : Frame} {status : Nat} : State.Kept r (s.cacheFrame f status) := by unfold State.cacheFrame; split <;> simp +contextual (maxDischargeDepth := 99) [h]

@[simp] theorem State.stream_kept (h : State.Kept r s) {k n : Nat} : State.Kept r (s.stream k n).2 := by simp +contextual (maxDischargeDepth := 99) [State.stream, h]

@[simp] theorem State.serveStream_kept (h : State.Kept r s) {f : Frame} : State.Kept r (s.serveStream f) := by
  simp only [State.serveStream]; repeat' split
  all_goals simp +contextual (maxDischargeDepth := 99) [h]

@[simp] theorem State.serveSubmit_kept (h : State.Kept r s) {f : Frame} : State.Kept r (s.serveSubmit f) := by
  simp only [State.serveSubmit]; repeat' split
  all_goals simp +contextual (maxDischargeDepth := 99) [h]

@[simp] theorem State.releaseOp_kept (h : State.Kept r s) {addr : Nat} : State.Kept r (s.releaseOp addr) := by
  unfold State.releaseOp; repeat' split
  all_goals simp +contextual (maxDischargeDepth := 99) [h]

@[simp] theorem State.serveStatus_kept (h : State.Kept r s) {f : Frame} : State.Kept r (s.serveStatus f) := by simp +contextual [State.serveStatus, h]

@[simp] theorem State.serveRead_kept (h : State.Kept r s) {a n : Nat} : State.Kept r (s.serveRead a n) := by
  simp only [State.serveRead]; repeat' split
  all_goals simp +contextual (maxDischargeDepth := 99) [h]

@[simp] theorem State.serveWrite_kept (h : State.Kept r s) {f : Frame} : State.Kept r (s.serveWrite f) := by simp +contextual (maxDischargeDepth := 99) [State.serveWrite, h]

@[simp] theorem State.serveBlock_kept (h : State.Kept r s) {f : Frame} : State.Kept r (s.serveBlock f) := by unfold State.serveBlock; split <;> simp +contextual (maxDischargeDepth := 99) [h]

@[simp] theorem State.serveRepeat_kept (h : State.Kept r s) {f : Frame} {cached : Nat} : State.Kept r (s.serveRepeat f cached) := by unfold State.serveRepeat; split <;> simp +contextual (maxDischargeDepth := 99) [h]

@[simp] theorem State.request_kept (h : State.Kept r s) {f : Frame} : State.Kept r (s.request f) := by
  unfold State.request; repeat' split
  all_goals simp +contextual (maxDischargeDepth := 99) [h]

theorem execRead_kept {z : State} (h : State.Kept r s) {tag : Byte} {addr : BitVec 24} {len crc : BitVec 16} (e : execRead tag addr len crc s = .next z) : State.Kept r z := by
  simp only [execRead, State.run, Host.Outcome.next.injEq] at e; subst e
  split <;> simp +contextual (maxDischargeDepth := 99) [h]

theorem execWrite_kept {z : State} (h : State.Kept r s) {tag : Byte} {addr : BitVec 24} {data : List Byte} {crc : BitVec 16} (e : execWrite tag addr data crc s = .next z) : State.Kept r z := by
  simp only [execWrite, State.run, Host.Outcome.next.injEq] at e; subst e
  split <;> simp +contextual (maxDischargeDepth := 99) [h]

theorem execOpStatus_kept {z : State} (h : State.Kept r s) {tag : Byte} {addr : BitVec 24} {len crc : BitVec 16} (e : execOpStatus tag addr len crc s = .next z) : State.Kept r z := by
  simp only [execOpStatus, State.run, Host.Outcome.next.injEq] at e; subst e
  split <;> simp +contextual (maxDischargeDepth := 99) [h]

theorem execStreamRead_kept {z : State} (h : State.Kept r s) {tag : Byte} {addr : BitVec 24} {len crc : BitVec 16} (e : execStreamRead tag addr len crc s = .next z) : State.Kept r z := by
  simp only [execStreamRead, State.run, Host.Outcome.next.injEq] at e; subst e
  split <;> simp +contextual (maxDischargeDepth := 99) [h]

theorem execUpdateBlock_kept {z : State} (h : State.Kept r s) {tag : Byte} {addr : BitVec 24} {data : List Byte} {crc : BitVec 16} (e : execUpdateBlock tag addr data crc s = .next z) : State.Kept r z := by
  simp only [execUpdateBlock, State.run, Host.Outcome.next.injEq] at e; subst e
  split <;> simp +contextual (maxDischargeDepth := 99) [h]

theorem execRequestAbort_kept {z : State} (h : State.Kept r s)  (e : execRequestAbort s = .next z) : State.Kept r z := by
  simp only [execRequestAbort, State.run, Host.Outcome.next.injEq] at e; subst e
  split <;> simp +contextual (maxDischargeDepth := 99) [h]

theorem execShot_kept {z : State} (h : State.Kept r s) {r' : OpReq} (e : execShot r' s = .next z) : State.Kept r z := by
  simp only [execShot, State.run, Host.Outcome.next.injEq] at e; subst e
  split <;> simp +contextual (maxDischargeDepth := 99) [h]

theorem execConvert_kept {z : State} (h : State.Kept r s) {r' : OpReq} (e : execConvert r' s = .next z) : State.Kept r z := by
  simp only [execConvert, State.run, Host.Outcome.next.injEq] at e; subst e
  split <;> simp +contextual (maxDischargeDepth := 99) [h]

theorem execNvmWrite_kept {z : State} (h : State.Kept r s) {r' : OpReq} (e : execNvmWrite r' s = .next z) : State.Kept r z := by
  simp only [execNvmWrite, State.run, Host.Outcome.next.injEq] at e; subst e
  split <;> simp +contextual (maxDischargeDepth := 99) [h]

theorem execScrub_kept {z : State} (h : State.Kept r s) {r' : OpReq} (e : execScrub r' s = .next z) : State.Kept r z := by
  simp only [execScrub, State.run, Host.Outcome.next.injEq] at e; subst e
  split <;> simp +contextual (maxDischargeDepth := 99) [h]

theorem execRadioTx_kept {z : State} (h : State.Kept r s) {r' : OpReq} (e : execRadioTx r' s = .next z) : State.Kept r z := by
  simp only [execRadioTx, State.run, Host.Outcome.next.injEq] at e; subst e
  split <;> simp +contextual (maxDischargeDepth := 99) [h]

theorem execRadioScan_kept {z : State} (h : State.Kept r s) {r' : OpReq} (e : execRadioScan r' s = .next z) : State.Kept r z := by
  simp only [execRadioScan, State.run, Host.Outcome.next.injEq] at e; subst e
  split <;> simp +contextual (maxDischargeDepth := 99) [h]

theorem execLedgerCommit_kept {z : State} (h : State.Kept r s) {r' : OpReq} (e : execLedgerCommit r' s = .next z) : State.Kept r z := by
  simp only [execLedgerCommit, State.run, Host.Outcome.next.injEq] at e; subst e
  split <;> simp +contextual (maxDischargeDepth := 99) [h]

theorem execSlinkSet_kept {z : State} (h : State.Kept r s) {r' : OpReq} (e : execSlinkSet r' s = .next z) : State.Kept r z := by
  simp only [execSlinkSet, State.run, Host.Outcome.next.injEq] at e; subst e
  split <;> simp +contextual (maxDischargeDepth := 99) [h]

theorem execStiLoad_kept {z : State} (h : State.Kept r s) {r' : OpReq} (e : execStiLoad r' s = .next z) : State.Kept r z := by
  simp only [execStiLoad, State.run, Host.Outcome.next.injEq] at e; subst e
  split <;> simp +contextual (maxDischargeDepth := 99) [h]

end Sys2Proof.Machine
end

