-- ==== Sys2Proof/Laws/KeptHostRegs.lean ====
section
/-! SUPPORT. `State.Kept` for the operations of HostRegs.lean. -/

namespace Sys2Proof.Machine

variable {r s : State}

@[simp] theorem State.hostWord_kept (h : State.Kept r s) {a v : Nat} : State.Kept r (s.hostWord a v) := by simp +contextual [State.hostWord, h]

@[simp] theorem State.hostRead_kept (h : State.Kept r s) {a : Nat} : State.Kept r (s.hostRead a) := by simp +contextual [State.hostRead, h]

theorem execRegisterWrite_kept {z : State} (h : State.Kept r s) {addr : BitVec 24} {v : Word} (e : execRegisterWrite addr v s = .next z) : State.Kept r z := by
  simp only [execRegisterWrite, State.run, Host.Outcome.next.injEq] at e; subst e
  split <;> simp +contextual (maxDischargeDepth := 99) [h]

theorem execPendingWrite_kept {z : State} (h : State.Kept r s) {addr : BitVec 24} {v : Word} (e : execPendingWrite addr v s = .next z) : State.Kept r z := by
  simp only [execPendingWrite, State.run, Host.Outcome.next.injEq] at e; subst e
  split <;> simp +contextual (maxDischargeDepth := 99) [h]

theorem execCommitReq_kept {z : State} (h : State.Kept r s) {b : CommitBlock} (e : execCommitReq b s = .next z) : State.Kept r z := by
  simp only [execCommitReq, State.run, Host.Outcome.next.injEq] at e; subst e
  split <;> simp +contextual (maxDischargeDepth := 99) [h]

theorem execCommitDiscard_kept {z : State} (h : State.Kept r s) {b : CommitBlock} (e : execCommitDiscard b s = .next z) : State.Kept r z := by
  simp only [execCommitDiscard, State.run, Host.Outcome.next.injEq] at e; subst e
  split <;> simp +contextual (maxDischargeDepth := 99) [h]

theorem execAccumulatorSnapshot_kept {z : State} (h : State.Kept r s) {a : Fin 17} (e : execAccumulatorSnapshot a s = .next z) : State.Kept r z := by
  simp only [execAccumulatorSnapshot, State.run, Host.Outcome.next.injEq] at e; subst e
  split <;> simp +contextual (maxDischargeDepth := 99) [h]

theorem execFlwStatusSnapshot_kept {z : State} (h : State.Kept r s)  (e : execFlwStatusSnapshot s = .next z) : State.Kept r z := by
  simp only [execFlwStatusSnapshot, State.run, Host.Outcome.next.injEq] at e; subst e
  split <;> simp +contextual (maxDischargeDepth := 99) [h]

theorem execTmuStatusSnapshot_kept {z : State} (h : State.Kept r s)  (e : execTmuStatusSnapshot s = .next z) : State.Kept r z := by
  simp only [execTmuStatusSnapshot, State.run, Host.Outcome.next.injEq] at e; subst e
  split <;> simp +contextual (maxDischargeDepth := 99) [h]

theorem execEventChannelArm_kept {z : State} (h : State.Kept r s) {e : Fin 6} (e : execEventChannelArm e s = .next z) : State.Kept r z := by
  simp only [execEventChannelArm, State.run, Host.Outcome.next.injEq] at e; subst e
  split <;> simp +contextual (maxDischargeDepth := 99) [h]

theorem execEventChannelDisarm_kept {z : State} (h : State.Kept r s) {e : Fin 6} (e : execEventChannelDisarm e s = .next z) : State.Kept r z := by
  simp only [execEventChannelDisarm, State.run, Host.Outcome.next.injEq] at e; subst e
  split <;> simp +contextual (maxDischargeDepth := 99) [h]

theorem execResultQueueRead_kept {z : State} (h : State.Kept r s) {e : Fin 6} (e : execResultQueueRead e s = .next z) : State.Kept r z := by
  simp only [execResultQueueRead, State.run, Host.Outcome.next.injEq] at e; subst e
  split <;> simp +contextual (maxDischargeDepth := 99) [h]

theorem execStatisticsGo_kept {z : State} (h : State.Kept r s) {c : Fin 22} {v : Word} (e : execStatisticsGo c v s = .next z) : State.Kept r z := by
  simp only [execStatisticsGo, State.run, Host.Outcome.next.injEq] at e; subst e
  split <;> simp +contextual (maxDischargeDepth := 99) [h]

theorem execStatisticsStop_kept {z : State} (h : State.Kept r s) {c : Fin 22} {v : Word} (e : execStatisticsStop c v s = .next z) : State.Kept r z := by
  simp only [execStatisticsStop, State.run, Host.Outcome.next.injEq] at e; subst e
  split <;> simp +contextual (maxDischargeDepth := 99) [h]

theorem execStatisticsSnapshot_kept {z : State} (h : State.Kept r s) {c : Fin 22} (e : execStatisticsSnapshot c s = .next z) : State.Kept r z := by
  simp only [execStatisticsSnapshot, State.run, Host.Outcome.next.injEq] at e; subst e
  split <;> simp +contextual (maxDischargeDepth := 99) [h]

theorem execSlotRelease_kept {z : State} (h : State.Kept r s) {mask : BitVec 16} (e : execSlotRelease mask s = .next z) : State.Kept r z := by
  simp only [execSlotRelease, State.run, Host.Outcome.next.injEq] at e; subst e
  split <;> simp +contextual (maxDischargeDepth := 99) [h]

theorem execReseed_kept {z : State} (h : State.Kept r s) {mask : Byte} (e : execReseed mask s = .next z) : State.Kept r z := by
  simp only [execReseed, State.run, Host.Outcome.next.injEq] at e; subst e
  split <;> simp +contextual (maxDischargeDepth := 99) [h]

theorem execAmpReset_kept {z : State} (h : State.Kept r s) {mask : Byte} (e : execAmpReset mask s = .next z) : State.Kept r z := by
  simp only [execAmpReset, State.run, Host.Outcome.next.injEq] at e; subst e
  split <;> simp +contextual (maxDischargeDepth := 99) [h]

theorem execHostEmpty_kept {z : State} (h : State.Kept r s)  (e : execHostEmpty s = .next z) : State.Kept r z := by
  simp only [execHostEmpty, State.run, Host.Outcome.next.injEq] at e; subst e
  split <;> simp +contextual (maxDischargeDepth := 99) [h]

theorem execHostRefill_kept {z : State} (h : State.Kept r s)  (e : execHostRefill s = .next z) : State.Kept r z := by
  simp only [execHostRefill, State.run, Host.Outcome.next.injEq] at e; subst e
  split <;> simp +contextual (maxDischargeDepth := 99) [h]

theorem execUnfail_kept {z : State} (h : State.Kept r s) {mask : Byte} (e : execUnfail mask s = .next z) : State.Kept r z := by
  simp only [execUnfail, State.run, Host.Outcome.next.injEq] at e; subst e
  split <;> simp +contextual (maxDischargeDepth := 99) [h]

theorem execRatioReset_kept {z : State} (h : State.Kept r s) {mask : Byte} (e : execRatioReset mask s = .next z) : State.Kept r z := by
  simp only [execRatioReset, State.run, Host.Outcome.next.injEq] at e; subst e
  split <;> simp +contextual (maxDischargeDepth := 99) [h]

theorem execClearLedger_kept {z : State} (h : State.Kept r s) {v : Word} (e : execClearLedger v s = .next z) : State.Kept r z := by
  simp only [execClearLedger, State.run, Host.Outcome.next.injEq] at e; subst e
  split <;> simp +contextual (maxDischargeDepth := 99) [h]

theorem execHostincGo_kept {z : State} (h : State.Kept r s)  (e : execHostincGo s = .next z) : State.Kept r z := by
  simp only [execHostincGo, State.run, Host.Outcome.next.injEq] at e; subst e
  split <;> simp +contextual (maxDischargeDepth := 99) [h]

theorem execRxrel_kept {z : State} (h : State.Kept r s) {mask : BitVec 4} (e : execRxrel mask s = .next z) : State.Kept r z := by
  simp only [execRxrel, State.run, Host.Outcome.next.injEq] at e; subst e
  split <;> simp +contextual (maxDischargeDepth := 99) [h]

theorem execJoin_kept {z : State} (h : State.Kept r s)  (e : execJoin s = .next z) : State.Kept r z := by
  simp only [execJoin, State.run, Host.Outcome.next.injEq] at e; subst e
  split <;> simp +contextual (maxDischargeDepth := 99) [h]

theorem execLeave_kept {z : State} (h : State.Kept r s)  (e : execLeave s = .next z) : State.Kept r z := by
  simp only [execLeave, State.run, Host.Outcome.next.injEq] at e; subst e
  split <;> simp +contextual (maxDischargeDepth := 99) [h]

theorem execReport_kept {z : State} (h : State.Kept r s)  (e : execReport s = .next z) : State.Kept r z := by
  simp only [execReport, State.run, Host.Outcome.next.injEq] at e; subst e
  split <;> simp +contextual (maxDischargeDepth := 99) [h]

theorem execFogGo_kept {z : State} (h : State.Kept r s)  (e : execFogGo s = .next z) : State.Kept r z := by
  simp only [execFogGo, State.run, Host.Outcome.next.injEq] at e; subst e
  split <;> simp +contextual (maxDischargeDepth := 99) [h]

theorem execProvisionWrite_kept {z : State} (h : State.Kept r s)  (e : execProvisionWrite s = .next z) : State.Kept r z := by
  simp only [execProvisionWrite, State.run, Host.Outcome.next.injEq] at e; subst e
  split <;> simp +contextual (maxDischargeDepth := 99) [h]

theorem execProvisionDelete_kept {z : State} (h : State.Kept r s)  (e : execProvisionDelete s = .next z) : State.Kept r z := by
  simp only [execProvisionDelete, State.run, Host.Outcome.next.injEq] at e; subst e
  split <;> simp +contextual (maxDischargeDepth := 99) [h]

theorem execProvisionLoad_kept {z : State} (h : State.Kept r s)  (e : execProvisionLoad s = .next z) : State.Kept r z := by
  simp only [execProvisionLoad, State.run, Host.Outcome.next.injEq] at e; subst e
  split <;> simp +contextual (maxDischargeDepth := 99) [h]

theorem execKeeperEventRead_kept {z : State} (h : State.Kept r s)  (e : execKeeperEventRead s = .next z) : State.Kept r z := by
  simp only [execKeeperEventRead, State.run, Host.Outcome.next.injEq] at e; subst e
  split <;> simp +contextual (maxDischargeDepth := 99) [h]

theorem execRowRetire_kept {z : State} (h : State.Kept r s) {bank : Fin 16} {row : Fin 32} (e : execRowRetire bank row s = .next z) : State.Kept r z := by
  simp only [execRowRetire, State.run, Host.Outcome.next.injEq] at e; subst e
  split <;> simp +contextual (maxDischargeDepth := 99) [h]

theorem execPageRetire_kept {z : State} (h : State.Kept r s) {page : Fin 512} (e : execPageRetire page s = .next z) : State.Kept r z := by
  simp only [execPageRetire, State.run, Host.Outcome.next.injEq] at e; subst e
  split <;> simp +contextual (maxDischargeDepth := 99) [h]

theorem execFlipArm_kept {z : State} (h : State.Kept r s) {region : Fin 32} (e : execFlipArm region s = .next z) : State.Kept r z := by
  simp only [execFlipArm, State.run, Host.Outcome.next.injEq] at e; subst e
  split <;> simp +contextual (maxDischargeDepth := 99) [h]

theorem execFlipDisarm_kept {z : State} (h : State.Kept r s) {region : Fin 32} (e : execFlipDisarm region s = .next z) : State.Kept r z := by
  simp only [execFlipDisarm, State.run, Host.Outcome.next.injEq] at e; subst e
  split <;> simp +contextual (maxDischargeDepth := 99) [h]

theorem execLogSnapshot_kept {z : State} (h : State.Kept r s)  (e : execLogSnapshot s = .next z) : State.Kept r z := by
  simp only [execLogSnapshot, State.run, Host.Outcome.next.injEq] at e; subst e
  split <;> simp +contextual (maxDischargeDepth := 99) [h]

theorem execLogClear_kept {z : State} (h : State.Kept r s)  (e : execLogClear s = .next z) : State.Kept r z := by
  simp only [execLogClear, State.run, Host.Outcome.next.injEq] at e; subst e
  split <;> simp +contextual (maxDischargeDepth := 99) [h]

theorem execPolicyWrite_kept {z : State} (h : State.Kept r s) {v : Word} (e : execPolicyWrite v s = .next z) : State.Kept r z := by
  simp only [execPolicyWrite, State.run, Host.Outcome.next.injEq] at e; subst e
  split <;> simp +contextual (maxDischargeDepth := 99) [h]

theorem execHold_kept {z : State} (h : State.Kept r s) {v : Word} (e : execHold v s = .next z) : State.Kept r z := by
  simp only [execHold, State.run, Host.Outcome.next.injEq] at e; subst e
  split <;> simp +contextual (maxDischargeDepth := 99) [h]

theorem execSleepSet_kept {z : State} (h : State.Kept r s) {v : Word} (e : execSleepSet v s = .next z) : State.Kept r z := by
  simp only [execSleepSet, State.run, Host.Outcome.next.injEq] at e; subst e
  split <;> simp +contextual (maxDischargeDepth := 99) [h]

theorem execRtcFieldWrite_kept {z : State} (h : State.Kept r s) {f : Fin 9} {v : Word} (e : execRtcFieldWrite f v s = .next z) : State.Kept r z := by
  simp only [execRtcFieldWrite, State.run, Host.Outcome.next.injEq] at e; subst e
  split <;> simp +contextual (maxDischargeDepth := 99) [h]

theorem execRtcCommit_kept {z : State} (h : State.Kept r s)  (e : execRtcCommit s = .next z) : State.Kept r z := by
  simp only [execRtcCommit, State.run, Host.Outcome.next.injEq] at e; subst e
  split <;> simp +contextual (maxDischargeDepth := 99) [h]

theorem execRtcDiscard_kept {z : State} (h : State.Kept r s)  (e : execRtcDiscard s = .next z) : State.Kept r z := by
  simp only [execRtcDiscard, State.run, Host.Outcome.next.injEq] at e; subst e
  split <;> simp +contextual (maxDischargeDepth := 99) [h]

theorem execRtcUnfreeze_kept {z : State} (h : State.Kept r s)  (e : execRtcUnfreeze s = .next z) : State.Kept r z := by
  simp only [execRtcUnfreeze, State.run, Host.Outcome.next.injEq] at e; subst e
  split <;> simp +contextual (maxDischargeDepth := 99) [h]

theorem execTimeRead_kept {z : State} (h : State.Kept r s) {f : Fin 9} (e : execTimeRead f s = .next z) : State.Kept r z := by
  simp only [execTimeRead, State.run, Host.Outcome.next.injEq] at e; subst e
  split <;> simp +contextual (maxDischargeDepth := 99) [h]

theorem execTrimWrite_kept {z : State} (h : State.Kept r s) {v : Word} (e : execTrimWrite v s = .next z) : State.Kept r z := by
  simp only [execTrimWrite, State.run, Host.Outcome.next.injEq] at e; subst e
  split <;> simp +contextual (maxDischargeDepth := 99) [h]

theorem execUpdBegin_kept {z : State} (h : State.Kept r s)  (e : execUpdBegin s = .next z) : State.Kept r z := by
  simp only [execUpdBegin, State.run, Host.Outcome.next.injEq] at e; subst e
  split <;> simp +contextual (maxDischargeDepth := 99) [h]

theorem execUpdVerify_kept {z : State} (h : State.Kept r s)  (e : execUpdVerify s = .next z) : State.Kept r z := by
  simp only [execUpdVerify, State.run, Host.Outcome.next.injEq] at e; subst e
  split <;> simp +contextual (maxDischargeDepth := 99) [h]

theorem execUpdActivate_kept {z : State} (h : State.Kept r s)  (e : execUpdActivate s = .next z) : State.Kept r z := by
  simp only [execUpdActivate, State.run, Host.Outcome.next.injEq] at e; subst e
  split <;> simp +contextual (maxDischargeDepth := 99) [h]

theorem execUpdAbort_kept {z : State} (h : State.Kept r s)  (e : execUpdAbort s = .next z) : State.Kept r z := by
  simp only [execUpdAbort, State.run, Host.Outcome.next.injEq] at e; subst e
  split <;> simp +contextual (maxDischargeDepth := 99) [h]

theorem execUpdConfirm_kept {z : State} (h : State.Kept r s)  (e : execUpdConfirm s = .next z) : State.Kept r z := by
  simp only [execUpdConfirm, State.run, Host.Outcome.next.injEq] at e; subst e
  split <;> simp +contextual (maxDischargeDepth := 99) [h]

theorem execTransitionRequest_kept {z : State} (h : State.Kept r s) {v : Word} (e : execTransitionRequest v s = .next z) : State.Kept r z := by
  simp only [execTransitionRequest, State.run, Host.Outcome.next.injEq] at e; subst e
  split <;> simp +contextual (maxDischargeDepth := 99) [h]

theorem execTransitionCancel_kept {z : State} (h : State.Kept r s) {v : Word} (e : execTransitionCancel v s = .next z) : State.Kept r z := by
  simp only [execTransitionCancel, State.run, Host.Outcome.next.injEq] at e; subst e
  split <;> simp +contextual (maxDischargeDepth := 99) [h]

theorem execKeyWrite_kept {z : State} (h : State.Kept r s)  (e : execKeyWrite s = .next z) : State.Kept r z := by
  simp only [execKeyWrite, State.run, Host.Outcome.next.injEq] at e; subst e
  split <;> simp +contextual (maxDischargeDepth := 99) [h]

theorem execTrngRead_kept {z : State} (h : State.Kept r s)  (e : execTrngRead s = .next z) : State.Kept r z := by
  simp only [execTrngRead, State.run, Host.Outcome.next.injEq] at e; subst e
  split <;> simp +contextual (maxDischargeDepth := 99) [h]

end Sys2Proof.Machine
end

