-- ==== Sys2Proof/WellFormed.lean ====
section
/-! DEFINITION. Which commands a sender can form: lengths that LEN can state (R290), the registers a row names, and inputs of the shape
the hardware delivers. -/

namespace Sys2Proof

/-- A request whose LEN has 16 bits (R290): the header takes 8 bytes of it. A TYPE given beside the row's is one of no operation, and an
OPCODE given beside OP_SUBMIT's is none of the six. -/
def OpReq.wf (r : OpReq) : Bool :=
  r.params.length + 8 ≤ 0xFFFF && (match r.type with | some t => t == 0 || 9 < t.toNat | none => true) &&
    (match r.opcode with | some o => o == 0 || 6 < o.toNat | none => true)

/-- A frame that fits a receive buffer entry (R255). -/
def RxFrame.wf (f : RxFrame) : Bool := f.psdu.length ≤ 512

/-- Does an address name an RWP register by its active or its pending offset (R92)? -/
def namesRwp (a : Nat) : Bool :=
  (match Machine.findReg a with | some r => r.rwp | none => false) || (Machine.findPending a).isSome

/-- Samples of at most eight chords, one full-rate window per direction (R109, R113). -/
def samplesWf (x : List (List (BitVec 12) × List (BitVec 12))) : Bool :=
  x.length ≤ 8 && x.all fun p => p.1.length ≤ 4096 && p.2.length ≤ 4096

/-- Well-formed commands. A command without a clause here is well-formed as its operands stand. -/
def Instr.wf : Instr → Bool
  | .write _ _ data _ => data.length ≤ 0xFFFF
  | .updateBlock _ _ data _ => data.length ≤ 0xFFFF
  | .shot r => r.wf
  | .convert r => r.wf
  | .nvmWrite r => r.wf
  | .scrub r => r.wf
  | .radioTx r => r.wf
  | .radioScan r => r.wf
  | .ledgerCommit r => r.wf
  | .slinkSet r => r.wf
  | .stiLoad r => r.wf
  | .pendingWrite addr _ => namesRwp addr.toNat
  | .clearLedger v => v.toNat.testBit 0
  | .transitionCancel v => v.toNat % 8 == 7
  | .captureComplete x => samplesWf x
  | .apply1Work rises => rises.length ≤ 16
  | .frameReceived f => f.wf
  | .blockProgram bad => bad.length ≤ 3
  | _ => true

end Sys2Proof
end

