-- ==== Sys2Proof/Laws/PerInstr.lean ====
section
/-! SUPPORT. The request frame of every well-formed command fits the fields of R290: one lemma per command. -/

open Sys2Proof Sys2Proof.Machine

/-- The frame that a well-formed command carries, if it carries one, fits its fields: TAG 8 bits, ADDR 24 bits, LEN 16 bits (R290). -/
def Sys2Proof.Laws.FrameFits.Statement (i : Instr) : Prop :=
  i.wf = true → ∀ f, frameOf i = some f → f.tag < 2 ^ 8 ∧ f.addr < 2 ^ 24 ∧ f.len < 2 ^ 16

namespace Sys2Proof.Laws.FrameFits

/-- The frame of a submission fits where its parameter block does. -/
theorem submit_fits (type : Nat) (r : OpReq) (h : r.wf = true) :
    (submitFrame type r).tag < 2 ^ 8 ∧ (submitFrame type r).addr < 2 ^ 24 ∧ (submitFrame type r).len < 2 ^ 16 := by
  simp only [OpReq.wf, Bool.and_eq_true, decide_eq_true_eq] at h
  cases hu : unknownOpcode r <;>
    simp only [submitFrame, hu, length_leBytes, List.length_append, List.length_cons, List.length_nil] <;>
    exact ⟨r.tag.isLt, r.addr.isLt, by omega⟩

theorem read (tag : Byte) (addr : BitVec 24) (len : BitVec 16) (crc : BitVec 16) : Statement (.read tag addr len crc) :=
  fun _ f hf => by cases hf; exact ⟨tag.isLt, addr.isLt, len.isLt⟩
theorem write (tag : Byte) (addr : BitVec 24) (data : List Byte) (crc : BitVec 16) : Statement (.write tag addr data crc) :=
  fun h f hf => by cases hf; exact ⟨tag.isLt, addr.isLt, Nat.lt_succ_of_le (of_decide_eq_true h)⟩
theorem opStatus (tag : Byte) (addr : BitVec 24) (len : BitVec 16) (crc : BitVec 16) : Statement (.opStatus tag addr len crc) :=
  fun _ f hf => by cases hf; exact ⟨tag.isLt, addr.isLt, len.isLt⟩
theorem streamRead (tag : Byte) (addr : BitVec 24) (len : BitVec 16) (crc : BitVec 16) : Statement (.streamRead tag addr len crc) :=
  fun _ f hf => by cases hf; exact ⟨tag.isLt, addr.isLt, len.isLt⟩
theorem updateBlock (tag : Byte) (addr : BitVec 24) (data : List Byte) (crc : BitVec 16) : Statement (.updateBlock tag addr data crc) :=
  fun h f hf => by cases hf; exact ⟨tag.isLt, addr.isLt, Nat.lt_succ_of_le (of_decide_eq_true h)⟩
theorem requestAbort : Statement (.requestAbort) := fun _ _ hf => nomatch hf
theorem shot (r : OpReq) : Statement (.shot r) :=
  fun h f hf => by cases hf; exact submit_fits _ r h
theorem convert (r : OpReq) : Statement (.convert r) :=
  fun h f hf => by cases hf; exact submit_fits _ r h
theorem nvmWrite (r : OpReq) : Statement (.nvmWrite r) :=
  fun h f hf => by cases hf; exact submit_fits _ r h
theorem scrub (r : OpReq) : Statement (.scrub r) :=
  fun h f hf => by cases hf; exact submit_fits _ r h
theorem radioTx (r : OpReq) : Statement (.radioTx r) :=
  fun h f hf => by cases hf; exact submit_fits _ r h
theorem radioScan (r : OpReq) : Statement (.radioScan r) :=
  fun h f hf => by cases hf; exact submit_fits _ r h
theorem ledgerCommit (r : OpReq) : Statement (.ledgerCommit r) :=
  fun h f hf => by cases hf; exact submit_fits _ r h
theorem slinkSet (r : OpReq) : Statement (.slinkSet r) :=
  fun h f hf => by cases hf; exact submit_fits _ r h
theorem stiLoad (r : OpReq) : Statement (.stiLoad r) :=
  fun h f hf => by cases hf; exact submit_fits _ r h
theorem operationDeadline (n : Fin 16) : Statement (.operationDeadline n) := fun _ _ hf => nomatch hf
theorem registerWrite (addr : BitVec 24) (v : Word) : Statement (.registerWrite addr v) := fun _ _ hf => nomatch hf
theorem pendingWrite (addr : BitVec 24) (v : Word) : Statement (.pendingWrite addr v) := fun _ _ hf => nomatch hf
theorem commitReq (b : CommitBlock) : Statement (.commitReq b) := fun _ _ hf => nomatch hf
theorem commitDiscard (b : CommitBlock) : Statement (.commitDiscard b) := fun _ _ hf => nomatch hf
theorem accumulatorSnapshot (a : Fin 17) : Statement (.accumulatorSnapshot a) := fun _ _ hf => nomatch hf
theorem flwStatusSnapshot : Statement (.flwStatusSnapshot) := fun _ _ hf => nomatch hf
theorem tmuStatusSnapshot : Statement (.tmuStatusSnapshot) := fun _ _ hf => nomatch hf
theorem eventChannelArm (e : Fin 6) : Statement (.eventChannelArm e) := fun _ _ hf => nomatch hf
theorem eventChannelDisarm (e : Fin 6) : Statement (.eventChannelDisarm e) := fun _ _ hf => nomatch hf
theorem resultQueueRead (e : Fin 6) : Statement (.resultQueueRead e) := fun _ _ hf => nomatch hf
theorem statisticsGo (c : Fin 22) (v : Word) : Statement (.statisticsGo c v) := fun _ _ hf => nomatch hf
theorem statisticsStop (c : Fin 22) (v : Word) : Statement (.statisticsStop c v) := fun _ _ hf => nomatch hf
theorem statisticsSnapshot (c : Fin 22) : Statement (.statisticsSnapshot c) := fun _ _ hf => nomatch hf
theorem slotRelease (mask : BitVec 16) : Statement (.slotRelease mask) := fun _ _ hf => nomatch hf
theorem reseed (mask : Byte) : Statement (.reseed mask) := fun _ _ hf => nomatch hf
theorem ampReset (mask : Byte) : Statement (.ampReset mask) := fun _ _ hf => nomatch hf
theorem hostEmpty : Statement (.hostEmpty) := fun _ _ hf => nomatch hf
theorem hostRefill : Statement (.hostRefill) := fun _ _ hf => nomatch hf
theorem unfail (mask : Byte) : Statement (.unfail mask) := fun _ _ hf => nomatch hf
theorem ratioReset (mask : Byte) : Statement (.ratioReset mask) := fun _ _ hf => nomatch hf
theorem clearLedger (v : Word) : Statement (.clearLedger v) := fun _ _ hf => nomatch hf
theorem hostincGo : Statement (.hostincGo) := fun _ _ hf => nomatch hf
theorem rxrel (mask : BitVec 4) : Statement (.rxrel mask) := fun _ _ hf => nomatch hf
theorem join : Statement (.join) := fun _ _ hf => nomatch hf
theorem leave : Statement (.leave) := fun _ _ hf => nomatch hf
theorem report : Statement (.report) := fun _ _ hf => nomatch hf
theorem fogGo : Statement (.fogGo) := fun _ _ hf => nomatch hf
theorem provisionWrite : Statement (.provisionWrite) := fun _ _ hf => nomatch hf
theorem provisionDelete : Statement (.provisionDelete) := fun _ _ hf => nomatch hf
theorem provisionLoad : Statement (.provisionLoad) := fun _ _ hf => nomatch hf
theorem keeperEventRead : Statement (.keeperEventRead) := fun _ _ hf => nomatch hf
theorem rowRetire (bank : Fin 16) (row : Fin 32) : Statement (.rowRetire bank row) := fun _ _ hf => nomatch hf
theorem pageRetire (page : Fin 512) : Statement (.pageRetire page) := fun _ _ hf => nomatch hf
theorem flipArm (region : Fin 32) : Statement (.flipArm region) := fun _ _ hf => nomatch hf
theorem flipDisarm (region : Fin 32) : Statement (.flipDisarm region) := fun _ _ hf => nomatch hf
theorem logSnapshot : Statement (.logSnapshot) := fun _ _ hf => nomatch hf
theorem logClear : Statement (.logClear) := fun _ _ hf => nomatch hf
theorem policyWrite (v : Word) : Statement (.policyWrite v) := fun _ _ hf => nomatch hf
theorem hold (v : Word) : Statement (.hold v) := fun _ _ hf => nomatch hf
theorem sleepSet (v : Word) : Statement (.sleepSet v) := fun _ _ hf => nomatch hf
theorem sleepSetStart (stop : Option Nat) : Statement (.sleepSetStart stop) := fun _ _ hf => nomatch hf
theorem rtcFieldWrite (f : Fin 9) (v : Word) : Statement (.rtcFieldWrite f v) := fun _ _ hf => nomatch hf
theorem rtcCommit : Statement (.rtcCommit) := fun _ _ hf => nomatch hf
theorem rtcDiscard : Statement (.rtcDiscard) := fun _ _ hf => nomatch hf
theorem rtcUnfreeze : Statement (.rtcUnfreeze) := fun _ _ hf => nomatch hf
theorem timeRead (f : Fin 9) : Statement (.timeRead f) := fun _ _ hf => nomatch hf
theorem trimWrite (v : Word) : Statement (.trimWrite v) := fun _ _ hf => nomatch hf
theorem updBegin : Statement (.updBegin) := fun _ _ hf => nomatch hf
theorem updVerify : Statement (.updVerify) := fun _ _ hf => nomatch hf
theorem updActivate : Statement (.updActivate) := fun _ _ hf => nomatch hf
theorem updAbort : Statement (.updAbort) := fun _ _ hf => nomatch hf
theorem updConfirm : Statement (.updConfirm) := fun _ _ hf => nomatch hf
theorem transitionRequest (v : Word) : Statement (.transitionRequest v) := fun _ _ hf => nomatch hf
theorem transitionCancel (v : Word) : Statement (.transitionCancel v) := fun _ _ hf => nomatch hf
theorem keyWrite : Statement (.keyWrite) := fun _ _ hf => nomatch hf
theorem trngRead : Statement (.trngRead) := fun _ _ hf => nomatch hf
theorem trigEdge (t : Nat) : Statement (.trigEdge t) := fun _ _ hf => nomatch hf
theorem rstnReset (temp : BitVec 16) : Statement (.rstnReset temp) := fun _ _ hf => nomatch hf
theorem powerOn (temp : BitVec 16) : Statement (.powerOn temp) := fun _ _ hf => nomatch hf
theorem wdog (also : BitVec 5) : Statement (.wdog also) := fun _ _ hf => nomatch hf
theorem poisonExec (also : BitVec 5) : Statement (.poisonExec also) := fun _ _ hf => nomatch hf
theorem clkLoss (also : BitVec 5) : Statement (.clkLoss also) := fun _ _ hf => nomatch hf
theorem brownout (also : BitVec 5) : Statement (.brownout also) := fun _ _ hf => nomatch hf
theorem recoveryComplete : Statement (.recoveryComplete) := fun _ _ hf => nomatch hf
theorem bkpPowerLoss : Statement (.bkpPowerLoss) := fun _ _ hf => nomatch hf
theorem powerFailWarning (t : Nat) : Statement (.powerFailWarning t) := fun _ _ hf => nomatch hf
theorem supplyRecovered : Statement (.supplyRecovered) := fun _ _ hf => nomatch hf
theorem retentionMonitorTrip (b : Fin 17) : Statement (.retentionMonitorTrip b) := fun _ _ hf => nomatch hf
theorem lockLoss : Statement (.lockLoss) := fun _ _ hf => nomatch hf
theorem relock : Statement (.relock) := fun _ _ hf => nomatch hf
theorem eventOrigin (e : Fin 6) : Statement (.eventOrigin e) := fun _ _ hf => nomatch hf
theorem eventEdge (e : Fin 6) (stamp : Word) (rising : Bool) : Statement (.eventEdge e stamp rising) := fun _ _ hf => nomatch hf
theorem coarseOverflow (e : Fin 6) : Statement (.coarseOverflow e) := fun _ _ hf => nomatch hf
theorem zeroCrossing (port : Fin 16) (stamp : Word) (x : Crossing) : Statement (.zeroCrossing port stamp x) := fun _ _ hf => nomatch hf
theorem lfTick : Statement (.lfTick) := fun _ _ hf => nomatch hf
theorem freezeTimeout : Statement (.freezeTimeout) := fun _ _ hf => nomatch hf
theorem rateRecompute (temp : BitVec 16) : Statement (.rateRecompute temp) := fun _ _ hf => nomatch hf
theorem hourAdvance (temp : BitVec 16) : Statement (.hourAdvance temp) := fun _ _ hf => nomatch hf
theorem mark (temp : BitVec 16) (fault : Option MarkFault) : Statement (.mark temp fault) := fun _ _ hf => nomatch hf
theorem swapReset (temp : BitVec 16) : Statement (.swapReset temp) := fun _ _ hf => nomatch hf
theorem markLead : Statement (.markLead) := fun _ _ hf => nomatch hf
theorem facetStart (f : Fin 64) : Statement (.facetStart f) := fun _ _ hf => nomatch hf
theorem facetEnd (vbat : BitVec 16) : Statement (.facetEnd vbat) := fun _ _ hf => nomatch hf
theorem apply1Work (rises : List (Option Nat)) : Statement (.apply1Work rises) := fun _ _ hf => nomatch hf
theorem apply2Work : Statement (.apply2Work) := fun _ _ hf => nomatch hf
theorem stiValidationDone : Statement (.stiValidationDone) := fun _ _ hf => nomatch hf
theorem hwShotFire (t : Nat) : Statement (.hwShotFire t) := fun _ _ hf => nomatch hf
theorem hostShotFire (t : Nat) : Statement (.hostShotFire t) := fun _ _ hf => nomatch hf
theorem captureComplete (x : List (List (BitVec 12) × List (BitVec 12))) : Statement (.captureComplete x) := fun _ _ hf => nomatch hf
theorem echoStep (k : Fin 16) (t : Nat) : Statement (.echoStep k t) := fun _ _ hf => nomatch hf
theorem conversionStart (t : Nat) : Statement (.conversionStart t) := fun _ _ hf => nomatch hf
theorem dischargeTimeout : Statement (.dischargeTimeout) := fun _ _ hf => nomatch hf
theorem conversionComplete : Statement (.conversionComplete) := fun _ _ hf => nomatch hf
theorem periodicCommit : Statement (.periodicCommit) := fun _ _ hf => nomatch hf
theorem ledgerRecordProgram (bad : Option (Fin 4)) (us : Nat) : Statement (.ledgerRecordProgram bad us) := fun _ _ hf => nomatch hf
theorem ledgerPageErase : Statement (.ledgerPageErase) := fun _ _ hf => nomatch hf
theorem nvmPageAttempt (bad : Option (Fin 128)) : Statement (.nvmPageAttempt bad) := fun _ _ hf => nomatch hf
theorem scrubWord : Statement (.scrubWord) := fun _ _ hf => nomatch hf
theorem rowCopyDone : Statement (.rowCopyDone) := fun _ _ hf => nomatch hf
theorem pulseStart (p : Fin 2) : Statement (.pulseStart p) := fun _ _ hf => nomatch hf
theorem pulseEnd (p : Fin 2) : Statement (.pulseEnd p) := fun _ _ hf => nomatch hf
theorem governorMinute : Statement (.governorMinute) := fun _ _ hf => nomatch hf
theorem lbtListenEnd (rssi : Byte) (t : Nat) : Statement (.lbtListenEnd rssi t) := fun _ _ hf => nomatch hf
theorem transmissionEnd (t : Nat) : Statement (.transmissionEnd t) := fun _ _ hf => nomatch hf
theorem frameReceived (f : RxFrame) : Statement (.frameReceived f) := fun _ _ hf => nomatch hf
theorem answerWindowEnd : Statement (.answerWindowEnd) := fun _ _ hf => nomatch hf
theorem ackSend : Statement (.ackSend) := fun _ _ hf => nomatch hf
theorem downlinkSend : Statement (.downlinkSend) := fun _ _ hf => nomatch hf
theorem retryWaitEnd : Statement (.retryWaitEnd) := fun _ _ hf => nomatch hf
theorem flashSend : Statement (.flashSend) := fun _ _ hf => nomatch hf
theorem flashWindowOpen : Statement (.flashWindowOpen) := fun _ _ hf => nomatch hf
theorem flashWindowClose : Statement (.flashWindowClose) := fun _ _ hf => nomatch hf
theorem floodRelay : Statement (.floodRelay) := fun _ _ hf => nomatch hf
theorem floodOriginate : Statement (.floodOriginate) := fun _ _ hf => nomatch hf
theorem joinReq : Statement (.joinReq) := fun _ _ hf => nomatch hf
theorem scanDwellEnd : Statement (.scanDwellEnd) := fun _ _ hf => nomatch hf
theorem fogEvent (t : Nat) : Statement (.fogEvent t) := fun _ _ hf => nomatch hf
theorem abortPoint (w : AbortWork) : Statement (.abortPoint w) := fun _ _ hf => nomatch hf
theorem fogFrameSend (t : Nat) : Statement (.fogFrameSend t) := fun _ _ hf => nomatch hf
theorem wakeStage (k : Fin 27) (us : Nat) : Statement (.wakeStage k us) := fun _ _ hf => nomatch hf
theorem supplyLinkAttempt (x : LinkEnd) : Statement (.supplyLinkAttempt x) := fun _ _ hf => nomatch hf
theorem domainTransitionTimeout : Statement (.domainTransitionTimeout) := fun _ _ hf => nomatch hf
theorem vdrvSettle : Statement (.vdrvSettle) := fun _ _ hf => nomatch hf
theorem eraseDone : Statement (.eraseDone) := fun _ _ hf => nomatch hf
theorem blockProgram (bad : List (Fin 16)) : Statement (.blockProgram bad) := fun _ _ hf => nomatch hf
theorem verificationDone : Statement (.verificationDone) := fun _ _ hf => nomatch hf
theorem selfTest (test : Fin 6) (pass : Bool) (temp : BitVec 16) : Statement (.selfTest test pass temp) := fun _ _ hf => nomatch hf
theorem trialWindowExpiry (temp : BitVec 16) : Statement (.trialWindowExpiry temp) := fun _ _ hf => nomatch hf
theorem trngHealthFail : Statement (.trngHealthFail) := fun _ _ hf => nomatch hf
theorem trngRetest (pass : Bool) : Statement (.trngRetest pass) := fun _ _ hf => nomatch hf
theorem syncPulseEnd : Statement (.syncPulseEnd) := fun _ _ hf => nomatch hf
theorem sfdEnd (t : Nat) : Statement (.sfdEnd t) := fun _ _ hf => nomatch hf
theorem aonPowerLoss : Statement (.aonPowerLoss) := fun _ _ hf => nomatch hf

end Sys2Proof.Laws.FrameFits
end

