-- ==== Sys2Proof/Laws/Request.lean ====
section
/-! SUPPORT. What a request frame can do, once for every opcode: a frame that passes checks 1 to 4 of R294 is served by its opcode's
operation, and an answer or a clean register read leaves the response that R292 and R293 give. -/

namespace Sys2Proof.Machine

variable {s : State}

/-- A powered device runs the effect of a command. -/
theorem State.run_up {f : State → State} (h : s.pwr.aonOff = false) : s.run f = .next (f s) := by simp [State.run, h]

/-- A command that carries a frame is the request of that frame. -/
theorem exec_frame {c : Instr} {f : Frame} (hf : frameOf c = some f) (h : s.Up) : exec c s = .next (s.request f) := by
  cases c <;> simp only [frameOf, Option.some.injEq, reduceCtorEq] at hf <;> subst hf <;>
    exact State.run_up (f := fun s => s.request _) h.2

/-- A frame that passes checks 1 to 4 is served by its opcode. -/
theorem State.request_served {f : Frame} (h : s.Served f) :
    s.request f =
      if f.opcode = opcREAD then s.serveRead f.addr f.len
      else if f.opcode = opcWRITE then s.serveWrite f
      else if f.opcode = opcOP_SUBMIT then s.serveSubmit f
      else if f.opcode = opcOP_STATUS then s.serveStatus f
      else if f.opcode = opcSTREAM_READ then s.serveStream f
      else s.serveBlock f := by
  obtain ⟨h1, h2, h3, h4⟩ := h
  simp [State.request, h1, h2, h3, h4]

/-! The opcodes, one by one -/

/-- An unknown OPCODE is refused by form (R294). -/
theorem unknownOpcode_formBad {r : OpReq} {o : Nat} (h : unknownOpcode r = some o) {f : Frame} (hf : f.opcode = o) : f.formBad = true := by
  have ho := (Option.filter_eq_some_iff.1 h).2
  simp only [Bool.or_eq_true, beq_iff_eq, decide_eq_true_eq, opcUPDATE_BLOCK] at ho
  unfold Frame.formBad
  simp only [hf, opcREAD, opcWRITE, opcOP_SUBMIT, opcOP_STATUS, opcSTREAM_READ, opcUPDATE_BLOCK]
  repeat' split
  all_goals first | rfl | omega

/-- A served frame of an OP_SUBMIT row is an OP_SUBMIT. -/
theorem submitFrame_opcode {type : Nat} {r : OpReq} (hb : (submitFrame type r).formBad = false) :
    unknownOpcode r = none ∧ (submitFrame type r).opcode = opcOP_SUBMIT := by
  cases h : unknownOpcode r with
  | some o =>
    rw [unknownOpcode_formBad h (by simp [submitFrame, h])] at hb
    cases hb
  | none => exact ⟨rfl, by simp [submitFrame, h]⟩

theorem exec_read {tag : Byte} {addr : BitVec 24} {len crc : BitVec 16} (hu : s.Up)
    (h : s.Serves (.read tag addr len crc)) :
    exec (.read tag addr len crc) s = .next (s.serveRead addr.toNat len.toNat) ∧ len.toNat ≠ 0 := by
  obtain ⟨f, hf, hs⟩ := h
  rw [exec_frame hf hu, State.request_served hs]
  have hb := hs.2.2.1
  cases hf
  exact ⟨rfl, fun h0 => by simp [Frame.formBad, h0] at hb⟩

theorem exec_write {tag : Byte} {addr : BitVec 24} {data : List Byte} {crc : BitVec 16} (hu : s.Up) (h : s.Serves (.write tag addr data crc)) :
    exec (.write tag addr data crc) s = .next (s.serveWrite
      { opcode := opcWRITE, tag := tag.toNat, addr := addr.toNat, len := data.length, payload := data, crc := crc.toNat }) ∧
      data.length ≠ 0 := by
  obtain ⟨f, hf, hs⟩ := h
  rw [exec_frame hf hu, State.request_served hs]
  have hb := hs.2.2.1
  cases hf
  refine ⟨rfl, fun h0 => ?_⟩
  simp [Frame.formBad, h0] at hb

theorem exec_submit {type : Nat} {r : OpReq} {c : Instr} (hu : s.Up) (hc : frameOf c = some (submitFrame type r)) (h : s.Serves c) :
    exec c s = .next (s.serveSubmit (submitFrame type r)) := by
  obtain ⟨f, hf, hs⟩ := h
  rw [exec_frame hf hu, State.request_served hs]
  have ho := (submitFrame_opcode (Option.some.inj (hf.symm.trans hc) ▸ hs.2.2.1)).2
  cases hc.symm.trans hf
  simp [ho, opcREAD, opcWRITE, opcOP_SUBMIT]

theorem exec_opStatus {tag : Byte} {addr : BitVec 24} {len crc : BitVec 16} (hu : s.Up) (h : s.Serves (.opStatus tag addr len crc)) :
    exec (.opStatus tag addr len crc) s = .next (s.serveStatus
      { opcode := opcOP_STATUS, tag := tag.toNat, addr := addr.toNat, len := len.toNat, crc := crc.toNat }) := by
  obtain ⟨f, hf, hs⟩ := h
  rw [exec_frame hf hu, State.request_served hs]
  cases hf; rfl

theorem exec_streamRead {tag : Byte} {addr : BitVec 24} {len crc : BitVec 16} (hu : s.Up) (h : s.Serves (.streamRead tag addr len crc)) :
    exec (.streamRead tag addr len crc) s = .next (s.serveStream
      { opcode := opcSTREAM_READ, tag := tag.toNat, addr := addr.toNat, len := len.toNat, crc := crc.toNat }) := by
  obtain ⟨f, hf, hs⟩ := h
  rw [exec_frame hf hu, State.request_served hs]
  cases hf; rfl

theorem exec_updateBlock {tag : Byte} {addr : BitVec 24} {data : List Byte} {crc : BitVec 16} (hu : s.Up)
    (h : s.Serves (.updateBlock tag addr data crc)) :
    exec (.updateBlock tag addr data crc) s = .next (s.serveBlock
      { opcode := opcUPDATE_BLOCK, tag := tag.toNat, addr := addr.toNat, len := data.length, payload := data, crc := crc.toNat }) := by
  obtain ⟨f, hf, hs⟩ := h
  rw [exec_frame hf hu, State.request_served hs]
  cases hf; rfl

/-! Answers -/

/-- An answer without data shows its status with EPOCH, HIRQ and RECOVERING. -/
theorem State.answer_replied {st : Nat} : (s.answer st).Replied st := rfl

/-- Entering a frame in the duplicate window touches the host interface only, and not its operation table. -/
theorem State.cacheFrame_frame (f : Frame) (st : Nat) : s.cacheFrame f st = { s with hif := (s.cacheFrame f st).hif } := by
  unfold State.cacheFrame; split <;> rfl

theorem State.cacheFrame_ops (f : Frame) (st : Nat) : (s.cacheFrame f st).hif.ops = s.hif.ops := by
  unfold State.cacheFrame; split <;> rfl

theorem State.cacheFrame_answer_frame (f : Frame) (st : Nat) :
    (s.cacheFrame f st).answer st = { s with hif := ((s.cacheFrame f st).answer st).hif } := by
  rw [State.cacheFrame_frame]; rfl

/-! Clean register reads -/

theorem takeWhile_const_true {α : Type} (l : List α) : l.takeWhile (fun _ => true) = l := by induction l <;> simp [*]

/-- Clean bytes have no first bad group. -/
theorem firstBadGroup_clean (l : List Byte) : firstBadGroup (l.map fun b => (b, false)) = 0xFFFF := by
  simp [firstBadGroup, List.takeWhile_map, Function.comp_def, takeWhile_const_true]

/-- A register of the tables is served. -/
theorem State.regAt_of_find {a : Nat} (h : a < 0x100000) (hf : (findReg a).isSome = true) : s.regAt a = true := by
  simp [State.regAt, h, hf]

/-- Only the coefficient values and marked RWP registers read as poisoned. -/
theorem State.regPoison_ne {a : Nat} (hb : (isRwp a || a == Reg.TMU_TRIM) = false) (h1 : a ≠ Reg.FLW_COEF_VAL) (h2 : a ≠ Reg.TMU_COEF_VAL) (h3 : a ≠ Reg.RTC_COEF_VAL) :
    s.regPoison a = false := by
  simp [State.regPoison, State.regBad, hb, h1, h2, h3]

/-- A clean read of a served register answers DONE with its value. -/
theorem State.hostRead_word {a : Nat} (h4 : a % 4 = 0) (h : a + 4 ≤ 0x100000) (hr : s.regAt a = true) (hp : s.regPoison a = false) :
    (s.hostRead a).RepliedWord (s.readReg a).1 := by
  rw [State.hostRead_done h4 h hr, hp]
  refine ⟨_, rfl, rfl, ?_, ?_⟩ <;> simp [Resp.withData, firstBadGroup_clean, Function.comp_def]

end Sys2Proof.Machine
end

