-- ==== Sys2Proof/Laws/Regions.lean ====
section
/-! SUPPORT. Reads and writes of a register by its region: what a present register of each region does, and what a word of it waits for. -/

namespace Sys2Proof.Machine

variable {s : State} {a v : Nat}

/-! Writes of a present register that is no commit register -/

theorem State.writeReg_hif (hr : a / 0x10000 = 1) (hp : s.absentReg a = false) (hc : a % 0x10000 ≠ 0x7FC) :
    s.writeReg a v = s.writeHif a v := by
  simp [State.writeReg, hp, hc, hr]

theorem State.writeReg_afe (hr : a / 0x10000 = 4) (hp : s.absentReg a = false) (hc : a % 0x10000 ≠ 0x7FC) :
    s.writeReg a v = s.writeAfe a v := by
  simp [State.writeReg, hp, hc, hr]

theorem State.writeReg_tiu (hr : a / 0x10000 = 5) (hp : s.absentReg a = false) (hc : a % 0x10000 ≠ 0x7FC) :
    s.writeReg a v = s.writeTiu a v := by
  simp [State.writeReg, hp, hc, hr]

theorem State.writeReg_ech (hr : a / 0x10000 = 6) (hp : s.absentReg a = false) (hc : a % 0x10000 ≠ 0x7FC) :
    s.writeReg a v = s.writeEch a v := by
  simp [State.writeReg, hp, hc, hr]

theorem State.writeReg_flw (hr : a / 0x10000 = 7) (hp : s.absentReg a = false) (hc : a % 0x10000 ≠ 0x7FC) :
    s.writeReg a v = s.writeFlw a v := by
  simp [State.writeReg, hp, hc, hr]

theorem State.writeReg_ldg (hr : a / 0x10000 = 9) (hp : s.absentReg a = false) (hc : a % 0x10000 ≠ 0x7FC) :
    s.writeReg a v = s.writeLdg a v := by
  simp [State.writeReg, hp, hc, hr]

theorem State.writeReg_rad (hr : a / 0x10000 = 10) (hp : s.absentReg a = false) (hc : a % 0x10000 ≠ 0x7FC) :
    s.writeReg a v = s.writeRad a v := by
  simp [State.writeReg, hp, hc, hr]

theorem State.writeReg_msh (hr : a / 0x10000 = 11) (hp : s.absentReg a = false) (hc : a % 0x10000 ≠ 0x7FC) :
    s.writeReg a v = s.writeMsh a v := by
  simp [State.writeReg, hp, hc, hr]

theorem State.writeReg_mem (hr : a / 0x10000 = 12) (hp : s.absentReg a = false) (hc : a % 0x10000 ≠ 0x7FC) :
    s.writeReg a v = s.writeMem a v := by
  simp [State.writeReg, hp, hc, hr]

theorem State.writeReg_pwr (hr : a / 0x10000 = 13) (hp : s.absentReg a = false) (hc : a % 0x10000 ≠ 0x7FC) :
    s.writeReg a v = s.writePwr a v := by
  simp [State.writeReg, hp, hc, hr]

theorem State.writeReg_rtc (hr : a / 0x10000 = 14) (hp : s.absentReg a = false) (hc : a % 0x10000 ≠ 0x7FC) :
    s.writeReg a v = s.writeRtc a v := by
  simp [State.writeReg, hp, hc, hr]

theorem State.writeReg_upd (hr : a / 0x10000 = 15) (hp : s.absentReg a = false) (hc : a % 0x10000 ≠ 0x7FC) :
    s.writeReg a v = s.writeUpd a v := by
  simp [State.writeReg, hp, hc, hr]

theorem State.readReg_sys (hr : a / 0x10000 = 0) (hp : s.absentReg a = false) : s.readReg a = s.readSys a := by
  simp [State.readReg, hp, hr]

theorem State.readReg_hif (hr : a / 0x10000 = 1) (hp : s.absentReg a = false) : s.readReg a = s.readHif a := by
  simp [State.readReg, hp, hr]

theorem State.readReg_tiu (hr : a / 0x10000 = 5) (hp : s.absentReg a = false) : s.readReg a = s.readTiu a := by
  simp [State.readReg, hp, hr]

theorem State.readReg_ech (hr : a / 0x10000 = 6) (hp : s.absentReg a = false) : s.readReg a = s.readEch a := by
  simp [State.readReg, hp, hr]

theorem State.readReg_flw (hr : a / 0x10000 = 7) (hp : s.absentReg a = false) : s.readReg a = s.readFlw a := by
  simp [State.readReg, hp, hr]

theorem State.readReg_tmu (hr : a / 0x10000 = 8) (hp : s.absentReg a = false) : s.readReg a = s.readTmu a := by
  simp [State.readReg, hp, hr]

theorem State.readReg_ldg (hr : a / 0x10000 = 9) (hp : s.absentReg a = false) : s.readReg a = s.readLdg a := by
  simp [State.readReg, hp, hr]

theorem State.readReg_rad (hr : a / 0x10000 = 10) (hp : s.absentReg a = false) : s.readReg a = s.readRad a := by
  simp [State.readReg, hp, hr]

theorem State.readReg_msh (hr : a / 0x10000 = 11) (hp : s.absentReg a = false) : s.readReg a = s.readMsh a := by
  simp [State.readReg, hp, hr]

theorem State.readReg_mem (hr : a / 0x10000 = 12) (hp : s.absentReg a = false) : s.readReg a = s.readMem a := by
  simp [State.readReg, hp, hr]

theorem State.readReg_rtc (hr : a / 0x10000 = 14) (hp : s.absentReg a = false) : s.readReg a = s.readRtc a := by
  simp [State.readReg, hp, hr]

theorem State.readReg_upd (hr : a / 0x10000 = 15) (hp : s.absentReg a = false) : s.readReg a = s.readUpd a := by
  simp [State.readReg, hp, hr]

theorem State.wordLocked_afe (hr : a / 0x10000 = 4) (hp : s.absentReg a = false) :
    s.wordLocked a v = ((a == Reg.AFE_SLOT_REL || (regIdx (Reg.AFE_TEXP 0) 4 8 a).isSome) && !s.hostEcho) := by
  simp [State.wordLocked, hp, hr]

theorem State.wordLocked_tiu (hr : a / 0x10000 = 5) (hp : s.absentReg a = false) :
    s.wordLocked a v = s.tiuLocked a v := by
  simp [State.wordLocked, hp, hr]

theorem State.wordLocked_ech (hr : a / 0x10000 = 6) (hp : s.absentReg a = false) :
    s.wordLocked a v = (s.metroLocked a || (a == Reg.ECH_CTL && s.hostEcho) || (a == Reg.ECH_HOSTEVT && !s.hostEcho)) := by
  simp [State.wordLocked, hp, hr]

theorem State.wordLocked_flw (hr : a / 0x10000 = 7) (hp : s.absentReg a = false) :
    s.wordLocked a v = (s.metroLocked a || (a == Reg.FLW_CTL && s.hostFlow)) := by
  simp [State.wordLocked, hp, hr]

theorem State.wordLocked_tmu (hr : a / 0x10000 = 8) (hp : s.absentReg a = false) :
    s.wordLocked a v = s.metroLocked a := by
  simp [State.wordLocked, hp, hr]

theorem State.wordLocked_ldg (hr : a / 0x10000 = 9) (hp : s.absentReg a = false) :
    s.wordLocked a v = (s.metroLocked a || s.ldgLocked a v) := by
  simp [State.wordLocked, hp, hr]

theorem State.wordLocked_mem (hr : a / 0x10000 = 12) (hp : s.absentReg a = false) :
    s.wordLocked a v = s.memLocked a v := by
  simp [State.wordLocked, hp, hr]

theorem State.wordLocked_pwr (hr : a / 0x10000 = 13) (hp : s.absentReg a = false) :
    s.wordLocked a v = s.pwrLocked a v := by
  simp [State.wordLocked, hp, hr]

theorem State.wordLocked_rtc (hr : a / 0x10000 = 14) (hp : s.absentReg a = false) :
    s.wordLocked a v = ((a == Reg.RTC_TRIM && !s.hostTrim) || (a == Reg.RTC_COMMIT && s.rtcCommitBad v)) := by
  simp [State.wordLocked, hp, hr]

theorem State.wordLocked_upd (hr : a / 0x10000 = 15) (hp : s.absentReg a = false) :
    s.wordLocked a v = s.updLocked a v := by
  simp [State.wordLocked, hp, hr]

/-- The other regions lock no word. -/
theorem State.wordLocked_other (hr : a / 0x10000 ∉ [4, 5, 6, 7, 8, 9, 12, 13, 14, 15]) : s.wordLocked a v = false := by
  unfold State.wordLocked
  simp only [List.mem_cons, List.not_mem_nil, or_false, not_or] at hr
  split
  · rfl
  · split <;> first | rfl | (exfalso; omega)

/-- Registers of the regions of SYS, HIF, ROT, STI, NVM-independent units PWR, RTC and UPD are present on every part. -/
theorem State.present_of_region (h : a / 0x10000 ∉ [4, 5, 6, 7, 8, 9, 10, 11, 12]) : s.absentReg a = false := by
  simp only [List.mem_cons, List.not_mem_nil, or_false, not_or] at h
  simp [State.absentReg, h]

/-- A read of a register that does not read as poisoned answers its value. -/
theorem State.hostRead_clean (h4 : a % 4 = 0) (h : a + 4 ≤ 0x100000) (hr : s.regAt a = true) (hp : s.regPoison a = false) :
    s.hostRead a = (s.readReg a).2.respond
      { s.header Sts.DONE with data := leBytes 4 (s.readReg a).1, trailer := some (Sts.DONE, 0xFFFF) } := by
  rw [State.hostRead_done h4 h hr, hp]
  simp [Resp.withData, firstBadGroup_clean, Function.comp_def]

end Sys2Proof.Machine
end

