-- ==== Sys2Proof/Machine/Pins.lean ====
section
/-! DEFINITION. The pins (R394, R395): what holds each at its state in reset, and what its function makes of it after. The ports are
State.portAt, SYNC is State.syncLevel. -/

namespace Sys2Proof.Machine

/-- What a pin shows: driven low or high, held by its pull-down, high impedance, discharged to AGND through 1 kΩ, or worked by the unit in
progress. -/
inductive Pin where
  | low | high | pullDown | hiZ | sunk | worked
  deriving DecidableEq, Repr

/-- A driven level. -/
def Pin.driven (x : Bool) : Pin := if x then .high else .low

/-- Is a transaction of the supply link in progress? -/
def State.linkBusy (s : State) : Bool := !s.pwr.aonOff && s.pwr.link.isSome

/-- Does a conversion work the sensor paths? -/
def State.sensing (s : State) : Bool := !s.pwr.aonOff && s.tmu.conv.isSome

/-- SNS0 to SNS7, SREF, PRP and PRN: every path switch open but in a conversion. -/
def State.sensePins (s : State) : Pin := if s.sensing then .worked else .hiZ

/-- SCAP: discharged but in a conversion. -/
def State.scapPin (s : State) : Pin := if s.sensing then .worked else .sunk

/-- RFIO: its receive switch is open, and its DC path to ground the internal match, while the radio neither receives nor transmits. -/
def State.rfioPin (s : State) : Pin := if !s.pwr.aonOff && 2 ≤ s.radioState then .worked else .hiZ

/-- SLCK: high while no transaction clocks it. -/
def State.slckPin (s : State) : Pin := if s.linkBusy then .worked else .high

/-- SLIO: released while no transaction drives it. -/
def State.slioPin (s : State) : Pin := if s.linkBusy then .worked else .hiZ

/-- HMISO: high impedance between frames; a frame with its response is one command. -/
def State.hmisoPin (_ : State) : Pin := .hiZ

/-- PULSp: high impedance with pull-down until AON runs, then driven at the level of POL and its pulse (R239). -/
def State.pulsOut (s : State) (p : Nat) : Pin := if s.pwr.aonOff then .pullDown else Pin.driven (s.pulsePin p)

/-- The level on HIRQ: asserted or not, at the polarity that HIF_CFG selects (R309); inactive at the reset polarity in power-on reset. -/
def State.hirqLevel (s : State) : Bool := !s.pwr.aonOff && s.hirq != s.fbit F.HIF_CFG_HIRQ_POL

/-- GPIOn: the level of OUT in function 3, else its pull-down or nothing (R395). -/
def State.gpioPin (s : State) (n : Nat) : Pin :=
  if s.pwr.aonOff then .pullDown
  else if s.gpioFn n = 3 then Pin.driven (s.regN Reg.SYS_GPIO_IO |>.testBit (8 + n))
  else if (s.regN Reg.SYS_GPIO_FN).testBit (8 + n) then .pullDown
  else .hiZ

/-- The pattern on ANT0 and ANT1, ANT0 being bit 0 (R247); none where the part drives no such pins (R8). -/
def State.antPins (s : State) : Option Nat :=
  if !s.hasRadio then none
  else if s.pwr.aonOff then some 0
  else if s.radioState = 4 then some (s.fget F.RAD_ANT_TX)
  else if s.radioState = 2 ∨ s.radioState = 3 then some (s.fget F.RAD_ANT_RX)
  else some (s.fget F.RAD_ANT_OFF)

end Sys2Proof.Machine
end

