-- ==== Sys2Proof/Tests/Slice0.lean ====
section
/-! SUPPORT. Tests: what WellFormed refuses, worked examples of the spec, and for every statement with hypotheses a state and operands that
meet them together. -/

-- Many kernel evaluations at once take too much memory.
set_option Elab.async false

open Sys2Proof Sys2Proof.Machine

namespace Sys2Proof.Tests

/-! Predicates of the statements as Booleans -/

def upOk (s : State) : Bool := RegFile.wf s.regs && Memory.wf s.mem && !s.pwr.aonOff

theorem up_iff (s : State) : s.Up ↔ upOk s = true := by
  simp [State.Up, State.Inv, upOk, and_assoc]

theorem inv_iff (s : State) : s.Inv ↔ (RegFile.wf s.regs && Memory.wf s.mem) = true := by
  simp [State.Inv]

def servesOk (s : State) (c : Instr) : Bool :=
  match frameOf c with
  | some f => f.crcOk && (s.repeatOf f).isNone && !f.formBad && !s.bootLocked f
  | none => false

theorem serves_iff (s : State) (c : Instr) : s.Serves c ↔ servesOk s c = true := by
  unfold State.Serves State.Served servesOk
  cases frameOf c <;> simp [and_assoc]

def clearOk (s : State) (air chan : Nat) (fog : Bool) : Bool :=
  match s.radio with
  | some r => !touchesUncapped r.phy r.band chan && (s.govAdmits r chan air fog).isSome
  | none => false

theorem clear_iff (s : State) (air chan : Nat) (fog : Bool) : s.Clear air chan fog ↔ clearOk s air chan fog = true := by
  unfold State.Clear clearOk
  cases s.radio <;> simp [Option.isSome_iff_exists]

/-! Frames with their CRC -/

def frameCrc (f : Frame) : BitVec 16 := BitVec.ofNat 16 (crc16 f.bytes)
def crcRead (a n : Nat) : BitVec 16 := frameCrc { opcode := opcREAD, tag := 1, addr := a, len := n, crc := 0 }
def crcStatus (a : Nat) : BitVec 16 := frameCrc { opcode := opcOP_STATUS, tag := 1, addr := a, len := 0, crc := 0 }
def crcStream (a n : Nat) : BitVec 16 := frameCrc { opcode := opcSTREAM_READ, tag := 1, addr := a, len := n, crc := 0 }
def crcWrite (a : Nat) (d : List Byte) : BitVec 16 :=
  frameCrc { opcode := opcWRITE, tag := 1, addr := a, len := d.length, payload := d, crc := 0 }
def crcBlock (a : Nat) (d : List Byte) : BitVec 16 :=
  frameCrc { opcode := opcUPDATE_BLOCK, tag := 1, addr := a, len := d.length, payload := d, crc := 0 }
def req (type : Nat) (p : List Byte) (flags : Byte := 0) (epoch : Byte := 0) : OpReq :=
  let r : OpReq := { tag := 1, flags := flags, epoch := epoch, params := p, crc := 0 }
  { r with crc := frameCrc (submitFrame type r) }
def word16 : List Byte := (List.range 16).map (BitVec.ofNat 8)
def block256 : List Byte := List.replicate 256 0x5A

/-! States -/

abbrev r0 : State := State.reset
def st (l : List (Fld × Nat)) : State := r0.fsetAll l
def withOp (s : State) (i : Nat) (e : OpEntry) : State := { s with hif := { s.hif with ops := setAt s.hif.ops i e } }
def hostAll : State := st [(F.SYS_DUTY_SHOT, 1), (F.SYS_DUTY_ECHO, 1), (F.SYS_DUTY_FLOW, 1), (F.SYS_DUTY_THERM, 1), (F.SYS_DUTY_RTCC, 1)]
def part8 : State := { r0 with part := .tv808h }
def wired : State := { r0 with part := .tv816w }
/-- A facet word of a kind with its argument and SPAN. -/
def facet (kind : Nat) (arg : Nat := 0) (span : Nat := 0) : Nat := kind + 16 * span + 256 * arg
/-- s with the entry of facet 8 in progress, with this facet word. -/
def within (s : State) (w : Nat) (lft : Nat := 2100) : State :=
  { s.setRegN (Reg.ROT_FACET 8) w with rot := { s.rot with entry := some 8, lft := lft } }
def fogOn (s : State) : State := { s with rot := { s.rot with fog := true } }
/-- s with every power domain ON, so that the TIU's ring is locked. -/
def allOn (s : State) : State := (List.range 27).foldl (fun t d => t.setDom d pwON) s
def radioOf (role : Nat) : RadioCfg := ⟨role, 0, 1, 0, 14, 14, 10, [⟨863000, 870000, 100, 0⟩]⟩
def meshImage (role : Nat) : Image := { radio := some (radioOf role), light := some ⟨1, 1, 0, 0, 0x1234, 16, 100, [0]⟩ }
def keeper (l : List (Fld × Nat) := []) : State :=
  { st ((F.MSH_STATUS_STATE, bsKEEPER) :: l) with image := some (meshImage roleKEEPER) }
def buoy (state : Nat) (l : List (Fld × Nat) := []) : State :=
  { st ((F.MSH_STATUS_STATE, state) :: l) with image := some (meshImage roleBUOY) }
def chord0 : ChordCfg := ⟨0, 0, 1, 0, 0, 0, 0, 8, 1000000, 0, 1, 1⟩
def chord1 : ChordCfg := ⟨1, 2, 3, 0, 0, 0, 0, 8, 1000000, 0, 1, 1⟩
/-- An image of two chords, one thermometer and a radio. -/
def image2 : Image :=
  { chords := [chord0, chord1], sensTypes := [1, 0, 0, 0], facets := List.replicate 64 0xF, radio := some (radioOf roleKEEPER) }
def metered (s : State) : State := { s with image := some image2 }
/-- Every duty with the host, MAC included, and an image. -/
def ready : State := metered (hostAll.fset F.SYS_DUTY_MAC 1)
/-- Parameter blocks that pass the checks of each TYPE in that state. -/
def params : Nat → List Byte
  | 1 => [3, 0, 0, 0]
  | 2 => [1, 0, 0, 0]
  | 3 => leBytes 4 0x110000 ++ leBytes 4 0x280000 ++ leBytes 4 1
  | 4 => leBytes 4 0x110000 ++ leBytes 4 0x20
  | 5 => leBytes 4 0 ++ leBytes 4 0x110000 ++ leBytes 4 4
  | 6 => [0, 0, 10, 0]
  | 7 => []
  | 8 => [0, 100, 0, 0]
  | _ => leBytes 8 0
/-- The state an outcome holds. -/
def after (o : Host.Outcome State Fault Refusal) : State :=
  match o with
  | .next t => t
  | _ => r0

/-! What WellFormed refuses -/

theorem test_wf_write (d : List Byte) (h : d.length = 0x10000) : (Instr.write 1 0 d 0).wf = false := by simp [Instr.wf, h]
theorem test_wf_update_block (d : List Byte) (h : d.length = 0x10000) : (Instr.updateBlock 1 0 d 0).wf = false := by simp [Instr.wf, h]
theorem test_wf_submits (d : List Byte) (h : d.length = 0xFFF8) : ∀ p ∈ submits, (p.2 { tag := 1, params := d, crc := 0 }).wf = false := by
  simp [submits, Instr.wf, OpReq.wf, h]
theorem test_wf_pending_write : (Instr.pendingWrite 0x000024 0).wf = false ∧ (Instr.pendingWrite 0x040800 0).wf = true := by decide +kernel
theorem test_wf_clear_ledger : (Instr.clearLedger 2).wf = false := by decide +kernel
theorem test_wf_transition_cancel : (Instr.transitionCancel 0x4C43F903).wf = false ∧ (Instr.transitionCancel 0x4C43F807).wf = true := by
  decide +kernel
theorem test_wf_capture : (Instr.captureComplete (List.replicate 9 ([], []))).wf = false ∧
    (Instr.captureComplete [(List.replicate 4097 0, [])]).wf = false := by decide +kernel
theorem test_wf_census : (Instr.apply1Work (List.replicate 17 none)).wf = false := by decide +kernel
theorem test_wf_frame : (Instr.frameReceived { psdu := List.replicate 513 0, rssi := 0 }).wf = false := by decide +kernel

/-! Worked examples of the spec -/

/-- R3: the values of SYS_CAPS. -/
theorem test_caps : ({ r0 with part := .tv812 } : State).sysCaps = 0x0810F60C ∧ wired.sysCaps = 0x0010C810 := by decide +kernel
/-- R290: the check value of the CRC, and the CRC of the smallest frame (spec/12_host_interface.md, the READ of SYS_CAPS). -/
theorem test_crc16 : crc16 [0x31, 0x32, 0x33, 0x34, 0x35, 0x36, 0x37, 0x38, 0x39] = 0x29B1 ∧ crc16 [1, 0x10, 4, 0, 0, 4, 0] = 0x16E9 := by
  decide +kernel
/-- The same example: the response holds 10 F8 10 0B. -/
theorem test_read_caps : (after (exec (.read 0x10 4 4 0x16E9) r0)).hif.resp.map (·.data) = some [0x10, 0xF8, 0x10, 0x0B] := by decide +kernel
/-- R46: a budget of 38.4 ms raises a deadline of 1,311 LFT to 1,573. -/
theorem test_deadline : effDeadline opRADIO_TX 1311 38400 = 1573 := by decide +kernel
/-- R59: 16,384 LFT at +12.34 ppm are 499,993,830 ns. -/
theorem test_duration : correctedNs 16384 1234 = 499993830 := by decide +kernel
/-- R142: five years on a cell with A = -1,200 ppb and B = 720 h. -/
theorem test_ageing : ageingPpb (-1200) 720 43800 = -4949 ∧ ageingScale (-4949) = 1073747138 := by decide +kernel
/-- R222: the flow crosses zero at 3/4 of the interval. -/
theorem test_volumes : volumes 3000000000 (-1000000000) 500000000 = (562500, 62500, true) := by decide +kernel
/-- R246: a T1 frame of 37 octets. -/
theorem test_airtime : wmAir 0x10 37 = 5100 := by decide +kernel
/-- R360, R366: the forward step over an alarm at 02:00:00. The new time is 2031-03-30 02:00:30, the alarm fires with SKIPPED. (The example
prints 0 for the alarm's time; by the layout of RTC_ALM_T that is 00:00:00, log entry 120.) -/
theorem test_commit_over_alarm :
    let s := (st [(F.RTC_PEND_PEND, 7)]).setRegs [(Reg.RTC_ALM_T 0, 0x20000), (Reg.RTC_ALM_CFG 0, 0x71), (Reg.RTC_SEC, 0x10), (Reg.RTC_MIN, 0x59),
      (Reg.RTC_HOUR, 1), (Reg.RTC_DAY, 0x30), (Reg.RTC_MONTH, 3), (Reg.RTC_CENT, 0x20), (Reg.RTC_YEAR, 0x31)]
    let t := after (exec .rtcCommit { s with rtc := { s.rtc with pend := [0x30, 0, 2, 0, 0, 0, 0, 0] } })
    t.time = ⟨0x30, 0, 2, 0x30, 3, 0x20, 0, 0x31⟩ ∧ t.regN Reg.RTC_ALM_EVT = 0x101 ∧ t.fget F.SYS_IRQ_RTC_ALARM = 1 := by decide +kernel

/-! Witnesses of the statements' hypotheses, clause by clause -/

theorem test_witness_StepTakesFront :
    ({ r0 with pending := [.join] } : State).pending = .join :: [] ∧
    r0.pending = [] := by decide +kernel

theorem test_witness_StepKeepsSound :
    r0.Inv ∧
    step r0 = .next r0 := ⟨by rw [inv_iff]; decide, rfl⟩

theorem test_witness_CommandKeepsQueueAndPart :
    r0.Inv ∧
    exec .requestAbort r0 = .next (after (exec .requestAbort r0)) := ⟨by rw [inv_iff]; decide, rfl⟩

theorem test_witness_SysCapsFixed :
    part8.Up ∧
    part8.Serves (.read 1 4 4 (crcRead 4 4)) := by
  simp only [up_iff, serves_iff]; decide +kernel

def nvmZero : State := r0.setSymsAt 0x200000 (List.replicate 20 0)
theorem test_witness_ReadCompletes :
    r0.Up ∧
    r0.Serves (.read 1 0x110004 9 (crcRead 0x110004 9)) ∧ r0.frameOk 0x110004 9 = true ∧
    r0.Serves (.read 1 0x30FFF0 16 (crcRead 0x30FFF0 16)) ∧ r0.frameOk 0x30FFF0 16 = true ∧
    r0.Serves (.read 1 0x000020 8 (crcRead 0x000020 8)) ∧ r0.frameOk 0x000020 8 = true ∧
    r0.Serves (.read 1 0x10FFF0 16 (crcRead 0x10FFF0 16)) ∧ r0.frameOk 0x10FFF0 16 = true ∧ r0.Intact 1 ∧
    r0.Serves (.read 1 0x17FFF8 8 (crcRead 0x17FFF8 8)) ∧ r0.frameOk 0x17FFF8 8 = true ∧ 0x17FFF8 / 0x8000 = 0x20 + 15 ∧ r0.dom (domMEM 15) ≠ pwOFF ∧
    r0.Intact 15 ∧ 15 ∉ r0.keeperBanks ∧ (Ecc.decode (r0.strict 0x17FFF8) (r0.symsAt (r0.phys (0x17FFF8 / 16 * 16)))).1 = .clean ∧
    (Ecc.decode (r0.strict 0x30FFF0) (r0.symsAt (r0.phys (0x30FFF0 / 16 * 16)))).1 = .erased ∧
    nvmZero.Up ∧ nvmZero.Serves (.read 1 0x200000 16 (crcRead 0x200000 16)) ∧ nvmZero.frameOk 0x200000 16 = true ∧
    (Ecc.decode (nvmZero.strict 0x200000) (nvmZero.symsAt (nvmZero.phys (0x200000 / 16 * 16)))).1 = .clean ∧
    r0.Serves (.read 1 0x000020 4 (crcRead 0x000020 4)) ∧ r0.frameOk 0x000020 4 = true ∧ r0.regPoison 0x000020 = false ∧
    r0.Serves (.read 1 0x107FFC 8 (crcRead 0x107FFC 8)) ∧ r0.frameOk 0x107FFC 8 = true := by
  simp only [up_iff, serves_iff, State.Intact]; decide +kernel

theorem test_witness_LedgerWindowLocked :
    r0.Up ∧
    r0.Serves (.write 1 0x30FFF0 word16 (crcWrite 0x30FFF0 word16)) ∧
    0x30FFF0 + word16.length ≤ 0x310000 := by
  simp only [up_iff, serves_iff]; decide +kernel

theorem test_witness_EightBankWindow :
    part8.Up ∧
    part8.part = .tv808h ∧
    part8.Serves (.read 1 0x13FFFC 8 (crcRead 0x13FFFC 8)) ∧
    part8.Serves (.read 1 0x17FFFC 8 (crcRead 0x17FFFC 8)) ∧
    part8.Serves (.write 1 0x140000 word16 (crcWrite 0x140000 word16)) := by
  simp only [up_iff, serves_iff]; decide +kernel

theorem test_witness_WordWriteStores :
    r0.Up ∧
    r0.Serves (.write 1 0x17FFF0 word16 (crcWrite 0x17FFF0 word16)) ∧
    word16.length = 16 ∧ 0x17FFF0 % 16 = 0 ∧ 15 < r0.banks ∧ 0x17FFF0 / 0x8000 = 0x20 + 15 ∧ 15 ∉ r0.keeperBanks ∧
    r0.dom (domMEM 15) ≠ pwOFF ∧ r0.Intact 15 ∧ r0.fbit F.MEM_FLIP_CTL_ARM = false := by
  simp only [up_iff, serves_iff, State.Intact]; decide +kernel

def oneDone : State := withOp r0 15 { st := .complete, tag := 7, type := opSCRUB, order := 2 }
def nextDone : State := withOp oneDone 3 { st := .complete, tag := 9, type := opSCRUB, order := 1 }
def windowed : State := { r0 with hif := { r0.hif with win := [⟨7, opcOP_SUBMIT, 0, some (List.replicate 20 3)⟩] } }
theorem test_witness_RecordAndSlotAnswered :
    oneDone.Up ∧
    oneDone.Serves (.opStatus 1 7 0 (crcStatus 7)) ∧ oneDone.Serves (.opStatus 1 0x207 0 (crcStatus 0x207)) ∧
    ((oneDone.opE 15).st ≠ .free ∧ (oneDone.opE 15).tag = 7 ∧ ∀ j, j < 15 → (oneDone.opE j).st = .free ∨ (oneDone.opE j).tag ≠ 7) ∧
    hostAll.Up ∧ hostAll.Serves (.streamRead 1 0x1F 20 (crcStream 0x1F 20)) ∧ hostAll.Serves (.streamRead 1 0x0F 1556 (crcStream 0x0F 1556)) ∧
    hostAll.Intact 16 ∧
    nextDone.Up ∧ nextDone.Serves (.opStatus 1 0x100 0 (crcStatus 0x100)) ∧ (0x100 : Nat).testBit 8 = true ∧ (nextDone.opE 3).st = .complete ∧
    (∀ j, j < 16 → j ≠ 3 → (nextDone.opE j).st = .complete → (nextDone.opE 3).order < (nextDone.opE j).order) ∧
    windowed.Up ∧ windowed.Serves (.opStatus 1 7 0 (crcStatus 7)) ∧ (∀ i, i < 16 → (windowed.opE i).st = .free ∨ (windowed.opE i).tag ≠ 7) ∧
    windowed.hif.win.find? (fun w => w.tag == 7) = some ⟨7, opcOP_SUBMIT, 0, some (List.replicate 20 3)⟩ ∧
    r0.Serves (.opStatus 1 7 0 (crcStatus 7)) ∧ (∀ w ∈ r0.hif.win, w.tag = 7 → w.record = none) ∧ ∀ i, i < 16 → (r0.opE i).st ≠ .complete := by
  simp only [up_iff, serves_iff, State.Intact]; decide +kernel

def receiving : State := st [(F.UPD_STATUS_STATE, upRECEIVING)]
def badFrame : Frame := { opcode := opcREAD, tag := 1, addr := 0, len := 4, crc := 0 }
def goodFrame : Frame := { badFrame with crc := (crcRead 0 4).toNat }
def oneSeen : State := { r0 with hif := { r0.hif with win := [⟨1, 2, 0, none⟩] } }
def odd : OpReq := { tag := 5, opcode := some 7, params := [], crc := frameCrc { opcode := 7, tag := 5, addr := 0, len := 8, crc := 0 } }
def oddFrame : Frame := { opcode := 7, tag := 5, addr := 0, len := 8, crc := odd.crc.toNat }
theorem test_witness_FramesNotTaken :
    r0.Up ∧ oneSeen.Up ∧
    frameOf (.read 1 0 4 0) = some badFrame ∧ badFrame.crcOk = false ∧
    frameOf (.read 1 0 4 (crcRead 0 4)) = some goodFrame ∧ goodFrame.crcOk = true ∧ goodFrame.tag ≠ 0 ∧ goodFrame.opcode ≠ opcSTREAM_READ ∧
    oneSeen.hif.win.find? (fun w => w.tag == goodFrame.tag) = some ⟨1, 2, 0, none⟩ ∧
    frameOf (.shot odd) = some oddFrame ∧ oddFrame.opcode = 7 ∧ oddFrame.crcOk = true ∧ r0.repeatOf oddFrame = none ∧ oddFrame.formBad = true ∧
    (submitFrame opSHOT { req opSHOT (params 1) with type := some 10 }).opcode = opcOP_SUBMIT ∧
    paramLen (leAt (submitFrame opSHOT { req opSHOT (params 1) with type := some 10 }).payload 0 1) = none := by
  simp only [up_iff]; decide +kernel

theorem test_witness_StaleEpochNotEntered :
    r0.Up ∧
    ∀ p ∈ submits, r0.Serves (p.2 (req p.1 (params p.1) 2 255)) ∧ (2 : Byte).toNat.testBit 1 = true ∧ (255 : Byte).toNat ≠ r0.fget F.SYS_EPOCH_EPOCH := by
  simp only [up_iff, serves_iff]; decide +kernel

def inRecovery : State := ready.fset F.SYS_EPOCH_RECOVERING 1
def tableFull : State := { ready with hif := { ready.hif with ops := List.replicate 16 { st := .active } } }
def host8 : State := { hostAll with part := .tv808h }
theorem test_witness_SubmitNotEntered :
    inRecovery.Up ∧ (∀ p ∈ submits, inRecovery.Serves (p.2 (req p.1 (params p.1)))) ∧ inRecovery.recovering = true ∧
    r0.Up ∧ r0.Serves (.shot (req opSHOT (params 1))) ∧ r0.recovering = false ∧ r0.checkOp opSHOT (params 1) = some Sts.LOCKED ∧
    tableFull.Up ∧ (∀ p ∈ submits, tableFull.Serves (p.2 (req p.1 (params p.1))) ∧ tableFull.checkOp p.1 (params p.1) = none) ∧
    (tableFull.recovering = false ∧ ∀ i, i < 16 → (tableFull.opE i).st ≠ .free) ∧
    host8.Up ∧ host8.Serves (.shot (req opSHOT [0x10, 0, 0, 0])) ∧ host8.recovering = false ∧ host8.hostShots = true ∧ leAt [0x10, 0, 0, 0] 0 1 / 2 ^
    host8.chords ≠ 0 ∧
    host8.Serves (.convert (req opCONVERT [0x10, 0, 0, 0])) ∧ host8.hostTherm = true ∧ (leAt [0x10, 0, 0, 0] 0 1).testBit 4 = true ∧
    wired.Up ∧ wired.Serves (.radioTx (req opRADIO_TX (params 5))) ∧ wired.Serves (.radioScan (req opRADIO_SCAN (params 6))) ∧ wired.recovering =
    false := by
  simp only [up_iff, serves_iff]; decide +kernel

def macBuoy : State := { allOn (buoy bsASSOC) with upd := { r0.upd with keys := setAt r0.upd.keys 4 (some (List.range 16)) } }
def macKeeper : State := { keeper with msh := { r0.msh with table := [(15, { long := 0x77, joined := true })] } }
def txMac (dst : Nat) : List Byte := leBytes 2 dst ++ [0, 0] ++ leBytes 3 0x110000 ++ [0] ++ leBytes 2 4 ++ [0, 0]
theorem test_witness_SubmitAccepted :
    ready.Up ∧
    (∀ p ∈ submits, ready.Serves (p.2 (req p.1 (params p.1))) ∧ ready.checkOp p.1 (params p.1) = none) ∧
    ready.recovering = false ∧ ready.hif.ops.length = 16 ∧ (ready.opE 0).st = .free ∧
    ready.rot.entry = none ∧ ready.macMode ≠ 0 ∧ (fogOn (within ready (facet kIDLE))).Up ∧ (fogOn (within ready (facet kIDLE))).rot.fog = true ∧
    macBuoy.Up ∧ macBuoy.Serves (.radioTx (req opRADIO_TX (txMac 0))) ∧ macBuoy.checkOp opRADIO_TX (txMac 0) = none ∧ macBuoy.macMode = 0 ∧
    macBuoy.role ≠ roleKEEPER ∧ macBuoy.msh.queues.length = 3 ∧ macBuoy.recovering = false ∧ (macBuoy.opE 0).st = .free ∧
    macKeeper.Up ∧ macKeeper.Serves (.radioTx (req opRADIO_TX (txMac 16))) ∧ macKeeper.checkOp opRADIO_TX (txMac 16) = none ∧
    macKeeper.role = roleKEEPER ∧ leAt (txMac 16) 0 2 = 16 ∧ macKeeper.macMode = 0 := by
  simp only [up_iff, serves_iff]; decide +kernel

def oneDue : State := withOp r0 15 { st := .active, tag := 7, type := opSHOT, deadline := 5 }
/-- An operation of a TYPE in entry 15, started, with a deadline. -/
def begun (s : State) (type : Nat) : State := withOp s 15 { st := .active, tag := 7, type := type, deadline := 5, started := true, params := params type }
def hostOwn : Own := { kind := .host 15, type := tyDATA, cls := 0, dst := 0, body := [1], lower := 3 }
def txWaits : State :=
  { begun (buoy bsASSOC) opRADIO_TX with msh := { r0.msh with queues := [[hostOwn], [], []], cur := some 0, await := some (.own 0 false) } }
def inCapture : State := { begun (metered hostAll) opSHOT with afe := { r0.afe with shot := some { chords := [], op := some 15 } } }
def waitsRecords : State := { begun (metered hostAll) opSHOT with afe := { r0.afe with hostShots := [{ op := 15, slots := 3, left := 1 }] } }
def pageBegun : State := { begun r0 opNVM_WRITE with memu := { r0.memu with nvm := some ⟨15, 0x110000, 0x280000, 3, 1, 0, 0⟩ } }
def scrubBegun : State := { begun r0 opSCRUB with memu := { r0.memu with scrub := some (15, 16) } }
def commitBegun : State :=
  { begun r0 opLEDGER_COMMIT with ldg := { r0.ldg with commit := some ⟨9, 0, List.replicate 7 (List.replicate 64 5), 2, some 15, false⟩ } }
theorem test_witness_DeadlineCancels :
    oneDue.Up ∧
    (oneDue.opE 15).st = .active ∧ (oneDue.opE 15).started = false ∧ (oneDue.opE 15).deadline ≠ 0 ∧
    (oneDue.opE 15).type ≠ opRADIO_TX ∧ oneDue.rot.entry = none ∧
    txWaits.Up ∧ (txWaits.opE 15).type = opRADIO_TX ∧ txWaits.txLower 15 = 3 ∧
    inCapture.Up ∧ inCapture.afe.shot.bind (·.op) = some 15 ∧ (inCapture.opE 15).started = true ∧ (inCapture.opE 15).type = opSHOT ∧
    waitsRecords.Up ∧ waitsRecords.afe.shot = none ∧
    (begun r0 opCONVERT).Up ∧ (begun r0 opSLINK_SET).Up ∧ (begun (buoy bsASSOC) opRADIO_SCAN).Up ∧
    pageBegun.Up ∧ pageBegun.memu.nvm = some ⟨15, 0x110000, 0x280000, 3, 1, 0, 0⟩ ∧ (pageBegun.opE 15).type = opNVM_WRITE ∧
    scrubBegun.Up ∧ scrubBegun.memu.scrub = some (15, 16) ∧ scrubBegun.memu.scrubDom = none ∧ (scrubBegun.opE 15).type = opSCRUB ∧
    (begun r0 opSTI_LOAD).Up ∧ (begun r0 opSTI_LOAD).loadingOp = some 15 ∧ (begun r0 opSTI_LOAD).memu.nvm = none ∧
    commitBegun.Up ∧ commitBegun.ldg.commit.bind (·.op) = some 15 ∧ (commitBegun.opE 15).type = opLEDGER_COMMIT ∧ commitBegun.rot.entry = none ∧
    (fogOn commitBegun).Up ∧ (fogOn commitBegun).rot.fog = true ∧
    ∀ j, j < 16 → (pageBegun.opE j).expiring = false := by
  simp only [up_iff]; decide +kernel

theorem test_witness_RegisterWriteByAccess :
    r0.Up ∧
    (findReg 0x000024).map (·.rwp) = some false ∧ (findReg 0x000020).map (·.rwp) = some false ∧ (findReg 0x030000).map (·.rwp) = some false ∧
    r0.absentReg 0x000024 = false ∧ r0.absentReg 0x000020 = false ∧ r0.absentReg 0x030000 = false ∧
    (∀ a ∈ [Reg.AFE_CENSUS_CFG, Reg.TIU_EV_CFG 0, Reg.RAD_PRE, Reg.MSH_PROV_IDX, Reg.PWR_WAKE_TRACE, Reg.RTC_ALM_CFG 0, Reg.UPD_WINDOW],
      a % 0x10000 ≠ 0x7FC ∧ a ∉ actionRegs) ∧
    (findReg Reg.HIF_CFG).isSome = true ∧ (findReg (Reg.AFE_CENSUS 15)).isSome = true ∧ part8.Up ∧ part8.absentReg (Reg.AFE_CENSUS 15) = true ∧
    r0.regAt 0x0FFFFC = false ∧ (findReg (Reg.AFE_TEXP 0)).map (·.rwp) = some false ∧ r0.wordLocked (Reg.AFE_TEXP 0) 5 = true ∧
    (findReg 0x000024).isSome = true ∧ r0.wordLocked 0x000024 5 = false := by
  simp only [up_iff]; decide +kernel

def sealed : State := st [(F.UPD_LIFE_STATE, lcSEALED)]
theorem test_witness_PendingAndCommitWords :
    r0.Up ∧ sealed.Up ∧
    (findReg 0x040000).map (·.rwp) = some true ∧ r0.absentReg 0x040000 = false ∧ r0.life ≠ lcSEALED ∧
    (findReg (Reg.ECH_CH 0)).map (·.rwp) = some true ∧ sealed.absentReg (Reg.ECH_CH 0) = false ∧ sealed.life = lcSEALED ∧ isMetro (Reg.ECH_CH 0) =
    true ∧
    ∀ b ∈ [CommitBlock.afe, .ech, .flw, .tmu, .ldg, .rad, .msh], r0.absentReg (commitReg b) = false := by
  simp only [up_iff]; decide +kernel

theorem test_witness_SnapshotsShow :
    r0.Up ∧
    r0.absentReg (Reg.LDG_ACC_W0 0) = false ∧ r0.absentReg (Reg.LDG_ACC_W0 16) = false := by
  simp only [up_iff]; decide +kernel

def counted : State := { r0 with tiu := { r0.tiu with stat := setAt r0.tiu.stat 21 { s1 := -10, s2 := 60, n := 3, least := -5, greatest := -1 } } }
theorem test_witness_StatisticsCommands :
    counted.Up ∧
    counted.absentReg (Reg.TIU_ST_COUNT 21) = false ∧ counted.absentReg (Reg.TIU_ST_CFG 21) = false ∧
    (counted.stat 21).n ≠ 0 ∧ (counted.stat 0).n = 0 ∧
    counted.tiu.stat.length = 22 := by
  simp only [up_iff]; decide +kernel

/-- Event channel 0 in a mode, 2 with channel 1 as its start. -/
def event (m : Nat) : State :=
  st [(F.SYS_GPIO_FN_FN0, 1), (F.SYS_GPIO_FN_FN1, 1), (F.TIU_EV_CFG_MODE 0, m), (F.TIU_EV_CFG_COUNT 0, 5), (F.TIU_EV_CFG_START 0, 1),
    (F.TIU_EV_CFG_MODE 1, 1)]
def armed : State := (after (exec (.eventChannelArm 0) (event 2))).setDom domTIU pwON
theorem test_witness_EventChannelCommands :
    (event 1).Up ∧ (event 2).Up ∧
    (event 1).evState 0 ≠ evARMED ∧ (event 1).evState 0 ≠ evRUN ∧ (event 1).evValid 0 = true ∧
    (event 2).evState 0 ≠ evARMED ∧ (event 2).evState 0 ≠ evRUN ∧ (event 2).evValid 0 = true ∧
    ((event 2).evc 0).serves = none ∧ (event 2).evMode 0 = 2 ∧ (event 2).tiu.ev.length = 6 ∧ (armed.evc 1).serves = some 0 ∧
    (event 2).evStart 0 = 1 ∧ armed.Up ∧ (armed.evc 0).serves = none := by
  simp only [up_iff]; decide +kernel

def twoQueued : State := { event 1 with tiu := { r0.tiu with ev := setAt r0.tiu.ev 0 { queue := [⟨5, 0⟩, ⟨6, 1⟩] } } }
theorem test_witness_HeadTakenAndSlotFreed :
    r0.Up ∧ (r0.evc 5).queue = [] ∧
    twoQueued.Up ∧ (twoQueued.evc 0).queue = ⟨5, 0⟩ :: [⟨6, 1⟩] ∧
    hostAll.Up ∧ hostAll.hostEcho = true := by
  simp only [up_iff]; decide +kernel

def failed : State := st [(F.FLW_CHST_STATE 0, chFAILED), (F.FLW_CHST_STATE 7, chFAILED), (F.FLW_CHST_FCAUSE 7, fcGEOM)]
theorem test_witness_EchoAndFlowWords :
    r0.Up ∧ r0.hostEcho = false ∧ r0.hostFlow = false ∧
    hostAll.Up ∧ hostAll.hostEcho = true ∧ hostAll.hostFlow = true ∧
    failed.Up ∧ failed.chordState 0 = chFAILED ∧ failed.chordCause 0 ≠ fcGEOM ∧ failed.chordState 7 = chFAILED ∧ failed.chordCause 7 = fcGEOM ∧
    (hostAll.fset F.SYS_EPOCH_RECOVERING 1).Up ∧ (hostAll.fset F.SYS_EPOCH_RECOVERING 1).hostEcho = true := by
  simp only [up_iff]; decide +kernel

theorem accSound_of_zero {s : State} (h : s.ldg.acc = List.replicate 17 {}) : s.AccSound := by
  have z : ∀ a, s.acc a = {} := fun a => by
    simp only [State.acc, h, List.getD_eq_getElem?_getD, List.getElem?_replicate]
    split <;> rfl
  refine ⟨by rw [h]; rfl, fun a => ?_⟩
  rw [z a]; decide
theorem stepDue_of {s : State} (h : s.ldg.acc = List.replicate 17 {}) (g : (s.image.isSome && !s.ldg.clearReq && s.ldg.storeErr == []) = true) :
    s.StepDue := by
  simp only [Bool.and_eq_true, Bool.not_eq_true', beq_iff_eq] at g
  exact ⟨g.1.1, g.1.2, g.2, accSound_of_zero h⟩
/-- A heat meter in RUN with a VALID flow of 1000 pL/s, two thermometers and a temperature difference of 10 K. -/
def heating : State :=
  let s := st [(F.ROT_CFG_STATE, lsRUN), (F.FLW_STATUS_STATE, flVALID)]
  { s with image := some { image2 with sensTypes := [1, 1, 0, 0], sensWires := [0, 16, 0, 0] }
           ldg := { r0.ldg with prevShot := true }
           flw := { r0.flw with stepped := true, live := { r0.flw.live with q := 1000 } }
           tmu := { r0.tmu with dt := some 10000, states := [elOK, elOK, 0, 0, 0], t := [some 60000, some 50000, none, none] } }
def cold : State := { heating with tmu := { heating.tmu with dt := none } }
def afterFail : State := { metered r0 with ldg := { r0.ldg with afterPf := true } }
def booking (go : Nat) : State := { metered (hostAll.fset F.LDG_HOSTINC_GO_GO go) with ldg := { r0.ldg with prevShot := true } }
def clearing : State := { r0 with ldg := { r0.ldg with clearReq := true } }
theorem test_witness_ledger_step :
    heating.StepDue ∧ cold.StepDue ∧ (metered r0).StepDue ∧ afterFail.StepDue ∧ (booking 0).StepDue ∧ (booking 1).StepDue :=
  ⟨stepDue_of (by decide +kernel) (by decide +kernel), stepDue_of (by decide +kernel) (by decide +kernel),
    stepDue_of (by decide +kernel) (by decide +kernel), stepDue_of (by decide +kernel) (by decide +kernel),
    stepDue_of (by decide +kernel) (by decide +kernel), stepDue_of (by decide +kernel) (by decide +kernel)⟩
theorem test_witness_LedgerWordsAndStep :
    clearing.Up ∧ clearing.ldg.clearReq = true ∧ clearing.ldg.storeErr = [] ∧
    (metered r0).Up ∧ (metered r0).hostFlow = false ∧ (metered r0).ldg.prevShot = false ∧ (metered r0).ldg.afterPf = false ∧
    afterFail.Up ∧ afterFail.hostFlow = false ∧ afterFail.ldg.prevShot = false ∧ afterFail.ldg.afterPf = true ∧
    heating.Up ∧ heating.hostFlow = false ∧ heating.ldg.prevShot = true ∧ heating.lens = lsRUN ∧ heating.flowEndpoint = some ⟨1000, false⟩ ∧
    heating.ledgerKind = 1 ∧ heating.tempOk = true ∧ heating.energyPoison = false ∧ (heating.fget F.LDG_HC_DTMIN : Int) < heating.tmu.dt.getD 0 ∧
    cold.Up ∧ cold.hostFlow = false ∧ cold.flowEndpoint = some ⟨1000, false⟩ ∧ cold.tempOk = false ∧ cold.ledgerKind ≠ 4 ∧
    (heating.fset F.FLW_STATUS_SUBST 1).flowEndpoint = some ⟨1000, true⟩ ∧
    (∀ g ∈ [0, 1], (booking g).Up ∧ (booking g).hostFlow = true ∧ (booking g).ldg.prevShot = true ∧ (booking g).fget F.LDG_HOSTINC_GO_GO = g) ∧
    (booking 1).feeds (hostAcc 0) = true ∧ (booking 1).feeds (hostAcc 6) = false ∧
    r0.Up ∧ (1 : Word).getLsbD 0 = true ∧ r0.life < lcSEALED ∧ r0.hostFlow = false ∧
    sealed.Up ∧ lcSEALED ≤ sealed.life ∧
    hostAll.Up ∧ hostAll.hostFlow = true := by
  simp only [up_iff]; decide +kernel

theorem test_witness_MeshWords :
    r0.Up ∧ r0.hasRadio = true ∧ r0.recovering = false ∧ r0.rot.entry = none ∧
    (buoy bsOFF).Up ∧ (buoy bsOFF).role = roleBUOY ∧ (buoy bsOFF).rot.entry = none ∧
    (fogOn (within (buoy bsDARK) (facet kDATA))).Up ∧ (fogOn (within (buoy bsDARK) (facet kDATA))).role = roleBUOY ∧ (fogOn (buoy bsDARK)).rot.fog =
    true ∧
    (buoy bsASSOC).Up ∧ (buoy bsASSOC).isBuoy = true ∧ (buoy bsASSOC).rot.entry = none ∧ (buoy bsASSOC).msh.queues.length = 3 ∧
    (st [(F.SYS_EPOCH_RECOVERING, 1)]).Up ∧ (st [(F.SYS_EPOCH_RECOVERING, 1)]).recovering = true := by
  simp only [up_iff]; decide +kernel

def key1 : List Nat := List.range 16
def key2 : List Nat := List.replicate 16 9
/-- A keeper with the customer key, and a link key wrapped under it in MSH_PROV_WRAP, for entry 15. -/
def keyed : State :=
  let s := { keeper [(F.MSH_PROV_IDX_IDX, 15), (F.MSH_PROV_LONG_LONG, 0x55)] with
    upd := { r0.upd with keys := setAt (setAt r0.upd.keys 2 (some key1)) 5 (some key1) } }
  s.setRegs [(Reg.MSH_PROV_WRAP 0, 555883801), (Reg.MSH_PROV_WRAP 1, 974182413), (Reg.MSH_PROV_WRAP 2, 3986031596),
    (Reg.MSH_PROV_WRAP 3, 2540740971), (Reg.MSH_PROV_WRAP 4, 2271523501), (Reg.MSH_PROV_WRAP 5, 2671073406)]
set_option maxRecDepth 100000 in
theorem test_witness_KeeperTable :
    keyed.Up ∧ keyed.hasKeeper = true ∧ keyed.provOk = true ∧ keyed.assoc (keyed.fget F.MSH_PROV_IDX_IDX) = none ∧
    keyed.upd.keys.getD 2 none = some key1 ∧ unwrapKey key1 keyed.provWrap = some key2 ∧
    (keeper []).Up ∧ (keeper []).provOk = true ∧ ((keeper []).upd.keys.getD 2 none).isNone = true ∧
    (keeper [(F.MSH_PROV_IDX_IDX, 16)]).Up ∧ (keeper [(F.MSH_PROV_IDX_IDX, 16)]).hasKeeper = true ∧ (keeper [(F.MSH_PROV_IDX_IDX, 16)]).provOk = false
    ∧
    keyed.msh.kevts = [] ∧ ({ keyed with msh := { keyed.msh with kevts := [(2, 7)] } } : State).Up := by
  simp only [up_iff]; decide +kernel

def noSpare : State := r0.setRegN (Reg.MEM_REMAP 15) 0x20212223
def copying : State := { r0 with memu := { r0.memu with rowCopy := some (15, 31, 3) } }
theorem test_witness_RowsAndPagesRetire :
    r0.Up ∧ 15 < r0.banks ∧ r0.memu.rowCopy = none ∧ r0.rowSpare 15 31 = none ∧ r0.freeRow 15 = some 0 ∧ r0.dom (domMEM 15) ≠ pwOFF ∧ r0.Intact 15 ∧
    noSpare.Up ∧ noSpare.rowSpare 15 31 = none ∧ noSpare.freeRow 15 = none ∧
    copying.Up ∧ copying.memu.rowCopy = some (15, 31, 3) ∧
    receiving.updBusy = true ∧ r0.updBusy = false ∧ r0.inActiveSlot 255 = true ∧ r0.inActiveSlot 511 = false ∧ r0.listUsed < 64 ∧ r0.pageSpare 511 =
    none := by
  simp only [up_iff, State.Intact]; decide +kernel

theorem test_witness_FlipLogPolicy :
    r0.Up ∧
    r0.armLocked 19 = false ∧ r0.armLocked 20 = true ∧ r0.armLocked 31 = true := by
  simp only [up_iff]; decide +kernel

def oneSet : State :=
  (within (st [(F.PWR_SLEEP_ST_STATE, 1), (F.PWR_SLEEPSET_MASK, 2 ^ 26), (F.PWR_HOLD_HOLD, 2 ^ 26)]) (facet kIDLE)).setDom 26 pwON
theorem test_witness_HoldAndSleepSets :
    r0.Up ∧ r0.holdLocked 0x320 = false ∧ r0.holdLocked 2 = true ∧ r0.sleepLocked = false ∧ r0.image = none ∧ r0.pwr.tripped = 0 ∧
    (buoy bsOFF).Up ∧ (buoy bsOFF).sleepLocked = false ∧ (buoy bsOFF).image = some (meshImage roleBUOY) ∧
    (st [(F.PWR_SLEEP_ST_STATE, 2)]).Up ∧ (st [(F.PWR_SLEEP_ST_STATE, 2)]).sleepLocked = true ∧
    oneSet.Up ∧ oneSet.fget F.PWR_SLEEP_ST_STATE = 1 ∧ oneSet.inKind kIDLE = true ∧ 1000 ≤ oneSet.leftUs ∧ oneSet.fget F.PWR_SLEEPSET_MASK = 2 ^ 26 ∧
    oneSet.fget F.PWR_SLEEPSET_TARGET = 0 ∧ oneSet.isOn 26 = true ∧ oneSet.sleepRefusal false 26 = 0 ∧
    r0.sleepReady = false ∧ oneSet.pwr.sleepWaits = false ∧ (oneSet.fset F.PWR_SLEEP_ST_STATE 2).Up ∧
    (oneSet.fset F.PWR_SLEEP_ST_STATE 2).fget F.PWR_SLEEP_ST_STATE = 2 ∧ (oneSet.fset F.PWR_SLEEP_ST_STATE 2).pwr.sleepWaits = false ∧
    (oneSet.fset F.PWR_SLEEP_ST_STATE 2).isOn 26 = true ∧ (oneSet.fset F.PWR_SLEEP_ST_STATE 2).sleepRefusal false 26 = 0 := by
  simp only [up_iff]; decide +kernel

/-- A frozen clock with 2024-02-29 23:59:59 pending. -/
def frozen : State :=
  { st [(F.RTC_PEND_PEND, 0xFF), (F.RTC_STATUS_FROZEN, 1)] with
    rtc := { r0.rtc with pend := [0x59, 0x59, 0x23, 0x29, 0x02, 0x20, 4, 0x24] } }
theorem test_witness_ClockReadAndSet :
    r0.Up ∧ r0.fget F.RTC_STATUS_FROZEN = 0 ∧
    frozen.Up ∧ frozen.Inv ∧ frozen.fget F.RTC_STATUS_FROZEN = 1 ∧ frozen.newTime.ok = true ∧
    (st [(F.RTC_PEND_PEND, 0xFF)]).Up ∧ (st [(F.RTC_PEND_PEND, 0xFF)]).newTime.ok = false := by
  simp only [up_iff, inv_iff]; decide +kernel

def leapNight : State := after (exec .rtcCommit frozen)
/-- An active set whose COEF component (at 0x201000) holds the rising temperatures 1 to 16. -/
def curved : State :=
  let put := fun (s : State) (a v : Nat) => (List.range 4).foldl (fun t i => t.setByte (a + i) (BitVec.ofNat 8 (v / 256 ^ i))) s
  (List.range 16).foldl (fun s j => put s (0x201270 + 8 * j) (j + 1)) (put (put r0 0x200000 0x464D5654) 0x200118 0x1000)
theorem test_witness_ClockTickAndRate :
    r0.Inv ∧ r0.Up ∧ r0.hostTrim = false ∧ r0.rtcCurveBad = true ∧
    leapNight.Inv ∧ leapNight.time.ok = true ∧ leapNight.pwr.aonOff = false ∧
    hostAll.Up ∧ hostAll.hostTrim = true ∧
    ({ leapNight with pwr := { r0.pwr with aonOff := true } } : State).Inv ∧
    curved.Up ∧ curved.hostTrim = false ∧ curved.rtcCurveBad = false ∧
    ({ r0 with rtc := { r0.rtc with next := some (-30000) } } : State).Inv ∧ (r0.setRegN Reg.TIU_HOURS 0xFFFFFFFF).Up ∧
    (r0.setRegN Reg.TIU_HOURS 0xFFFFFFFF).regN Reg.TIU_HOURS = 0xFFFFFFFF ∧ r0.rtc.next = none := by
  simp only [up_iff, inv_iff]; decide +kernel

def verified : State := st [(F.UPD_STATUS_STATE, upVERIFIED), (F.UPD_LIFE_ARMED, 7)]
def scrapped : State := st [(F.UPD_LIFE_STATE, lcSCRAP)]
def tried : State := st [(F.UPD_STATUS_STATE, upTRIAL), (F.UPD_SELFTEST_PASS, 0x3F), (F.UPD_STATUS_SLOT, 1)]
theorem test_witness_UpdateCommands :
    r0.Up ∧ r0.life ≠ lcSCRAP ∧ r0.updState = upIDLE ∧
    receiving.updState = upRECEIVING ∧
    verified.Up ∧ verified.updState = upVERIFIED ∧ verified.fget F.UPD_LIFE_ARMED = 7 ∧
    scrapped.Up ∧ scrapped.life = lcSCRAP ∧
    tried.Up ∧ tried.updState = upTRIAL ∧ tried.fget F.UPD_SELFTEST_PASS = 0x3F := by
  simp only [up_iff]; decide +kernel

theorem test_witness_LifecycleRequests :
    (st [(F.UPD_LIFE_STATE, 3)]).Up ∧ (st [(F.UPD_LIFE_STATE, 3)]).life ≠ lcSCRAP ∧ (st [(F.UPD_LIFE_STATE, 3)]).lifeReason 0x4C43F807 = 0 ∧
    r0.lifeReason 0x4C43FE01 ≠ 0 ∧ r0.lifeReason 3 ≠ 0 ∧ (st []).lifeReason 0x4C43FA05 = 0 ∧ scrapped.life = lcSCRAP ∧
    (0x4C43F807 : Nat) % 8 = 7 ∧ 0x4C43F807 / 2 ^ 16 = 0x4C43 ∧ 0x4C43F807 / 2 ^ 8 % 256 = 248 ∧
    scrapped.Up ∧ scrapped.lifeReason 0x4C43F807 = 0 ∧ scrapped.lifeReason 3 ≠ 0 ∧ needsExport r0.life (0x4C43FE01 % 8) = false := by
  simp only [up_iff]; decide +kernel

def selected (k : Nat) : State := st [(F.UPD_KEY_SEL_SLOT, k)]
def noTrng : State := { r0 with upd := { r0.upd with trngBad := true } }
theorem test_witness_KeysAndRandom :
    (selected 1).Up ∧ (selected 1).upd.keys.length = 6 ∧ (selected 1).fget F.UPD_KEY_SEL_SLOT = 1 ∧ (selected 1).life ≤ lcPROVISION ∧ (selected
    1).hasKey 1 = false ∧
    (selected 3).fget F.UPD_KEY_SEL_SLOT = 3 ∧ lcPROVISION < ((selected 3).fset F.UPD_LIFE_STATE 3).life ∧ (selected 4).fget F.UPD_KEY_SEL_SLOT = 4 ∧
    (selected 4).life = 0 ∧
    r0.upd.trngBad = false ∧ noTrng.Up ∧ noTrng.upd.trngBad = true ∧ noTrng.upd.kekWait = false ∧ noTrng.upd.cellWait = false := by
  simp only [up_iff]; decide +kernel

def unarmed : State := st [(F.UPD_LIFE_ARMED, 7)]
def armedSeal (to_ : Nat) : State := (st [(F.UPD_LIFE_ARMED, to_), (F.UPD_LIFE_STATE, lcSEALED)]).setRegN Reg.UPD_RET_SEQ 9
theorem exportOk_of_seq {s : State} (h : s.regN Reg.UPD_RET_SEQ ≠ s.regN Reg.LDG_SEQ) : s.exportOk = false := by
  delta State.exportOk
  have e : (s.regN Reg.UPD_RET_SEQ == s.regN Reg.LDG_SEQ) = false := beq_false_of_ne h
  cases hc : commitOf s.ringRecords (s.regN Reg.UPD_RET_SEQ) <;> simp only [hc, e, Bool.false_and]
theorem test_witness_ResetAndPowerOn :
    unarmed.Up ∧ unarmed.bank0Lost = false ∧ unarmed.fget F.UPD_LIFE_ARMED = 7 ∧ unarmed.ldg.storeErr = [] ∧
    ({ r0 with pwr := { r0.pwr with aonOff := true } } : State).Inv ∧
    r0.Up ∧ (st [(F.UPD_LIFE_ARMED, 1)]).Up ∧ (st [(F.UPD_LIFE_ARMED, 1)]).bank0Lost = false ∧ (st [(F.UPD_LIFE_ARMED, 1)]).fget F.UPD_LIFE_ARMED ≠ 7 ∧
    needsExport (st [(F.UPD_LIFE_ARMED, 1)]).life 1 = false ∧ (armedSeal lcSCRAP).Up ∧ (armedSeal lcSCRAP).bank0Lost = false ∧
    (armedSeal lcSCRAP).fget F.UPD_LIFE_ARMED = lcSCRAP ∧ needsExport (armedSeal lcSCRAP).life lcSCRAP = true ∧ (armedSeal lcSCRAP).exportOk = false := by
  rw [exportOk_of_seq (by decide +kernel)]; simp only [up_iff, inv_iff]; decide +kernel

def swapping : State := { verified with upd := { r0.upd with swapDue := true } }
theorem test_witness_TrialAndRevert :
    swapping.Up ∧ swapping.bank0Lost = false ∧ swapping.upd.swapDue = true ∧ swapping.updState = upVERIFIED ∧
    tried.Up ∧ tried.bank0Lost = false ∧ tried.updState = upTRIAL ∧ tried.selfTestResult 0 true = some true ∧ tried.selfTestResult 5 true = some false := by
  simp only [up_iff]; decide +kernel

def coreWakes : State := { r0 with pwr := { r0.pwr with link := some ⟨.wake 2, 1, 120⟩ } }
theorem test_witness_FaultAndRecovery :
    (r0.Up ∧ (0xA : BitVec 5).getLsbD 4 = false ∧ r0.transitionDue = false ∧ coreWakes.Up ∧ (0xA : BitVec 5).getLsbD 3 = true ∧
    coreWakes.transitionDue = true ∧ r0.memu.nvm = none ∧ r0.pwr.tripped = 0 ∧ ∀ b, b < 17 → r0.canariesOk b = true) ∧
    r0.recovering = false ∧ inRecovery.Up ∧ inRecovery.recovering = true ∧ inRecovery.rot.back < 8 ∧ inRecovery.pwr.lostBoot = false ∧
    ({ inRecovery with pwr := { r0.pwr with lostBoot := true } } : State).Up ∧ inRecovery.life ≠ lcSCRAP ∧ inRecovery.fbit F.UPD_STATUS_BOOT_FAIL =
    false := by
  simp only [up_iff]; decide +kernel

theorem test_witness_PowerLosses :
    ({ r0 with pwr := { r0.pwr with aonOff := true } } : State).pwr.aonOff = true ∧
    r0.Inv ∧ r0.Up ∧ r0.memu.nvm = none ∧ r0.ldg.erase = none ∧
    (r0.setDom domCAPT pwRETAIN).Up ∧ (r0.setDom domCAPT pwRETAIN).dom domCAPT = pwRETAIN ∧ (r0.setDom domCAPT pwON).dom domCAPT ≠ pwRETAIN := by
  simp only [up_iff, inv_iff]; decide +kernel

theorem test_witness_PowerFailAndRecovery :
    r0.Up ∧ r0.fbit F.PWR_PFW_LATCHED = false ∧ r0.ldg.pfIgnore = false ∧
    (st [(F.PWR_PFW_LATCHED, 1)]).Up ∧ (st [(F.PWR_PFW_LATCHED, 1)]).fbit F.PWR_PFW_LATCHED = true ∧
    (st [(F.PWR_PFW_LATCHED, 1)]).fget F.PWR_EVT_RECOVERED = 0 ∧
    ({ r0 with ldg := { r0.ldg with pfIgnore := true } } : State).Up := by
  simp only [up_iff]; decide +kernel

def running : State := after (exec (.eventOrigin 0) ((after (exec (.eventChannelArm 0) (event 1))).setDom domTIU pwON))
def converting0 : State := { armed with tmu := { r0.tmu with conv := some ⟨.op 15, 1, 1, []⟩ } }
def lockShot : State :=
  { metered armed with afe := { r0.afe with shot := some { chords := [{ chord := 0, slot := 15, opened := 100, skip := false }] } } }
theorem test_witness_RingLosesLock :
    r0.Up ∧ r0.isOn domTIU = false ∧ r0.evState 0 ≠ evARMED ∧ r0.evState 0 ≠ evRUN ∧
    armed.Up ∧ armed.isOn domTIU = true ∧ armed.fbit F.TIU_STATUS_LOCK = true ∧ armed.afe.shot = none ∧ armed.tmu.conv = none ∧
    armed.evState 0 = evARMED ∧ armed.fbit (F.TIU_EV_CFG_ORG 0) = false ∧ (armed.evc 0).serves = none ∧ (armed.evc 1).serves = some 0 ∧
    running.Up ∧ running.evState 0 = evRUN ∧ (running.evc 0).serves = none ∧ running.tiu.ev.length = 6 ∧
    (withOp converting0 15 { st := .active, type := opCONVERT }).Up ∧ converting0.tmu.conv = some ⟨.op 15, 1, 1, []⟩ ∧
    converting0.isOn domTIU = true ∧ converting0.fbit F.TIU_STATUS_LOCK = true ∧
    lockShot.Up ∧ lockShot.isOn domTIU = true ∧ lockShot.fbit F.TIU_STATUS_LOCK = true ∧
    lockShot.afe.shot.map (·.chords) = some [{ chord := 0, slot := 15, opened := 100, skip := false }] ∧ lockShot.chordCfg 0 = some chord0 ∧
    chord0.portA = 0 ∧ chord0.portB = 1 := by
  simp only [up_iff]; decide +kernel

def stamped : State := { running with tiu := { running.tiu with ev := setAt running.tiu.ev 0 { queue := [], last := some 100 } } }
def edge0 : ShotChord := { chord := 0, slot := 3, opened := 100, skip := false, nstA := 63, lastA := 169467 }
def shot0 : Shot := { chords := [edge0], t0 := 70000000, span := 100000 }
def shooting : State := { metered (st [(F.TIU_STATUS_LOCK, 1)]) with afe := { r0.afe with shot := some shot0 } }
/-- Channel 21 runs on SYNC, which the device drives high. -/
def syncing : State :=
  let s := (st [(F.TIU_EV_CFG_MODE 5, 1), (F.HIF_CFG_SYNC_MODE, 1)])
  let s := (after (exec (.eventChannelArm 5) s)).setDom domTIU pwON
  let s := after (exec (.eventOrigin 5) s)
  { s with hif := { s.hif with sync := true, syncEdges := [true] } }
theorem test_witness_EdgesStamped :
    running.Up ∧ running.fget (F.TIU_EV_CFG_MODE 0) = 1 ∧ running.evState 0 = evRUN ∧ (running.evc 0).serves = none ∧ running.tiu.ev.length = 6 ∧
    running.evStamps 0 true = true ∧ (running.evc 0).last = none ∧ (running.evc 0).queue.length < 16 ∧ r0.Up ∧ r0.evStamps 0 true = false ∧
    syncing.Up ∧ syncing.evStamps 5 true = true ∧ syncing.fget (F.TIU_EV_CFG_MODE 5) = 1 ∧ (syncing.evc 5).serves = none ∧
    syncing.fget F.HIF_CFG_SYNC_MODE = 1 ∧ syncing.hif.syncEdges.head? = some true ∧ syncing.hif.syncEdges.head? ≠ some false ∧
    stamped.Up ∧ (stamped.evc 0).last = some 100 ∧ 100 + stamped.evBlank 0 - 1 < 100 + stamped.evBlank 0 ∧ stamped.evStamps 0 true = true ∧
    shooting.Up ∧ shooting.afe.shot = some shot0 ∧ shot0.chords = [edge0] ∧ shooting.chordCfg edge0.chord = some chord0 ∧ chord0.portA = 0 ∧ chord0.portB ≠ 0 ∧
    shooting.fbit F.TIU_STATUS_LOCK = true ∧ edge0.unlocked = false ∧ shooting.passes edge0.chord true 100000 = true ∧ shooting.fbit F.MEM_FLIP_CTL_ARM =
    false ∧
    edge0.opened * 1664 ≤ 170000 ∧ 170000 ≤ edge0.opened * 1664 + 512 * 2 ^ shooting.fget (F.AFE_SLOT_CTL_DECIM edge0.slot) * 1664 ∧ edge0.lastA + 533
    ≤ 170000 ∧
    (Ecc.decode false (shooting.symsAt ((slotAddr edge0.slot + 4 * edge0.nstA) / 16 * 16))).1 = .clean := by
  simp only [up_iff]; decide +kernel

theorem test_witness_MarkBeginsRotation :
    r0.Up ∧ r0.QuietMark ∧ r0.requested = [] := by
  simp only [up_iff, State.QuietMark]; decide +kernel

theorem test_witness_MarkAppliesCommit :
    ∀ b ∈ commitBlocks, (st [(commitReqF b, 1)]).Up ∧ (st [(commitReqF b, 1)]).QuietMark ∧ (st [(commitReqF b, 1)]).requested =
    [b] := by
  simp only [up_iff, State.QuietMark]; decide +kernel

def marking (n load : Nat) : State := metered (st [(F.ROT_CFG_STATE, n), (F.STI_STATUS_LOAD, load)])
theorem test_witness_MarkUnderImage :
    (∀ n ∈ [lsIDLE, lsRUN], (marking n 2).Up ∧ (marking n 2).lens = n ∧ (marking n 2).fget F.STI_STATUS_LOAD = 2 ∧ (marking n 2).ldg.storeErr = []) ∧
    (∀ n ∈ [lsAPPLY1, lsAPPLY2, lsRUN], (marking n 3).Up ∧ (marking n 3).image.isSome = true ∧ (marking n 3).lens = n ∧
      (marking n 3).fget F.STI_STATUS_LOAD ≠ 2 ∧ (marking n 3).ldg.storeErr = []) := by
  simp only [up_iff]; decide +kernel

def pulsing : State := { st [(F.LDG_PULSE_ST_BACKLOG 1, 5), (F.LDG_PULSE_PER_PER 1, 9)] with image := some { pulsSrc := [0, 1] } }
theorem test_witness_LeadSyncAndPulses :
    r0.Up ∧ r0.fget F.HIF_CFG_SYNC_MODE ≠ 1 ∧
    syncing.Up ∧ syncing.fget F.HIF_CFG_SYNC_MODE = 1 ∧ syncing.hif.sync = true ∧
    (st [(F.HIF_CFG_SYNC_MODE, 1)]).Up ∧ (st [(F.HIF_CFG_SYNC_MODE, 1)]).hif.sync = false ∧
    pulsing.Up ∧ pulsing.ldg.pulses.length = 2 ∧ pulsing.fget (F.LDG_PULSE_ST_BACKLOG 1) ≠ 0 ∧ pulsing.fget (F.LDG_PULSE_PER_PER 1) ≠ 0 ∧
    pulsing.pulseSrc 1 ≠ 0 ∧ (pulsing.pulse 1).active = false ∧ pulsing.fget (F.LDG_PULSE_ST_BACKLOG 0) = 0 := by
  simp only [up_iff]; decide +kernel

def withFacet (w : Nat) : State := metered (r0.setRegN (Reg.ROT_FACET 63) w)
def recovering (w : Nat) : State :=
  { (buoy bsASSOC [(F.ROT_CFG_STATE, lsRECOVER)]).setRegN (Reg.ROT_FACET 63) w with rot := { r0.rot with back := lsRUN } }
theorem test_witness_FacetsRun :
    (∀ w ∈ [facet kSHOT 3, facet kFLASH], (recovering w).Up ∧ (recovering w).schedules = false ∧ (recovering w).startsEntry 63 = true ∧
      (recovering w).occurs 63 = true ∧ (recovering w).missesFlash 63 = decide (w = facet kFLASH)) ∧
    ({ r0 with rot := { r0.rot with len := 16384 / 2 } } : State).Up ∧ ({ r0 with rot := { r0.rot with len := 16384 / 2 } } : State).occurs 63 = false ∧
    (fogOn (withFacet (facet kNVM))).Up ∧ (fogOn (withFacet (facet kNVM))).schedules = true ∧ (fogOn (withFacet (facet kNVM))).startsEntry 63 = true ∧
    (fogOn (withFacet (facet kNVM))).occurs 63 = true ∧
    r0.pwr.restNext = 0 ∧ ({ allOn r0 with pwr := { r0.pwr with restNext := 0x20 } } : State).Up ∧
    ({ allOn r0 with pwr := { r0.pwr with restNext := 0x20 } } : State).held 5 = false ∧
    (withFacet 0xF).Up ∧ (withFacet 0xF).schedules = true ∧ (withFacet 0xF).startsEntry 63 = false ∧
    (∀ w ∈ [facet kSHOT 3, facet kCONV 1, facet kECHO 3], (withFacet w).Up ∧ (withFacet w).startsEntry 63 = true ∧ (withFacet w).rot.fog = false ∧
    (withFacet w).occurs 63 = true ∧ (withFacet w).rotLft ≤ (withFacet w).rot.len) ∧
    (fogOn (withFacet (facet kSHOT 3))).Up ∧ (fogOn (withFacet (facet kSHOT 3))).schedules = true ∧ (fogOn (withFacet (facet kSHOT 3))).startsEntry 63
    = true ∧
    r0.rot.entry = none ∧ ∀ w ∈ [facet kSHOT 3, facet kCONV 1, facet kECHO 3], (within r0 w).Up ∧ (within r0 w).rot.entry = some 8 ∧ (within r0
    w).facetWord 8 = w ∧
    ({ r0 with rot := { r0.rot with woke := 0x20 }, memu := { r0.memu with scrubDom := some 13 } } : State).Up ∧
    ({ r0 with rot := { r0.rot with woke := 0x20 }, memu := { r0.memu with scrubDom := some 13 } } : State).fogHolds = 0 ∧
    ({ r0 with rot := { r0.rot with woke := 0x20 }, memu := { r0.memu with scrubDom := some 13 } } : State).held 13 = false := by
  simp only [up_iff]; decide +kernel

def applying (n : Nat) : State := metered (st [(F.ROT_CFG_STATE, n)])
def loading (boot : Nat) : State :=
  withOp (st [(F.STI_STATUS_LOAD, 1), (F.STI_STATUS_BOOT, boot)]) 15 { st := .active, type := opSTI_LOAD, started := true }
theorem test_witness_ApplyAndLoad :
    (applying lsAPPLY1).Up ∧ (applying lsAPPLY1).lens = lsAPPLY1 ∧ (applying lsAPPLY1).ports ≤ (List.replicate 16 (some 100)).length ∧ (applying
    lsAPPLY1).elemMask ≠ 0 ∧
    (applying lsAPPLY2).Up ∧ (applying lsAPPLY2).lens = lsAPPLY2 ∧ (applying lsAPPLY2).tmu.conv = none ∧
    r0.lens ≠ lsAPPLY1 ∧ r0.lens ≠ lsAPPLY2 ∧ r0.elemMask = 0 ∧ r0.fget F.STI_STATUS_LOAD ≠ 1 ∧
    (st [(F.STI_STATUS_LOAD, 1)]).Up ∧ (st [(F.STI_STATUS_LOAD, 1)]).rot.entry = none ∧ (st [(F.STI_STATUS_LOAD, 1)]).fget F.STI_STATUS_LOAD = 1 ∧
    (loading 0).Up ∧ (loading 0).rot.entry = none ∧ (loading 0).fget F.STI_STATUS_LOAD = 1 ∧ (loading 0).fget F.STI_STATUS_BOOT = 0 ∧
    (loading 0).loadingOp = some 15 ∧ (((loading 0).checkStaged).1).isSome = true ∧
    (metered (loading 1)).Up ∧ (metered (loading 1)).fget F.STI_STATUS_BOOT = 1 ∧ (metered (loading 1)).image.isSome = true := by
  simp only [up_iff]; decide +kernel

def convFacet : State := allOn (within (metered r0) (facet kCONV 1))
def converting : State := after (exec (.conversionStart 65000000) convFacet)
def discharging (s : State) : State := after (exec (.eventOrigin 4) s)
def converted : State :=
  (List.range converting.cyclesLeft).foldl (fun s i => after (exec (.eventEdge 4 (BitVec.ofNat 32 (1000000 + 100 * i)) false) (discharging s))) converting
def convert0 : State :=
  withOp (allOn (within (metered hostAll) (facet kHOST 7 1))) 15 { st := .active, type := opCONVERT, params := [1, 0, 0, 0] }
def convertRuns : State := { withOp convert0 15 { st := .active, type := opCONVERT, started := true, expiring := true } with
  tmu := { r0.tmu with conv := some ⟨.op 15, 1, 1, []⟩ } }
def convertEnds : State := { convertRuns with tmu := { r0.tmu with conv := some ⟨.op 15, 1, 1, [none, none, none, none]⟩ } }
theorem test_witness_ConversionRuns :
    convFacet.Up ∧ convFacet.tmu.conv = none ∧ convFacet.entryReady = true ∧ pastWindow 65000000 = true ∧ convFacet.inKind kCONV = true ∧ (facetArg convFacet.nowWord % 32).land
    convFacet.elemMask ≠ 0 ∧
    convFacet.fits 8 65000000 (convFacet.convUs 1 convFacet.navg) = true ∧ convFacet.fits 8 70000000 (convFacet.convUs 1 convFacet.navg) = false ∧
    converting.Up ∧ converting.tmu.conv = some ⟨.sched, 1, convFacet.navg, []⟩ ∧ converting.cyclesLeft ≠ 0 ∧
    converting.evStamps 4 false = false ∧ (discharging converting).Up ∧ (discharging converting).evStamps 4 false = true ∧
    (discharging converting).tmu.conv = converting.tmu.conv ∧
    converted.Up ∧ converted.cyclesLeft = 0 ∧ converted.tmu.conv.map (·.why) = some .sched ∧
    convert0.Up ∧ convert0.measuring = false ∧ convert0.windowReady 1 65000000 = true ∧ convert0.inKind kCONV = false ∧
    convert0.hostQueue.head? = some 15 ∧ (convert0.opE 15).type = opCONVERT ∧
    convert0.fits 8 65000000 (convert0.convUs 1 convert0.navg) = true ∧ convert0.fits 8 78000000 (convert0.convUs 1 convert0.navg) = false ∧
    convert0.windowReady 1 78000000 = true ∧
    convertRuns.Up ∧ convertRuns.tmu.conv = some ⟨.op 15, 1, 1, []⟩ ∧ (convertRuns.opE 15).st = .active ∧ 1 < convertRuns.cyclesLeft ∧
    (convertRuns.opE 15).expiring = true ∧ convertEnds.Up ∧ convertEnds.cyclesLeft = 0 ∧
    (withOp convertRuns 15 { st := .active, type := opCONVERT, started := true }).Up := by
  simp only [up_iff]; decide +kernel

def commit7 (cause done : Nat) : LdgCommit := ⟨9, cause, List.replicate 7 (List.replicate 64 5), done, none, false⟩
def committing (cause done : Nat) : State := within { r0 with ldg := { r0.ldg with commit := some (commit7 cause done) } } (facet kNVM)
def erasing (w : Nat) : State := within { r0 with ldg := { r0.ldg with erase := some 31, torn := [3, 31] } } w
def redoing : State := { committing 1 6 with ldg := { (committing 1 6).ldg with due := [3, 0] } }
theorem test_witness_LedgerRecords :
    r0.Up ∧ (committing 1 3).Up ∧ (committing 1 3).ldg.commit = some (commit7 1 3) ∧ (committing 1 3).rot.fog = false ∧ (committing 1 3).inKind kNVM =
    true ∧
    (commit7 2 6).cause = 2 ∧ (committing 2 6).Up ∧
    (erasing (facet kNVM)).Up ∧ (erasing (facet kNVM)).ldg.erase = some 31 ∧ (erasing (facet kNVM)).inKind kNVM = true ∧ (erasing (facet
    kNVM)).ldg.commit = none ∧
    (erasing (facet kIDLE)).Up ∧ (erasing (facet kIDLE)).inKind kNVM = false ∧
    redoing.Up ∧ redoing.ldg.commit = some (commit7 1 6) ∧ redoing.ldg.due = 3 :: [0] ∧ redoing.ldg.perDue = false ∧
    redoing.waitingCommit = none ∧ redoing.inKind kNVM = true ∧ redoing.rot.fog = false ∧ (committing 1 3).ldg.perDue = false ∧ (committing 1 3).waitingCommit = none := by
  simp only [up_iff]; decide +kernel

def job (fails : Nat) : NvmJob := ⟨15, 0x110000, 0x2FE800, 3, 1, fails, 0⟩
def paging (fails : Nat) : State :=
  allOn (within (withOp { r0 with memu := { r0.memu with nvm := some (job fails) } } 15 { st := .active, type := opNVM_WRITE, started := true })
    (facet kNVM))
def scrubbing (done : Nat) : State :=
  allOn (within (withOp { r0 with memu := { r0.memu with scrub := some (2, done) } } 2
    { st := .active, type := opSCRUB, started := true, params := params 4 }) (facet kIDLE))
def lastPage : State := { paging 0 with memu := { (paging 0).memu with nvm := some { job 0 with done := 2, dst := 0x2FE000 } } }
theorem test_witness_PagesAndScrub :
    (∀ n ∈ [0, 2], (paging n).Up ∧ (paging n).inKind kNVM = true ∧ (paging n).entryReady = true ∧ (paging n).ldg.commit = none ∧ (paging n).memu.nvm =
    some (job n)) ∧
    (paging 0).opExpiring 15 = false ∧ (job 0).dst + 0x800 * ((job 0).done + 1) ≤ 0x300000 ∧ (paging 0).fbit F.MEM_FLIP_CTL_ARM = false ∧ (job 0).done
    + 1 < (job 0).pages ∧
    (job 0).fails + 1 < 3 ∧ 3 ≤ (job 2).fails + 1 ∧ ((paging 2).opE 15).st = .active ∧ ((paging 2).opE 15).autorel = false ∧
    (∀ n ∈ [0, 16], (scrubbing n).Up ∧ (scrubbing n).bgFacet = true ∧ (scrubbing n).entryReady = true ∧ (scrubbing n).pwr.vdrvReq = false ∧ (scrubbing n).memu.scrub = some (2, n) ∧
    ((scrubbing n).opE 2).started = true ∧ ((scrubbing n).opE 2).expiring = false) ∧
    (scrubbing 0).bgOps = [2] ∧ (scrubbing 16).bgOps = [2] ∧ 0 + 16 < ((scrubbing 0).opE 2).par 4 4 ∧ ((scrubbing 16).opE 2).par 4 4 ≤ 16 + 16 ∧
    regionOf (((scrubbing 0).opE 2).par 0 3 + 0) = some 2 ∧ regionOf (((scrubbing 16).opE 2).par 0 3 + 16) = some 2 ∧
    lastPage.Up ∧ lastPage.activeOps opNVM_WRITE = [15] ∧ lastPage.memu.nvm = some { job 0 with done := 2, dst := 0x2FE000 } ∧
    lastPage.inKind kNVM = true ∧ lastPage.entryReady = true ∧ lastPage.ldg.commit = none ∧ lastPage.opExpiring 15 = false := by
  simp only [up_iff]; decide +kernel

def txJob (w : TxWhy) (listen : Bool) : TxJob := ⟨w, [1, 2, 3], 5000, 0, 14, false, listen⟩
def sending (w : TxWhy) (listen : Bool) : State := { buoy bsASSOC with rad := { r0.rad with job := some (txJob w listen) } }
def hostFrame : State := withOp (sending (.host 15) false) 15 { st := .active, type := opRADIO_TX, started := true }
def report0 : Own := { kind := .report, type := tyDATA, cls := 0, dst := 0, body := [1, 2], fcnt := some 7 }
def queued (s : State) (c : Nat) (o : Own) : State := { s with msh := { s.msh with queues := setAt s.msh.queues c [o] } }
def ownFrame : State := queued (sending (.own 0 false) false) 0 report0
/-- s in a DATA entry with its domains ON. -/
def inData (s : State) : State := allOn (within s (facet kDATA 0 1))
theorem test_witness_TransmitSteps :
    r0.Up ∧ r0.queue 2 = [] ∧
    (sending (.join false) true).Up ∧ (sending (.join false) true).rad.job = some (txJob (.join false) true) ∧ (txJob (.join false) true).listen =
    true ∧
    signed 8 (0x80 : Byte).toNat < (sending (.join false) true).fsgn F.RAD_LBT_THRESH ∧ (sending (.join false) true).fsgn F.RAD_LBT_THRESH ≤ signed 8
    (0xF0 : Byte).toNat ∧
    (sending (.join false) true).rot.fog = false ∧ (sending (.join false) true).rad.busy + 1 < (sending (.join false) true).lbtTries ∧
    (sending (.join false) true).rot.entry = none ∧ (inData (sending (.own 0 false) true)).Up ∧ (inData (sending (.own 0 false) true)).DataReady ∧
    (inData (sending (.own 0 false) true)).queue 0 = [] ∧
    hostFrame.Up ∧ hostFrame.rad.job = some (txJob (.host 15) false) ∧ hostFrame.RadioQuiet [15] [] ∧
    (inData (hostFrame.fset F.SYS_DUTY_MAC 1)).Up ∧ (inData (hostFrame.fset F.SYS_DUTY_MAC 1)).DataReady ∧
    (inData (hostFrame.fset F.SYS_DUTY_MAC 1)).RadioQuiet [15] [] ∧ (hostFrame.opE 15).st = .active ∧
    (hostFrame.opE 15).autorel = false ∧
    ownFrame.Up ∧ ownFrame.rad.job = some (txJob (.own 0 false) false) ∧ ownFrame.queue 0 = report0 :: [] ∧ report0.dst ≠ 0xFFFF ∧ ownFrame.isWmMac =
    false ∧ ownFrame.rot.entry = none := by
  simp only [up_iff, State.RadioQuiet, State.DataReady]; decide +kernel

def scan1 : Scan := ⟨15, 0, 2, 300, false⟩
def scanning : State :=
  let s := withOp (buoy bsASSOC [(F.SYS_DUTY_MAC, 1), (F.RAD_RXD_FULL 0, 1)]) 15 { st := .active, type := opRADIO_SCAN, started := true }
  { s with rad := { s.rad with scan := some scan1 } }
def arriving : State := { scanning with rad := { scanning.rad with rx := some ⟨100, 3, 0, 5⟩ } }
def hears : State := allOn (within (buoy bsDARK) (facet kIDLE))
def frame40 : RxFrame := { psdu := sealFrame false false (List.replicate 40 7), rssi := 0xF0 }
theorem test_witness_ReceiveSteps :
    r0.Up ∧ r0.rxOpen = false ∧
    hears.Up ∧ hears.rxOpen = true ∧ hears.msh.window = false ∧
    scanning.Up ∧ scanning.rad.scan = some scan1 ∧ scanning.RadioQuiet [] [15] ∧ scanning.macMode ≠ 0 ∧ (inData scanning).RadioQuiet [] [15] ∧
    (inData arriving).Up ∧ (inData arriving).DataReady ∧ (inData arriving).inKind kDATA = true ∧ frame40.unsup = false ∧
    (inData arriving).checksPass frame40 = true ∧ (inData arriving).rad.rx = some ⟨100, 3, 0, 5⟩ ∧ (inData arriving).freeRx = some 1 ∧
    scanning.rad.rx = none ∧ (scanning.opE 15).st = .active ∧ (scanning.opE 15).autorel = false ∧
    arriving.Up ∧ arriving.rad.rx = some ⟨100, 3, 0, 5⟩ ∧ arriving.rot.entry = none ∧ arriving.rad.scan = some scan1 ∧ scan1.ended = false ∧ arriving.freeRx = some 1 ∧
    arriving.msh.window = false ∧ ({ arriving with rad := { arriving.rad with scan := none } } : State).Up ∧
    ({ arriving with rad := { arriving.rad with scan := none } } : State).RadioQuiet [] [] := by
  simp only [up_iff, State.RadioQuiet, State.DataReady]; decide +kernel

def unanswered : State := let s := queued (buoy bsASSOC) 0 report0; { s with msh := { s.msh with await := some (.own 0 false) } }
def waited : State := within { queued (buoy bsASSOC) 0 report0 with rad := { r0.rad with wait := some (.own 0 false) } } (facet kDATA 0 1)
def ack5 : Answer := ⟨tyACK, 0, 5, [], key2, 0x55, 1, none⟩
def acking : State := { keeper with msh := { r0.msh with answer := some ack5 }, rot := { r0.rot with lft := 500 } }
def down2 : Own := { kind := .host 15, type := tyDATA, cls := 0, dst := 3, body := [7], fcnt := some 9 }
def joined2 : AssocEntry := { long := 0x77, joined := true, down := some down2 }
def downing : State := { keeper with msh := { r0.msh with downNext := some 2, table := [(2, joined2)] }, rot := { r0.rot with lft := 500 } }
theorem test_witness_MeshAnswers :
    unanswered.Up ∧ unanswered.msh.await = some (.own 0 false) ∧ unanswered.queue 0 = report0 :: [] ∧ unanswered.isWmMac = false ∧ report0.tries + 1 <
    unanswered.tries ∧ unanswered.rot.entry = none ∧ (inData unanswered).Up ∧ (inData unanswered).DataReady ∧
    waited.Up ∧ waited.rad.wait = some (.own 0 false) ∧ waited.txBusy = false ∧ waited.rot.fog = false ∧ waited.inKind kDATA = true ∧ waited.queue 0 =
    report0 :: [] ∧
    report0.fcnt = some 7 ∧ waited.isWmMac = false ∧ waited.maySend report0 = true ∧ waited.wantsFlood report0 = false ∧ waited.ownAttemptUs report0 ≤
    waited.leftUs ∧
    waited.Clear (waited.ownAir report0 (waited.ownFrame report0 7 false)) (chanOf waited.light waited.evt) false ∧
    acking.Up ∧ acking.msh.answer = some ack5 ∧ acking.txBusy = false ∧
    acking.clearOfMark (acking.meshAir (9 + ack5.payload.length + 8) (ack5.type == tyACK)) = true ∧ acking.msh.fcntEnd
    = false ∧ acking.regN Reg.MSH_FCNT % 2 ^ 20 < 2 ^ 20 - 1 ∧
    acking.Clear (acking.meshAir 40 (ack5.type == tyACK)) (chanOf acking.light acking.evt) false ∧
    ({ acking with rad := { r0.rad with job := some (txJob .flash false) } } : State).Up ∧
    ({ acking with rot := { acking.rot with lft := 16382 } } : State).Up ∧ ({ acking with rot := { acking.rot with lft := 16382 } } : State).clearOfMark
      (acking.meshAir (9 + ack5.payload.length + 8) (ack5.type == tyACK)) = false ∧
    downing.clearOfMark (downing.meshAir (9 + 1 + (downing.opE 15).par 8 2 + 8) false) = true ∧
    downing.Up ∧ downing.msh.downNext = some 2 ∧ downing.assoc 2 = some joined2 ∧ joined2.down = some down2 ∧ down2.kind = .host 15 ∧ down2.fcnt =
    some 9 ∧ downing.txBusy = false ∧
    downing.Clear (downing.meshAir 40 false) (chanOf downing.light downing.evt) false := by
  simp only [up_iff, clear_iff, State.DataReady]; decide +kernel

def flashing : State := within { keeper [(F.MSH_FCNT_FCNT, 3)] with msh := { r0.msh with cellKey := some key1 } } (facet kFLASH)
def opening : State := within (buoy bsASSOC) (facet kFLASH)
def listening (state miss : Nat) : State := { buoy state [(F.MSH_STATUS_MISS, miss)] with msh := { r0.msh with window := true } }
theorem test_witness_FlashAndWindow :
    flashing.Up ∧ flashing.isKeeper = true ∧ flashing.inKind kFLASH = true ∧ flashing.txBusy = false ∧ flashing.msh.cellKey = some key1 ∧
    flashing.msh.fcntEnd = false ∧ flashing.regN Reg.MSH_FCNT % 2 ^ 20 < 2 ^ 20 - 1 ∧
    flashing.Clear (flashing.meshAir 50 false) (chanOf flashing.light flashing.evt) false ∧
    r0.Up ∧ r0.isKeeper = false ∧ keeper.Up ∧ keeper.inKind kFLASH = false ∧
    opening.Up ∧ opening.isBuoy = true ∧ opening.mst ≠ bsSCAN ∧ opening.inKind kFLASH = true ∧ opening.txBusy = false ∧ opening.rot.fog = false ∧
    (fogOn opening).Up ∧ (fogOn opening).rot.fog = true ∧
    ({ listening bsASSOC 2 with rad := { r0.rad with rx := some ⟨100, 3, 0, 0⟩ } } : State).Up ∧
    (listening bsJOIN 2).Up ∧ (listening bsJOIN 2).mst = bsJOIN ∧ (listening bsDARK 3).mst ≠ bsJOIN ∧
    (listening bsASSOC 2).Up ∧ (listening bsASSOC 2).msh.window = true ∧ (listening bsASSOC 2).rad.rx = none ∧ (listening bsASSOC 2).mst = bsASSOC ∧
    (listening bsDARK 3).Up ∧ (listening bsDARK 3).mst ≠ bsASSOC ∧
    ({ opening with msh := { opening.msh with shut := true } } : State).Up ∧ (listening bsASSOC 2).msh.shut = false := by
  simp only [up_iff, clear_iff]; decide +kernel

def relay7 : Relay := ⟨List.replicate 40 5, 7, 9, false⟩
def fogRelay7 : Relay := ⟨List.replicate 40 5, 7, 9, true⟩
def relaying (lft : Nat) : State := allOn (within { buoy bsASSOC with msh := { r0.msh with relays := [relay7] } } (facet kFLOOD 0 1) lft)
def fogRelaying : State := allOn (within (fogOn { buoy bsASSOC with msh := { r0.msh with relays := [fogRelay7] } }) (facet kFLOOD 0 1) 2100)
def flooding : State := allOn (within (queued (buoy bsASSOC) 0 { report0 with tries := 4 }) (facet kFLOOD 0 1))
def joining : State := allOn (within (buoy bsJOIN) (facet kCONTEND 0 1))
theorem test_witness_FloodsAndJoins :
    (∀ t ∈ [2100, 2500], (relaying t).Up ∧ (relaying t).msh.relays = relay7 :: [] ∧ (relaying t).txBusy = false ∧ (relaying t).inKind kFLOOD = true ∧
      (relaying t).rad.wait = none ∧ (relaying t).radioOn = true ∧ (relaying t).msh.origDue = false) ∧
    ({ buoy bsASSOC with msh := { r0.msh with relays := [relay7] } } : State).Up ∧
    ({ buoy bsASSOC with msh := { r0.msh with relays := [relay7] } } : State).radioOn = false ∧
    (fogOn (relaying 2100)).msh.relays.any (·.fog) = false ∧ fogRelaying.msh.relays.any (·.fog) = true ∧ fogRelaying.radioOn = true ∧
    flooding.rad.wait = none ∧ flooding.radioOn = true ∧ flooding.msh.relays.any (·.fog) = false ∧
    flooding.queue 0 = { report0 with tries := 4 } :: [] ∧
    (relaying 2100).rot.fog = false ∧ (fogOn (relaying 2100)).Up ∧ (fogOn (relaying 2100)).rot.fog = true ∧ relay7.fog = false ∧
    (fogOn (relaying 2100)).msh.relays = relay7 :: [] ∧ (fogOn (relaying 2100)).txBusy = false ∧
    fogRelaying.Up ∧ fogRelaying.rot.fog = true ∧ fogRelaying.msh.relays = fogRelay7 :: [] ∧ fogRelay7.fog = true ∧ fogRelaying.txBusy = false ∧
    fogRelaying.inKind kFLOOD = true ∧ 10000 ≤ fogRelaying.leftUs ∧
    fogRelaying.Clear (fogRelaying.meshAir 40 true) (chanOf fogRelaying.light fogRelaying.evt) true ∧
    10000 ≤ (relaying 2100).leftUs ∧ (relaying 2500).leftUs < 10000 ∧
    (relaying 2100).Clear ((relaying 2100).meshAir relay7.psdu.length relay7.fog) (chanOf (relaying 2100).light (relaying 2100).evt) relay7.fog ∧
    flooding.Up ∧ flooding.inKind kFLOOD = true ∧ flooding.txBusy = false ∧ flooding.msh.await = none ∧ 10000 ≤ flooding.leftUs ∧ flooding.floodClass
    = some 0 ∧ flooding.isWmMac = false ∧
    flooding.Clear (flooding.ownAir { report0 with tries := 4 } (flooding.ownFrame { report0 with tries := 4 } 7 true)) (chanOf flooding.light
    flooding.evt) false ∧
    ({ relaying 2100 with msh := { (relaying 2100).msh with fcntEnd := true } } : State).Up ∧
    joining.Up ∧ joining.role = roleBUOY ∧ joining.mst = bsJOIN ∧ joining.txBusy = false ∧ joining.msh.await = none ∧ joining.msh.fcntEnd = false ∧
    joining.regN Reg.MSH_FCNT % 2 ^ 20 < 2 ^ 20 - 1 ∧
    joining.rot.fog = false ∧ joining.joinFits = true ∧ joining.radioOn = true ∧ joining.Clear
    (joining.meshAir 40 false) (chanOf joining.light joining.evt) false := by
  simp only [up_iff, clear_iff]; decide +kernel

def warned (s : State) : State := { s with msh := { s.msh with events := [⟨1, 5, [1]⟩] } }
def fog7 : Own := { kind := .fog, type := tyDATA, cls := 2, dst := 0, body := [1, 2], fcnt := some 7, g := 5000 }
def alarming : State := allOn (fogOn (queued (buoy bsASSOC) 2 fog7))
def sleeping : State := fogOn (queued (buoy bsASSOC) 2 fog7)
def cut : State := { fogOn keeper with rad := { r0.rad with job := some (txJob .flash false) }, tmu := { r0.tmu with conv := some ⟨.sched, 1, 1, []⟩ } }
def stopped : State := { warned r0 with pwr := { r0.pwr with sleepWaits := true } }
def slowEntry : State := { within (fogOn (buoy bsASSOC)) (facet kDATA) with rot := { r0.rot with fog := true, entry := some 8, waking := true } }
theorem test_witness_FogPreempts :
    r0.Up ∧ r0.msh.events = [] ∧ r0.rot.fog = false ∧ r0.memu.nvm = none ∧ r0.memu.scrub = none ∧ r0.ldg.commit = none ∧
    (warned r0).Up ∧ (warned r0).msh.events = ⟨1, 5, [1]⟩ :: [] ∧ (warned r0).fogSends = false ∧
    (warned (buoy bsASSOC)).Up ∧ (warned (buoy bsASSOC)).fogSends = true ∧ (warned (buoy bsASSOC)).msh.queues.length = 3 ∧ ((warned (buoy
    bsASSOC)).queue 2).length < 4 ∧
    r0.loadingOp = none ∧ alarming.radioOn = true ∧ alarming.msh.await = none ∧ alarming.rad.wait = none ∧ fog7.held = false ∧
    sleeping.Up ∧ sleeping.rot.fog = true ∧ sleeping.fogSends = true ∧ sleeping.queue 2 = fog7 :: [] ∧
    sleeping.hasRadio = true ∧ sleeping.isOn domRADIO = false ∧
    alarming.Up ∧ alarming.rot.fog = true ∧ alarming.fogSends = true ∧ alarming.queue 2 = fog7 :: [] ∧ alarming.isWmMac = false ∧ alarming.maySend
    fog7 = true ∧ alarming.wantsFlood fog7 = false ∧ alarming.txBusy = false ∧
    alarming.Clear (alarming.ownAir fog7 (alarming.ownFrame fog7 7 false)) (chanOf alarming.light alarming.evt) true ∧
    cut.Up ∧ cut.rot.fog = true ∧ cut.rad.job = some (txJob .flash false) ∧ cut.tmu.conv = some ⟨.sched, 1, 1, []⟩ ∧
    stopped.Up ∧ stopped.pwr.sleepWaits = true ∧ stopped.fogSends = false ∧ (warned r0).pwr.sleepWaits = false ∧
    alarming.msh.fcntEnd = false ∧ slowEntry.Up ∧ slowEntry.rot.fog = true ∧ slowEntry.rot.waking = true ∧ slowEntry.rot.entry = some 8 := by
  simp only [up_iff, clear_iff]; decide +kernel

def waking (k stage : Nat) : State := { r0.setDom k pwTRANS with pwr := { r0.pwr with wakes := [⟨k, stage, false⟩], xo := false } }
def linked (tries : Nat) : State :=
  { st [(F.PWR_SLINK_ST_BUSY, 1), (F.PWR_SLINK_ST_SEQ, 9)] with pwr := { r0.pwr with link := some ⟨.vdrv, 2, 255⟩, linkTries := tries } }
def opLinked (tries : Nat) : State :=
  { withOp (linked tries) 15 { st := .active, type := opSLINK_SET, started := true } with pwr := { (linked tries).pwr with
      link := some ⟨.op 15, 2, 255⟩ } }
theorem test_witness_WakesAndSupplyLink :
    r0.Up ∧ r0.wakeOfDom 26 = none ∧ r0.rot.entry = none ∧ r0.pwr.link = none ∧ r0.pwr.settle = [] ∧ r0.rad.fogWait = false ∧
    fcBROWNOUT ∉ faultMask (15 : BitVec 5).toNat ∧
    (waking 26 4).Up ∧ (waking 26 4).wakeOfDom 26 = some ⟨26, 4, false⟩ ∧ (waking 26 4).followsCore 26 = false ∧ (waking domAFE 2).Up ∧ (waking
    domAFE 2).wakeOfDom domAFE = some ⟨domAFE, 2, false⟩ ∧
    (linked 0).Up ∧ (linked 0).pwr.link = some ⟨.vdrv, 2, 255⟩ ∧ (linked 0).pwr.linkQ = [] ∧ slinkAckOk ((linked 0).fget F.PWR_SLINK_ST_SEQ) 2 255
    (0x9A, BitVec.ofNat 8 (crc8 [0x92, 0xFF, 0x9A])) = true ∧
    (linked 2).Up ∧ (linked 2).pwr.linkTries < 3 ∧ (linked 3).Up ∧ (linked 3).pwr.linkTries = 3 ∧
    coreWakes.Up ∧ coreWakes.pwr.link = some ⟨.wake 2, 1, 120⟩ ∧ (⟨.wake 2, 1, 120⟩ : Slink).watched = true ∧
    ({ r0 with pwr := { r0.pwr with settle := [255, 100] } } : State).Up ∧
    (opLinked 0).Up ∧ (opLinked 0).rot.entry = none ∧ (opLinked 0).pwr.link = some ⟨.op 15, 2, 255⟩ ∧ ((opLinked 0).opE 15).st = .active ∧
    (opLinked 3).Up ∧ (opLinked 3).pwr.linkTries = 3 ∧ ((opLinked 3).opE 15).autorel = false ∧
    slinkAckOk ((opLinked 0).fget F.PWR_SLINK_ST_SEQ) 2 255 (0x9A, BitVec.ofNat 8 (crc8 [0x92, 0xFF, 0x9A])) = true := by
  simp only [up_iff]; decide +kernel

def hostShot (trig : Nat) : State :=
  withOp (allOn (within (metered hostAll) (facet kHOST 1 1))) 15
    { st := .active, type := opSHOT, params := [3, BitVec.ofNat 8 trig, 0, 0] }
def hwShot : State := allOn (within (metered r0) (facet kSHOT 3))
def lateShot (due : Bool) : State :=
  let s := hostShot 0
  withOp s 15 { s.opE 15 with due := due }
def noSlot : State := (List.range 16).foldl (fun s k => s.fset (F.AFE_SLOT_CTL_STATE k) slotFULL) (hostShot 0)
theorem test_witness_ShotsFire :
    r0.Up ∧ (∀ i, i < 16 → r0.armedTrig i = true → (r0.opE i).started = true) ∧ r0.hostQueue = [] ∧
    (∀ t ∈ [0, 1], (hostShot t).Up ∧ (hostShot t).windowReady 0 70000000 = true ∧ (hostShot t).measuring = false ∧ (hostShot t).hostShots = true ∧ popCount 8
    (((hostShot t).opE 15).par 0 1) ≤ (hostShot t).freeSlots.length) ∧
    (∀ t ∈ [0, 1], (hostShot t).shotFits (((hostShot t).opE 15).par 0 1) 70000000 = true) ∧
    ((hostShot 1).activeOps opSHOT).find? (fun i => (hostShot 1).armedTrig i && !((hostShot 1).opE i).started) = some 15 ∧
    (hostShot 0).hostQueue.head? = some 15 ∧ ((hostShot 0).opE 15).type = opSHOT ∧
    hwShot.Up ∧ hwShot.inKind kSHOT = true ∧ hwShot.entryReady = true ∧ pastWindow 70000000 = true ∧ hwShot.hostShots = false ∧
    hwShot.afe.shot = none ∧
    (∀ d ∈ [true, false], (lateShot d).Up ∧ (lateShot d).hostQueue.head? = some 15 ∧ (lateShot d).windowReady 0 78100000 = true ∧
      (lateShot d).measuring = false ∧ (lateShot d).shotFits (((lateShot d).opE 15).par 0 1) 78100000 = false ∧ ((lateShot d).opE 15).due = d ∧
      (lateShot d).rot.fog = false) ∧
    noSlot.Up ∧ noSlot.hostQueue.head? = some 15 ∧ noSlot.windowReady 0 70000000 = true ∧ noSlot.measuring = false ∧
    noSlot.shotFits ((noSlot.opE 15).par 0 1) 70000000 = true ∧ noSlot.freeSlots.length < popCount 8 ((noSlot.opE 15).par 0 1) ∧
    (fogOn (hostShot 0)).Up ∧ (fogOn (hostShot 0)).hostQueue.head? = some 15 ∧ (fogOn (hostShot 0)).rot.fog = true := by
  simp only [up_iff]; decide +kernel

def capturing : State := { shooting with afe := { r0.afe with shot := some { chords := [{ edge0 with slot := 15, nstA := 127 }] } } }
def echoing : State :=
  (allOn (within (metered r0) (facet kECHO 3 3))).fsetAll
    [(F.AFE_SLOT_CTL_STATE 9, slotFULL), (F.AFE_SLOT_CTL_CHORD 9, 1), (F.ROT_NUM_NUM, 5), (⟨Reg.AFE_SLOT_ROT 9, 0, 32⟩, 5)]
def hostEchoing : State :=
  let s := echoing.fsetAll [(F.SYS_DUTY_SHOT, 1), (F.AFE_SLOT_CTL_HOST 9, 1)]
  { s with afe := { s.afe with fired := [9] } }
/-- The host's shot of entry 15 ends its capture. -/
def hostCapture (echo : Nat) (late : Bool) : State :=
  withOp { capturing.fsetAll [(F.SYS_DUTY_SHOT, 1), (F.SYS_DUTY_ECHO, echo)] with
    afe := { r0.afe with shot := some { chords := [{ edge0 with slot := 15 }], op := some 15 } } } 15
    { st := .active, type := opSHOT, started := true, expiring := late }
def lastRecord : State :=
  let s := withOp hostEchoing 15 { st := .active, type := opSHOT, started := true }
  { s with afe := { s.afe with hostShots := [{ op := 15, slots := 0x300, left := 0x200, first := some 4 }] } }
theorem test_witness_CaptureAndEcho :
    r0.Up ∧ r0.afe.shot = none ∧
    capturing.Up ∧ capturing.afe.shot = some { chords := [{ edge0 with slot := 15, nstA := 127 }] } ∧
    echoing.Up ∧ echoing.hostEcho = false ∧ echoing.inKind kECHO = true ∧ echoing.entryReady = true ∧ pastWindow 80000000 = true ∧ echoing.echoSlot 9 = true ∧ echoing.chordCfg
    (echoing.fget (F.AFE_SLOT_CTL_CHORD 9)) = some chord1 ∧
    echoing.echoFits 9 80000000 = true ∧ echoing.echoFits 9 800000000 = false ∧ echoing.echoTurn 9 80000000 = true ∧
    echoing.echoTurn 9 800000000 = true ∧ pastWindow 800000000 = true ∧ echoing.hostShots = false ∧
    hostEchoing.Up ∧ hostEchoing.echoSlot 9 = true ∧ hostEchoing.hostShots = true ∧ hostEchoing.echoTurn 9 80000000 = true ∧
    hostEchoing.echoTurn 9 800000000 = true ∧ hostEchoing.echoFits 9 800000000 = false ∧
    (∀ e ∈ [0, 1], ∀ l ∈ [true, false], (hostCapture e l).Up ∧ (hostCapture e l).hostEcho = decide (e = 1) ∧ ((hostCapture e l).opE 15).st = .active ∧
      ((hostCapture e l).opE 15).expiring = l) ∧
    lastRecord.Up ∧ lastRecord.afe.hostShots.find? (fun h => h.left.testBit 9) = some { op := 15, slots := 0x300, left := 0x200, first := some 4 } ∧
    (0x200 : Nat) = 2 ^ 9 ∧ (lastRecord.opE 15).st = .active ∧ lastRecord.echoFits 9 80000000 = true := by
  simp only [up_iff]; decide +kernel

def staged : State := { receiving with upd := { r0.upd with staging := [(2047, block256)] } }
def mapped : State := receiving.setRegN (Reg.UPD_MAP 63) 0x80000000
def held16 : State := { receiving with upd := { r0.upd with staging := (List.range 16).map fun b => (b, []) } }
set_option maxRecDepth 100000 in
theorem test_witness_UpdateEngine :
    (st [(F.UPD_STATUS_STATE, upERASING)]).Up ∧ (st [(F.UPD_STATUS_STATE, upERASING)]).updState = upERASING ∧ (st [(F.UPD_STATUS_STATE,
    upERASING)]).updTime = true ∧
    staged.Up ∧ staged.upd.staging = [(2047, block256)] ∧ staged.updState = upRECEIVING ∧ staged.updTime = true ∧ block256.length = 256 ∧ staged.fbit
    F.MEM_FLIP_CTL_ARM = false ∧
    (st [(F.UPD_STATUS_STATE, upVERIFYING)]).Up ∧ (st [(F.UPD_STATUS_STATE, upVERIFYING)]).updState = upVERIFYING ∧ (st [(F.UPD_STATUS_STATE,
    upVERIFYING)]).recovering = false ∧
    r0.updState ≠ upERASING ∧ r0.updState ≠ upVERIFYING ∧
    receiving.Serves (.updateBlock 1 0x07FF00 block256 (crcBlock 0x07FF00 block256)) ∧ receiving.life ≠ lcSCRAP ∧
    receiving.blockMapped (0x07FF00 / 256) = false ∧ receiving.upd.staging.length < 16 ∧
    mapped.Up ∧ mapped.Serves (.updateBlock 1 0x07FF00 block256 (crcBlock 0x07FF00 block256)) ∧ mapped.blockMapped (0x07FF00 / 256) = true ∧
    held16.Up ∧ held16.Serves (.updateBlock 1 0x07FF00 block256 (crcBlock 0x07FF00 block256)) ∧ held16.blockMapped (0x07FF00 / 256) = false ∧
    held16.upd.staging.length = 16 ∧ r0.Serves (.updateBlock 1 0 block256 (crcBlock 0 block256)) ∧ r0.updState ≠ upRECEIVING ∧
    [(1 : Fin 16), 2, 3].length = 3 := by
  simp only [up_iff, serves_iff]; decide +kernel

/-! Frames of the mesh, sealed under all-zero keys, cell 0x1234 -/

def psduOf (n v : Nat) : RxFrame := { psdu := leBytes n v, rssi := 50 }
def partsOf (f : RxFrame) : RxParts := (Machine.readFrame (f.psdu.take (f.psdu.length - 4))).getD ⟨⟨0, 0, 0, 0, 0, false, none⟩, 0, [], []⟩
def hearing (s : State) : State := { s with rad := { s.rad with rx := some ⟨0, 0, 0, 0⟩ } }
def hearsOk (s : State) (f : RxFrame) : Bool :=
  s.rad.rx == some ⟨0, 0, 0, 0⟩ && s.macMode == 0 && s.role != 0 && !f.unsup && s.checksPass f && !f.fmtB &&
    (Machine.readFrame (f.psdu.take (f.psdu.length - 4))).isSome && s.rad.scan.isNone
theorem hears_iff {s : State} {f : RxFrame} : s.Hears f ⟨0, 0, 0, 0⟩ (partsOf f) ↔ hearsOk s f = true := by
  simp only [hearsOk, Bool.and_eq_true, beq_iff_eq, bne_iff_ne, ne_eq, Bool.not_eq_true', Option.isNone_iff_eq_none, State.Hears, and_assoc, partsOf]
  cases Machine.readFrame (f.psdu.take (f.psdu.length - 4)) <;> simp
def flashFrame : RxFrame := psduOf 36 0x3c030580d8c5f9f4ba7b93e80c790000010000000000000000123400000009ffff000000
def joinFrame : RxFrame := psduOf 43 0x33111ec46fcdf1a7908c88ee72533be21506ef7e2382902eb7e0fbbf3b24aad6a00400000009fffe000002
def ackFrame : RxFrame := psduOf 25 0x97d63f0fad3402551089624700000003000000090005000004
def setFrame : RxFrame := psduOf 22 0x72e92d9ccb5271928a47874000000000090005000003
def downFrame : RxFrame := psduOf 23 0xe0cdb36b35c444fe7c6bd6a80b11000000090005000003
def forgedFrame : RxFrame := psduOf 22 0x42f6bdc45a3c891b8abbdedcc6000000090005000003
def upFrame : RxFrame := psduOf 23 0x21b517517feef15e85cbf7a12c10000000090000000103
def reqFrame : RxFrame := psduOf 25 0x3f0a5e626bcd8e25b775451900000007000000090000fffe01
def floodFrame : RxFrame := psduOf 26 0xe82083ca9f09cbca6a95fa0100033402000000090000000323
def lit (n : Nat) : State := hearing (buoy n [(F.MSH_CFG_AUTOJOIN, 1), (F.MSH_SHORT_SHORT, 5), (F.MSH_RETRY_RELAY, 1)])
def listens (a : Option TxWhy) (q : List Own) : State :=
  { lit bsASSOC with msh := { r0.msh with window := false, await := a, queues := [q, [], []] } }
def reportOwn : Own := { kind := .report, type := tyDATA, cls := 0, dst := 0, body := [1], fcnt := some 3 }
def rxFull : State := { listens none [] with regs := ((listens none []).fsetAll ((List.range 4).map fun q => (F.RAD_RXD_FULL q, 1))).regs }
def inFlood : State :=
  { within (lit bsASSOC) (facet kFLOOD) with msh := { r0.msh with window := false, cellKey := some (List.replicate 16 0) } }
theorem test_witness_MeshFrames :
    (∀ n ∈ [bsASSOC, bsDARK, bsSCAN], (lit n).Up ∧ (lit n).Hears flashFrame ⟨0, 0, 0, 0⟩ (partsOf flashFrame) ∧ (lit n).mst = n ∧ (lit n).isBuoy = true ∧
      (lit n).isKeeper = false ∧ (lit n).rot.entry = none ∧ (lit n).flashMatches (readFlash (partsOf flashFrame).clear) = true ∧
      (readFlash (partsOf flashFrame).clear).cell = (lit n).light.cell ∧ (lit n).fbit F.MSH_CFG_AUTOJOIN = true ∧ (lit n).msh.suspended = false) ∧
    (partsOf flashFrame).head.flood = none ∧ (partsOf flashFrame).head.type = tyFLASH ∧ (readFlash (partsOf flashFrame).clear).flags.testBit 3 = true ∧
    (within (lit bsASSOC) (facet kFLASH)).inKind kFLASH = true ∧ (lit bsASSOC).msh.relayDue = false ∧
    ((partsOf flashFrame).verify (lit bsDARK).light.cell (lit bsDARK).cellSec).isSome = true ∧
    (∀ p ∈ [(some (TxWhy.join false), [], joinFrame), (some (.own 0 false), [reportOwn], ackFrame), (none, [], setFrame), (none, [], downFrame),
        (none, [], forgedFrame)],
      (listens p.1 p.2.1).Up ∧ (listens p.1 p.2.1).Hears p.2.2 ⟨0, 0, 0, 0⟩ (partsOf p.2.2) ∧ (listens p.1 p.2.1).isBuoy = true ∧
      (listens p.1 p.2.1).isKeeper = false ∧ (partsOf p.2.2).head.flood = none ∧ (listens p.1 p.2.1).rot.entry = none ∧
      (listens p.1 p.2.1).msh.window = false ∧
      (listens p.1 p.2.1).accept (partsOf p.2.2).source (partsOf p.2.2).head.fcnt (listens p.1 p.2.1).msh.newest = .new) ∧
    (partsOf joinFrame).head.type = tyJOIN_RSP ∧ (partsOf joinFrame).head.dst = 0xFFFE ∧
    ((partsOf joinFrame).verify (lit bsASSOC).light.cell (lit bsASSOC).buoyHears).isSome = true ∧
    (partsOf ackFrame).head.type = tyACK ∧ (partsOf ackFrame).source = 0 ∧ (partsOf ackFrame).head.dst = 5 ∧ leAt (partsOf ackFrame).clear 0 4 = 3 ∧
    ((partsOf ackFrame).verify (lit bsASSOC).light.cell (lit bsASSOC).buoyHears).isSome = true ∧ (lit bsASSOC).msh.cellKey = none ∧
    (lit bsASSOC).fget F.MSH_SHORT_SHORT = 5 := by
  simp only [up_iff, hears_iff]; decide +kernel

theorem test_witness_mesh_data :
    (∀ f ∈ [setFrame, downFrame, forgedFrame], (partsOf f).head.type = tyDATA ∧ (partsOf f).head.dst = 5 ∧ (partsOf f).source = 0) ∧
    (partsOf setFrame).verify (listens none []).light.cell (listens none []).buoyHears = some [1] ∧
    (partsOf downFrame).verify (listens none []).light.cell (listens none []).buoyHears = some [0x10, 0xAB] ∧
    (partsOf forgedFrame).verify (listens none []).light.cell (listens none []).buoyHears = none ∧
    (listens none []).freeRx = some 0 ∧ rxFull.freeRx = none ∧ rxFull.Up ∧ rxFull.Hears downFrame ⟨0, 0, 0, 0⟩ (partsOf downFrame) ∧
    inFlood.Up ∧ inFlood.Hears floodFrame ⟨0, 0, 0, 0⟩ (partsOf floodFrame) ∧ inFlood.isBuoy = true ∧ inFlood.isKeeper = false ∧
    inFlood.inKind kFLOOD = true ∧ inFlood.msh.relayDue = false ∧ inFlood.msh.origDue = false ∧ inFlood.fbit F.MSH_RETRY_RELAY = true ∧
    (partsOf floodFrame).cellh = inFlood.light.cell % 256 ∧ (partsOf floodFrame).head.flood = some (2, 3) ∧ (partsOf floodFrame).head.type = tyDATA ∧
    (partsOf floodFrame).head.dst = 0 ∧ inFlood.wasSeen 3 (partsOf floodFrame).head.fcnt = false ∧ inFlood.msh.relays.length < 8 := by
  simp only [up_iff, hears_iff]; decide +kernel

def entry0 : AssocEntry := { long := 7, joined := true }
def keeping : State :=
  { hearing (keeper [(F.MSH_CFG_JOIN_OPEN, 1)]) with
    msh := { r0.msh with window := false, table := [(0, entry0)], cellKey := some (List.replicate 16 0) } }
theorem keeping_key : keeping.entryKey entry0 = List.replicate 16 0 := by decide +kernel
theorem test_witness_mesh_keeper :
    keeping.Up ∧ keeping.isKeeper = true ∧ keeping.rot.entry = none ∧ keeping.msh.window = false ∧ keeping.assoc 0 = some entry0 ∧
    (∀ f ∈ [upFrame, reqFrame], keeping.Hears f ⟨0, 0, 0, 0⟩ (partsOf f) ∧ (partsOf f).head.dst = 0 ∧ (partsOf f).head.flood = none ∧
      keeping.accept (partsOf f).source (partsOf f).head.fcnt entry0.fcnt = .new) ∧
    (partsOf upFrame).head.type = tyDATA ∧ (partsOf upFrame).source = 0 + 1 ∧ keeping.freeRx.isSome = true ∧
    (partsOf upFrame).verify keeping.light.cell ⟨keeping.entryKey entry0, entry0.long, 0⟩ = some [0x10, 0xAB] ∧
    (partsOf reqFrame).head.type = tyJOIN_REQ ∧ keeping.msh.table.find? (fun x => x.2.long == leAt (partsOf reqFrame).clear 0 4) = some (0, entry0) ∧
    keeping.fbit F.MSH_CFG_JOIN_OPEN = true ∧ keeping.msh.cellKey = some (List.replicate 16 0) ∧
    ((partsOf reqFrame).verify keeping.light.cell ⟨keeping.entryKey entry0, entry0.long, 0⟩).isSome = true := by
  rw [keeping_key]; simp only [up_iff, hears_iff]; decide +kernel

end Sys2Proof.Tests
end

section
/-! The scope of the device (spec/00_scope.md): SYS_CAPS of a part (R3), the SRAM window of the part with eight banks (R7) and the ledger
NVM window (R18). -/

namespace Sys2Proof.Machine

variable {s t : State} {a n : Nat}

/-! What no command touches -/

/-- Every command keeps a sound state sound and leaves the part, its silicon step and the queue: the `Kept` law of each command in turn. -/
theorem exec_kept {c : Instr} (hi : s.Inv) (h : exec c s = .next t) : State.Kept s t := by
  have hk := State.Kept.refl hi
  cases c with
  | read => exact execRead_kept hk h
  | write => exact execWrite_kept hk h
  | opStatus => exact execOpStatus_kept hk h
  | streamRead => exact execStreamRead_kept hk h
  | updateBlock => exact execUpdateBlock_kept hk h
  | requestAbort => exact execRequestAbort_kept hk h
  | shot => exact execShot_kept hk h
  | convert => exact execConvert_kept hk h
  | nvmWrite => exact execNvmWrite_kept hk h
  | scrub => exact execScrub_kept hk h
  | radioTx => exact execRadioTx_kept hk h
  | radioScan => exact execRadioScan_kept hk h
  | ledgerCommit => exact execLedgerCommit_kept hk h
  | slinkSet => exact execSlinkSet_kept hk h
  | stiLoad => exact execStiLoad_kept hk h
  | operationDeadline => exact execOperationDeadline_kept hk h
  | registerWrite => exact execRegisterWrite_kept hk h
  | pendingWrite => exact execPendingWrite_kept hk h
  | commitReq => exact execCommitReq_kept hk h
  | commitDiscard => exact execCommitDiscard_kept hk h
  | accumulatorSnapshot => exact execAccumulatorSnapshot_kept hk h
  | flwStatusSnapshot => exact execFlwStatusSnapshot_kept hk h
  | tmuStatusSnapshot => exact execTmuStatusSnapshot_kept hk h
  | eventChannelArm => exact execEventChannelArm_kept hk h
  | eventChannelDisarm => exact execEventChannelDisarm_kept hk h
  | resultQueueRead => exact execResultQueueRead_kept hk h
  | statisticsGo => exact execStatisticsGo_kept hk h
  | statisticsStop => exact execStatisticsStop_kept hk h
  | statisticsSnapshot => exact execStatisticsSnapshot_kept hk h
  | slotRelease => exact execSlotRelease_kept hk h
  | reseed => exact execReseed_kept hk h
  | ampReset => exact execAmpReset_kept hk h
  | hostEmpty => exact execHostEmpty_kept hk h
  | hostRefill => exact execHostRefill_kept hk h
  | unfail => exact execUnfail_kept hk h
  | ratioReset => exact execRatioReset_kept hk h
  | clearLedger => exact execClearLedger_kept hk h
  | hostincGo => exact execHostincGo_kept hk h
  | rxrel => exact execRxrel_kept hk h
  | join => exact execJoin_kept hk h
  | leave => exact execLeave_kept hk h
  | report => exact execReport_kept hk h
  | fogGo => exact execFogGo_kept hk h
  | provisionWrite => exact execProvisionWrite_kept hk h
  | provisionDelete => exact execProvisionDelete_kept hk h
  | provisionLoad => exact execProvisionLoad_kept hk h
  | keeperEventRead => exact execKeeperEventRead_kept hk h
  | rowRetire => exact execRowRetire_kept hk h
  | pageRetire => exact execPageRetire_kept hk h
  | flipArm => exact execFlipArm_kept hk h
  | flipDisarm => exact execFlipDisarm_kept hk h
  | logSnapshot => exact execLogSnapshot_kept hk h
  | logClear => exact execLogClear_kept hk h
  | policyWrite => exact execPolicyWrite_kept hk h
  | hold => exact execHold_kept hk h
  | sleepSet => exact execSleepSet_kept hk h
  | sleepSetStart => exact execSleepSetStart_kept hk h
  | rtcFieldWrite => exact execRtcFieldWrite_kept hk h
  | rtcCommit => exact execRtcCommit_kept hk h
  | rtcDiscard => exact execRtcDiscard_kept hk h
  | rtcUnfreeze => exact execRtcUnfreeze_kept hk h
  | timeRead => exact execTimeRead_kept hk h
  | trimWrite => exact execTrimWrite_kept hk h
  | updBegin => exact execUpdBegin_kept hk h
  | updVerify => exact execUpdVerify_kept hk h
  | updActivate => exact execUpdActivate_kept hk h
  | updAbort => exact execUpdAbort_kept hk h
  | updConfirm => exact execUpdConfirm_kept hk h
  | transitionRequest => exact execTransitionRequest_kept hk h
  | transitionCancel => exact execTransitionCancel_kept hk h
  | keyWrite => exact execKeyWrite_kept hk h
  | trngRead => exact execTrngRead_kept hk h
  | trigEdge => exact execTrigEdge_kept hk h
  | rstnReset => exact execRstnReset_kept hk h
  | powerOn => exact execPowerOn_kept hk h
  | wdog => exact execWdog_kept hk h
  | poisonExec => exact execPoisonExec_kept hk h
  | clkLoss => exact execClkLoss_kept hk h
  | brownout => exact execBrownout_kept hk h
  | recoveryComplete => exact execRecoveryComplete_kept hk h
  | bkpPowerLoss => exact execBkpPowerLoss_kept hk h
  | powerFailWarning => exact execPowerFailWarning_kept hk h
  | supplyRecovered => exact execSupplyRecovered_kept hk h
  | retentionMonitorTrip => exact execRetentionMonitorTrip_kept hk h
  | lockLoss => exact execLockLoss_kept hk h
  | relock => exact execRelock_kept hk h
  | eventOrigin => exact execEventOrigin_kept hk h
  | eventEdge => exact execEventEdge_kept hk h
  | coarseOverflow => exact execCoarseOverflow_kept hk h
  | zeroCrossing => exact execZeroCrossing_kept hk h
  | lfTick => exact execLfTick_kept hk h
  | freezeTimeout => exact execFreezeTimeout_kept hk h
  | rateRecompute => exact execRateRecompute_kept hk h
  | hourAdvance => exact execHourAdvance_kept hk h
  | mark => exact execMark_kept hk h
  | swapReset => exact execSwapReset_kept hk h
  | markLead => exact execMarkLead_kept hk h
  | facetStart => exact execFacetStart_kept hk h
  | facetEnd => exact execFacetEnd_kept hk h
  | apply1Work => exact execApply1Work_kept hk h
  | apply2Work => exact execApply2Work_kept hk h
  | stiValidationDone => exact execStiValidationDone_kept hk h
  | hwShotFire => exact execHwShotFire_kept hk h
  | hostShotFire => exact execHostShotFire_kept hk h
  | captureComplete => exact execCaptureComplete_kept hk h
  | echoStep => exact execEchoStep_kept hk h
  | conversionStart => exact execConversionStart_kept hk h
  | dischargeTimeout => exact execDischargeTimeout_kept hk h
  | conversionComplete => exact execConversionComplete_kept hk h
  | periodicCommit => exact execPeriodicCommit_kept hk h
  | ledgerRecordProgram => exact execLedgerRecordProgram_kept hk h
  | ledgerPageErase => exact execLedgerPageErase_kept hk h
  | nvmPageAttempt => exact execNvmPageAttempt_kept hk h
  | scrubWord => exact execScrubWord_kept hk h
  | rowCopyDone => exact execRowCopyDone_kept hk h
  | pulseStart => exact execPulseStart_kept hk h
  | pulseEnd => exact execPulseEnd_kept hk h
  | governorMinute => exact execGovernorMinute_kept hk h
  | lbtListenEnd => exact execLbtListenEnd_kept hk h
  | transmissionEnd => exact execTransmissionEnd_kept hk h
  | frameReceived => exact execFrameReceived_kept hk h
  | answerWindowEnd => exact execAnswerWindowEnd_kept hk h
  | ackSend => exact execAckSend_kept hk h
  | downlinkSend => exact execDownlinkSend_kept hk h
  | retryWaitEnd => exact execRetryWaitEnd_kept hk h
  | flashSend => exact execFlashSend_kept hk h
  | flashWindowOpen => exact execFlashWindowOpen_kept hk h
  | flashWindowClose => exact execFlashWindowClose_kept hk h
  | floodRelay => exact execFloodRelay_kept hk h
  | floodOriginate => exact execFloodOriginate_kept hk h
  | joinReq => exact execJoinReq_kept hk h
  | scanDwellEnd => exact execScanDwellEnd_kept hk h
  | fogEvent => exact execFogEvent_kept hk h
  | abortPoint => exact execAbortPoint_kept hk h
  | fogFrameSend => exact execFogFrameSend_kept hk h
  | wakeStage => exact execWakeStage_kept hk h
  | supplyLinkAttempt => exact execSupplyLinkAttempt_kept hk h
  | domainTransitionTimeout => exact execDomainTransitionTimeout_kept hk h
  | vdrvSettle => exact execVdrvSettle_kept hk h
  | eraseDone => exact execEraseDone_kept hk h
  | blockProgram => exact execBlockProgram_kept hk h
  | verificationDone => exact execVerificationDone_kept hk h
  | selfTest => exact execSelfTest_kept hk h
  | trialWindowExpiry => exact execTrialWindowExpiry_kept hk h
  | trngHealthFail => exact execTrngHealthFail_kept hk h
  | trngRetest => exact execTrngRetest_kept hk h
  | syncPulseEnd => exact execSyncPulseEnd_kept hk h
  | sfdEnd => exact execSfdEnd_kept hk h
  | aonPowerLoss => exact execAonPowerLoss_kept hk h

/-! SYS_CAPS (R3) -/

/-- SYS_CAPS depends on the part alone. -/
theorem State.sysCaps_congr (h : t.part = s.part) : t.sysCaps = s.sysCaps := by
  simp only [State.sysCaps, State.ports, State.chords, State.hasRadio, State.hasKeeper, State.hasPressure, State.hasGas, State.banks,
    State.assocLog2, h]

/-- A read of the SYS_CAPS register returns the value of the part. -/
theorem State.readReg_sysCaps : s.readReg Reg.SYS_CAPS = (s.sysCaps, s) := by
  rw [State.readReg_sys (by decide) (State.present_of_region (by decide))]
  rfl

/-- Settles O5: the value is a function of the part, READ serves it as one clean register word, and every command keeps the part. -/
theorem sysCapsFixed : Obligations.SysCapsFixed := by
  unfold Obligations.SysCapsFixed
  refine ⟨fun s => ?_, fun s tag crc hu hs => ?_, fun c s t hi h => ?_⟩
  · cases hp : s.part <;> exact State.sysCaps_congr (s := { part := _ }) hp
  · have hw : (s.hostRead Reg.SYS_CAPS).RepliedWord (s.readReg Reg.SYS_CAPS).1 :=
      State.hostRead_word (by decide) (by decide) (State.regAt_of_find (by decide) (by decide))
        (State.regPoison_ne (by decide) (by decide) (by decide) (by decide))
    rw [State.readReg_sysCaps] at hw
    exact ⟨_, (exec_read hu hs).1, hw⟩
  · obtain ⟨-, hpart, -, -⟩ := exec_kept hi h
    exact State.sysCaps_congr hpart

/-! Refused READ and WRITE frames -/

/-- A READ of a span that R7 and R17 do not admit changes nothing but the response, which is BAD_ADDR with zeros. -/
theorem State.serveRead_badAddr (h : s.frameOk a n = false) :
    s.serveRead a n = s.respond ((s.header Sts.BAD_ADDR).withZeros n) := by
  simp [State.serveRead, State.readStatus, h]

theorem State.writeFrame_badAddr {d : List Byte} (h : s.frameOk a d.length = false) : s.writeFrame a d = (Sts.BAD_ADDR, s) := by
  simp [State.writeFrame, h]

/-- A WRITE to memory alone that may not be written is LOCKED, with nothing done. -/
theorem State.writeFrame_locked {d : List Byte} (hk : regPart a d.length = 0) (ho : s.frameOk a d.length = true)
    (hl : s.memWriteLocked a d.length = true) : s.writeFrame a d = (Sts.LOCKED, s) := by
  simp [State.writeFrame, hk, ho, hl, wordsOf, State.afterLocked]

/-- A WRITE that does nothing but answer a status leaves only the answer and its entry in the duplicate window (R299). -/
theorem exec_write_refused {tag : Byte} {addr : BitVec 24} {data : List Byte} {crc : BitVec 16} {st : Nat} (hu : s.Up)
    (hs : s.Serves (.write tag addr data crc)) (h : s.writeFrame addr.toNat data = (st, s)) :
    ∃ t, exec (.write tag addr data crc) s = .next t ∧ t.Replied st ∧ s.OnlyAnswered t (.write tag addr data crc) st := by
  refine ⟨_, (exec_write hu hs).1, ?_, _, rfl, ?_⟩
  · simp only [State.serveWrite, h]
    exact State.answer_replied
  · simp only [State.serveWrite, h, State.cacheFrame]
    split <;> rfl

/-! The windows (R7, R18) -/

theorem regPart_of_memory (h : 0x100000 ≤ a) : regPart a n = 0 := if_neg (by omega)

/-- The register part of a span that ends behind the register regions. -/
theorem regPart_of_end (h : 0x100000 < a + n) : regPart a n = 0x100000 - a := by unfold regPart; split <;> omega

/-- With eight banks no span that touches the SRAM window at 0x14_0000 or above is admitted (R7). -/
theorem State.frameOk_absentBanks (hp : s.part = .tv808h) (hn : n ≠ 0) (ha : a < 0x180000) (he : 0x140000 < a + n) :
    s.frameOk a n = false := by
  have hb : s.banks = 8 := by simp [State.banks, hp]
  have hk : regPart a n = 0x100000 - a := regPart_of_end (by omega)
  have hm : s.memOk (a + regPart a n) (n - regPart a n) = false := by
    simp [State.memOk, hb, hk]
    omega
  have hr : n ≠ regPart a n := by omega
  simp [State.frameOk, hm, hr]

/-- A frame in the ledger NVM window passes the address check (R17). -/
theorem State.frameOk_ledger (h1 : 0x300000 ≤ a) (h2 : a + n ≤ 0x310000) : s.frameOk a n = true := by
  simp [State.frameOk, regPart_of_memory (show 0x100000 ≤ a by omega), State.memOk]
  omega

/-- The host may not write the ledger NVM window (R18). -/
theorem State.memWriteLocked_ledger (hn : n ≠ 0) (h1 : 0x300000 ≤ a) (h2 : a + n ≤ 0x310000) : s.memWriteLocked a n = true := by
  have hw : spansMeet a n 0x200000 0x310000 = true := by simp [spansMeet, hn]; omega
  simp [State.memWriteLocked, hw]

/-- Settles O7: the window is served, and memory there is locked for the host. -/
theorem ledgerWindowLocked : Obligations.LedgerWindowLocked := by
  unfold Obligations.LedgerWindowLocked
  intro tag addr data crc s hu hs h1 h2
  have hn := (exec_write hu hs).2
  exact exec_write_refused hu hs
    (State.writeFrame_locked (regPart_of_memory (by omega)) (State.frameOk_ledger h1 h2) (State.memWriteLocked_ledger hn h1 h2))

/-- Settles O8: neither frame passes the address check of R7. -/
theorem eightBankWindow : Obligations.EightBankWindow := by
  unfold Obligations.EightBankWindow
  refine ⟨fun tag addr len crc s hu hp hs ha he => ?_, fun tag addr data crc s hu hp hs ha he => ?_⟩
  · obtain ⟨hx, hn⟩ := exec_read hu hs
    rw [State.serveRead_badAddr (State.frameOk_absentBanks hp hn ha he)] at hx
    exact ⟨_, _, hx, rfl, rfl, rfl⟩
  · have hn := (exec_write hu hs).2
    exact exec_write_refused hu hs (State.writeFrame_badAddr (State.frameOk_absentBanks hp hn ha he))

end Sys2Proof.Machine
end

section
/-! The host interface (spec/12_host_interface.md): an OP_SUBMIT that is answered but not entered, and the epoch check (R303). -/

namespace Sys2Proof.Machine

variable {s : State}

/-! The header of an OP_SUBMIT frame (R302) -/

/-- Every operation's command carries the OP_SUBMIT frame of its TYPE. -/
theorem frameOf_submits {p : Nat × (OpReq → Instr)} (hp : p ∈ submits) (r : OpReq) : frameOf (p.2 r) = some (submitFrame p.1 r) := by
  simp only [submits, List.mem_cons, List.not_mem_nil, or_false] at hp
  rcases hp with rfl | rfl | rfl | rfl | rfl | rfl | rfl | rfl | rfl <;> rfl

/-- The OP_SUBMIT frame of a served operation has a payload, for its OPCODE is not an unknown one. -/
theorem unknownOpcode_of_serves {type : Nat} {r : OpReq} {c : Instr} (hc : frameOf c = some (submitFrame type r)) (hs : s.Serves c) :
    unknownOpcode r = none := by
  obtain ⟨f, hf, -, -, hform, -⟩ := hs
  cases hc.symm.trans hf
  exact (submitFrame_opcode hform).1

theorem leAt_submitFrame_flags {r : OpReq} (type : Nat) (hu : unknownOpcode r = none) :
    leAt (submitFrame type r).payload 1 1 = r.flags.toNat := by
  simp [submitFrame, hu, leBytes, leAt, sliceBytes, ofLe]

theorem leAt_submitFrame_epoch {r : OpReq} (type : Nat) (hu : unknownOpcode r = none) :
    leAt (submitFrame type r).payload 2 1 = r.epoch.toNat := by
  simp [submitFrame, hu, leBytes, leAt, sliceBytes, ofLe]

/-! Refusals -/

/-- An answer with its entry in the duplicate window changes nothing else (R299). -/
theorem State.onlyAnswered_cacheFrame_answer {c : Instr} {f : Frame} {st : Nat} (hc : frameOf c = some f) :
    s.OnlyAnswered ((s.cacheFrame f st).answer st) c st := by
  refine ⟨f, hc, ?_⟩
  unfold State.cacheFrame
  split <;> rfl

/-- An OP_SUBMIT that does nothing but answer a status leaves only the answer and its entry in the duplicate window. -/
theorem exec_submit_refused {type : Nat} {r : OpReq} {c : Instr} {st : Nat} (hu : s.Up) (hc : frameOf c = some (submitFrame type r))
    (hs : s.Serves c)
    (h : s.serveSubmit (submitFrame type r) = (s.cacheFrame (submitFrame type r) st).answer st) :
    ∃ t, exec c s = .next t ∧ t.Replied st ∧ s.OnlyAnswered t c st := by
  have hx := exec_submit hu hc hs
  rw [h] at hx
  exact ⟨_, hx, State.answer_replied, State.onlyAnswered_cacheFrame_answer hc⟩

/-- The epoch check comes first: with CHKEPOCH and another epoch the frame is answered STALE_EPOCH (R303). -/
theorem State.serveSubmit_staleEpoch {f : Frame} (hchk : (leAt f.payload 1 1).testBit 1 = true)
    (hepoch : leAt f.payload 2 1 ≠ s.fget F.SYS_EPOCH_EPOCH) :
    s.serveSubmit f = (s.cacheFrame f Sts.STALE_EPOCH).answer Sts.STALE_EPOCH := by
  simp [State.serveSubmit, hchk, hepoch]

/-- Settles O12: the flags and the epoch of the command are those of its frame, and the epoch check of the frame refuses it. -/
theorem staleEpochNotEntered : Obligations.StaleEpochNotEntered := by
  unfold Obligations.StaleEpochNotEntered
  intro p hp r s hu hs hchk hepoch
  have hc := frameOf_submits hp r
  have ho := unknownOpcode_of_serves hc hs
  refine exec_submit_refused hu hc hs (State.serveSubmit_staleEpoch ?_ ?_)
  · rwa [leAt_submitFrame_flags _ ho]
  · rwa [leAt_submitFrame_epoch _ ho]

end Sys2Proof.Machine
end
